-- ==== Sys2Proof/Word.lean ====
section
/-! DEFINITION. The plain data of the model: bytes, 64-bit words, little-endian byte strings (R12) and the sparse map in
one canonical form that holds memory, registers and every indexed set of units. -/

namespace Sys2Proof

/-- One byte. -/
abbrev Byte := BitVec 8

/-- One 64-bit register or memory word (R16). -/
abbrev Word := BitVec 64

/-- A sparse map by number: keys strictly rising, no entry equal to what an unlisted key reads as. -/
abbrev SMap (α : Type) := List (Nat × α)

/-- Reading a sparse map: `d k` is what an unlisted key `k` reads as. -/
def smGet {α : Type} (d : Nat → α) : SMap α → Nat → α
  | [], i => d i
  | (k, v) :: r, i => if k = i then v else smGet d r i

/-- Writing a sparse map; writing what an unlisted key reads as removes the entry. -/
def smPut {α : Type} [DecidableEq α] (d : Nat → α) : SMap α → Nat → α → SMap α
  | [], i, v => if v = d i then [] else [(i, v)]
  | (k, w) :: r, i, v =>
    if i < k then (if v = d i then (k, w) :: r else (i, v) :: (k, w) :: r)
    else if i = k then (if v = d i then r else (i, v) :: r)
    else (k, w) :: smPut d r i v

/-- The canonical form, from a lower bound on the keys. -/
def smWfFrom {α : Type} [DecidableEq α] (d : Nat → α) : Nat → SMap α → Bool
  | _, [] => true
  | lo, (k, v) :: r => decide (lo ≤ k) && decide (v ≠ d k) && smWfFrom d (k + 1) r

/-- The canonical form of a sparse map. -/
def smWf {α : Type} [DecidableEq α] (d : Nat → α) (m : SMap α) : Bool := smWfFrom d 0 m

/-- The bytes of a number, `n` of them, least significant first (R12). -/
def leBytes : Nat → Nat → List Byte
  | 0, _ => []
  | n + 1, v => BitVec.ofNat 8 v :: leBytes n (v / 256)

/-- The number that a little-endian byte string spells (R12). -/
def leNat : List Byte → Nat
  | [] => 0
  | b :: r => b.toNat + 256 * leNat r

/-- The bits `[lo + w - 1 : lo]` of a number. -/
def bitsAt (v lo w : Nat) : Nat := (v >>> lo) % 2 ^ w

/-- A number with its bits `[lo + w - 1 : lo]` replaced. -/
def setBitsAt (v lo w x : Nat) : Nat :=
  v - (bitsAt v lo w) * 2 ^ lo + (x % 2 ^ w) * 2 ^ lo

/-- A number of `w` bits read as two's complement. -/
def signed (w v : Nat) : Int := if v % 2 ^ w < 2 ^ (w - 1) then (v % 2 ^ w : Nat) else (v % 2 ^ w : Nat) - (2 ^ w : Nat)

/-- The `w`-bit two's complement pattern of an integer. -/
def unsigned (w : Nat) (x : Int) : Nat := (x % (2 ^ w : Nat)).toNat

/-- Rounding a count up to a multiple. -/
def roundUp (n m : Nat) : Nat := if m = 0 then n else (n + m - 1) / m * m

/-- A count that holds at its largest value. -/
def satAdd (w a b : Nat) : Nat := min (a + b) (2 ^ w - 1)

/-- The first `n` numbers from `a` upwards. -/
def rangeFrom (a n : Nat) : List Nat := (List.range n).map (a + ·)

end Sys2Proof
end

