-- ==== Sys2Proof/Syntax.lean ====
section
/-! DEFINITION. The commands that come to the node from outside: what reaches its port, its pins, its clocks and its media,
and the completions and time-outs of its own units, one constructor for each row of the table of operations and events. -/

namespace Sys2Proof

/-- A Skorath packet (R379): header fields by their names, the data bytes, and whether the network marked it ECN CE.
Assumption log: 204 (DESIGN CHOICE). -/
structure Packet where
  op : Nat := 0
  first : Bool := true
  last : Bool := true
  mcast : Bool := false
  retx : Bool := false
  syn : Bool := false
  cls : Nat := 0
  src : Nat := 0
  dst : Nat := 0
  gten : Nat := 0
  path : Nat := 0
  psn : Nat := 0
  group : Nat := 0
  opId : Nat := 0
  offset : Nat := 0
  total : Nat := 0
  pos : Nat := 0
  sub : Nat := 0
  operand : Nat := 0
  data : List Byte := []
  ce : Bool := false
deriving DecidableEq, Repr

/-- The operation part of an ACK (R384). -/
structure AckInfo where
  peer : Nat := 0
  cls : Nat := 0
  next : Nat := 0
  sack : Nat := 0
  window : Nat := 0
  code : Nat := 0
  opId : Nat := 0
deriving DecidableEq, Repr

/-- A PTP message as far as the part's own rules speak of it (R368): message type, domain, transport (R373), and the
timestamps it carries.
Assumption log: 19 (PRESUMED). -/
structure PtpMsg where
  kind : Nat := 0
  domain : Nat := 0
  transport : Nat := 0
  seq : Nat := 0
  stamp : Nat := 0
  twoStep : Bool := false
deriving DecidableEq, Repr

/-- The IP and UDP headers before a Skorath header (R376); `ver` 0 IPv6, 1 IPv4, 2 raw. -/
structure NetHdr where
  ver : Nat := 0
  dstIp : Nat := 0
  srcIp : Nat := 0
  dport : Nat := 0
  csumBad : Bool := false
deriving DecidableEq, Repr

/-- What a received frame carries above its tags; of an ACK or a CNP, the node it is addressed to, and its fields (R379, R384, R389).
Assumption log: 204 (DESIGN CHOICE). -/
inductive FrameBody where
  | sko (net : NetHdr) (pkt : Packet)
  | ack (net : NetHdr) (dst syndrome : Nat) (a : AckInfo)
  | cnp (net : NetHdr) (dst peer cls path : Nat)
  | ptp (m : PtpMsg)
  | pfc (quanta : List (Nat × Nat))
  | other
deriving DecidableEq, Repr

/-- The SecTAG of a MACsec frame (R371): association number, packet number, SCI, and the protected bytes.
Assumption log: 113 (DESIGN CHOICE). -/
structure SecTag where
  an : Nat
  pn : Nat
  sci : Nat
  bytes : List Byte
deriving DecidableEq, Repr

/-- A frame at the MDI (R363, R364): length from destination address to FCS, addresses with the first octet in [7:0], tags
as (TPID, PCP, VID), Ethertype, content. -/
structure Frame where
  len : Nat
  fcsOk : Bool
  dst : Nat
  src : Nat
  tags : List (Nat × Nat × Nat)
  sec : Option SecTag
  ethertype : Nat
  body : FrameBody
deriving DecidableEq, Repr

/-- Where an operation that reaches the Skorath engine comes from: a packet of a peer, or the operation at the head of the
node's own loop, which never leaves the node (R381). -/
inductive Rx where
  | wire (p : Packet)
  | loop
deriving DecidableEq, Repr

/-- The commands: one constructor for each row of the table of operations and events. -/
inductive Instr where
  /-- REGISTER_WRITE (R17): A control-window write to a register that has no row of its own sets its RW fields under its
    block's consistency rule. -/
  | registerWrite (offset : Nat) (value : Nat)
  /-- TAIL_WRITE (R30): A producer's write to a ring tail word is validated and becomes one token covering the new granules. -/
  | tailWrite (ring : Nat) (value : Nat)
  /-- CREDIT_RETURN (R33): A consumer's head advance returns credits to the registered producer. -/
  | creditReturn (ring : Nat) (head : Nat)
  /-- TOKEN_TAKE (R142): A sequencer takes a head token once it holds the whole credit set, checks the deadline and starts
    the chain. -/
  | tokenTake (tile : Nat)
  /-- PTP_MEASUREMENT (R44): An accepted PTP offset measurement is slewed, counted toward a step, stepped or held, and moves
    the synchronisation state. -/
  | ptpMeasurement (master : Nat)
  /-- PPS_EDGE (R40): In PPS mode a PPS rising edge sets t from BEAT_PPS_SEC and increments BEAT_PPS_SEC. -/
  | ppsEdge
  /-- PTP_PARENT_LOST (R41): Loss of the PTP slave's parent moves ACQUIRING or LOCKED to HOLDOVER. -/
  | ptpParentLost
  /-- HOLDOVER_ENTRY (R41): After HOLD_ENTRY_MS without an accepted measurement the state becomes HOLDOVER. -/
  | holdoverEntry
  /-- HOLDOVER_DEGRADE (R42): When the holdover error estimate exceeds HOLD_LIMIT_NS the state becomes DEGRADED. -/
  | holdoverDegrade
  /-- ACCEPT_STEP (R45): BEAT_CTRL.ACCEPT_STEP applies the held step and enters ACQUIRING. -/
  | acceptStep
  /-- REJECT_STEP (R45): BEAT_CTRL.REJECT_STEP discards the held step and stays in STEP_HELD. -/
  | rejectStep
  /-- DISARM_ALL (R53): BEAT_CTRL.DISARM_ALL disarms every ARMED entry whose slot has not opened. -/
  | disarmAll
  /-- ARM (R49): BEAT_EVT_CTL.ARM arms an entry after the action and horizon checks, dispatching it at once if past-due. -/
  | arm (entry : Nat)
  /-- DISARM (R53): BEAT_EVT_CTL.DISARM cancels an entry if accepted before its dispatch slot. -/
  | disarm (entry : Nat)
  /-- BEAT_BOUNDARY (R38): t reaches the boundary of the next beat, the beat count advances and a freeze ends. -/
  | beatBoundary
  /-- ARMED_EVENT_DISPATCH (R50): A 16 ns dispatch slot opens and the next due armed entry is dispatched in order. -/
  | armedEventDispatch
  /-- STAGE (R71): IMG_CTRL.STAGE starts checking the image at IMG_STAGE_ADDR. -/
  | stage
  /-- STAGING_DONE (R71): Staging checks end, staging or rejecting the image. -/
  | stagingDone
  /-- DISCARD (R74): IMG_CTRL.DISCARD removes an unused staged image. -/
  | discard
  /-- PROMOTE (R75): IMG_CTRL.PROMOTE forces promotion of the staged image. -/
  | promote
  /-- APPLY_FULL (R76): IMG_CTRL.APPLY_FULL refuses new requests, drains all panels and starts a full load. -/
  | applyFull
  /-- FULL_LOAD_DONE (R76): A full load finishes loading every section and the image becomes active. -/
  | fullLoadDone
  /-- PANEL_DRAIN_DONE (R78): The last taken token of a draining panel completes and the panel moves to WAITING. -/
  | panelDrainDone (panel : Nat)
  /-- PANEL_DRAIN_TIMEOUT (R78): DRAINING reaches 122 beats and running chains are stopped with E_CANCELLED. -/
  | panelDrainTimeout (panel : Nat)
  /-- PANEL_LOAD_START (R80): The loader becomes free, checks the new tile set and bodies, and starts LOADING or falls back. -/
  | panelLoadStart (panel : Nat)
  /-- PANEL_LOAD_DONE (R78): The reload volume has been written and the panel moves to ACTIVATING. -/
  | panelLoadDone (panel : Nat)
  /-- PANEL_ACTIVATED (R79): The panel's sequencers take their first token and EV_PANEL_RELOADED is raised. -/
  | panelActivated (panel : Nat)
  /-- DOVETAIL_EXPIRY (R85): The dovetail window reaches cut beat plus DOVETAIL_BEATS and closes. -/
  | dovetailExpiry
  /-- MATMUL (R99): A MATMUL descriptor computes grouped block partials and writes the outputs. -/
  | matmul (tile : Nat)
  /-- REDUCE (R107): A REDUCE descriptor combines block partials in ascending block order. -/
  | reduce (tile : Nat)
  /-- ROTATE (R110): A ROTATE descriptor applies the block-Hadamard rotation. -/
  | rotate (tile : Nat)
  /-- QUANTISE (R113): A QUANTISE descriptor quantises FP32 vectors into scaled narrow groups. -/
  | quantise (tile : Nat)
  /-- DEQUANTISE (R117): A DEQUANTISE descriptor converts scaled elements to FP32. -/
  | dequantise (tile : Nat)
  /-- ELEMWISE (R108): An ELEMWISE descriptor applies an elementwise vector function. -/
  | elemwise (tile : Nat)
  /-- ACTIVATE (R134): An ACTIVATE descriptor applies the selected activation function. -/
  | activate (tile : Nat)
  /-- NORMALISE (R135): A NORMALISE descriptor normalises each row. -/
  | normalise (tile : Nat)
  /-- ATTEND (R136): An ATTEND descriptor computes attention over key blocks. -/
  | attend (tile : Nat)
  /-- PQ_TABLE (R206): A PQ_TABLE descriptor builds the fixed-point query distance tables. -/
  | pqTable (tile : Nat)
  /-- DENSE_SCAN (R209): A DENSE_SCAN descriptor scores a list's codes for a batch and writes candidates. -/
  | denseScan (tile : Nat)
  /-- COARSE (R205): A COARSE descriptor scores queries against centroids and ranks lists. -/
  | coarse (tile : Nat)
  /-- RERANK (R217): A RERANK descriptor computes exact distances for candidates. -/
  | rerank (tile : Nat)
  /-- TOPK (R257): A TOPK descriptor selects the first k entries after an optional bound. -/
  | topk (tile : Nat)
  /-- MASK (R133): A MASK descriptor sets logits with a clear mask bit to minus infinity. -/
  | maskLogits (tile : Nat)
  /-- SAMPLE (R137): A SAMPLE descriptor picks a token greedily or by seeded top-p sampling. -/
  | sample (tile : Nat)
  /-- GRAD_ACCUM (R118): A GRAD_ACCUM descriptor adds a gradient into the accumulator and optionally quantises it. -/
  | gradAccum (tile : Nat)
  /-- OPT_STEP (R120): An OPT_STEP descriptor applies an Adam or momentum update in place. -/
  | optStep (tile : Nat)
  /-- SEND (R141): A SEND descriptor writes one message to a destination ring and advances its tail. -/
  | send (tile : Nat)
  /-- TILE_CREDIT_STALL (R143): A head token waiting STALL_LIMIT beats for credits raises EV_TILE_CREDIT_STALL. -/
  | tileCreditStall (tile : Nat)
  /-- TILE_HANG (R146): A descriptor running past DESC_LIMIT ends its chain and holds the tile. -/
  | tileHang (tile : Nat)
  /-- TILE_HALT (R147): Writing TILE_DBG_CTRL.HALT to 1 halts the tile at the next descriptor boundary. -/
  | tileHalt (tile : Nat)
  /-- TILE_RESUME (R147): Writing TILE_DBG_CTRL.HALT to 0 resumes a halted tile. -/
  | tileResume (tile : Nat)
  /-- TILE_STEP (R147): TILE_DBG_CTRL.STEP runs exactly one descriptor and halts again. -/
  | tileStep (tile : Nat)
  /-- SCORE_PQ (R159): An inlay unit scores product codes for up to 8 queries and returns local lists. -/
  | scorePq (stack : Nat) (unit : Nat)
  /-- DOT_I8 (R163): An inlay unit computes INT8 dot products for up to 8 queries. -/
  | dotI8 (stack : Nat) (unit : Nat)
  /-- GATHER_ROW (R281): An inlay unit reads a row extent into its result FIFO. -/
  | gatherRow (stack : Nat) (unit : Nat)
  /-- REPLACE_ROW (R164): An inlay unit writes a row extent from the payload in one commit. -/
  | replaceRow (stack : Nat) (unit : Nat)
  /-- RMW_ROW (R288): An inlay unit applies an optimiser read-modify-write to a row extent. -/
  | rmwRow (stack : Nat) (unit : Nat)
  /-- FENCE (R157): An inlay unit returns an empty result once earlier commands complete. -/
  | fence (stack : Nat) (unit : Nat)
  /-- LOAD_TSLOT (R160): A broadcast fills table slots in every unit of a stack. -/
  | loadTslot (stack : Nat) (first : Nat) (data : List Byte)
  /-- LOAD_FILTER (R161): A broadcast fills a filter slot in every unit of a stack. -/
  | loadFilter (stack : Nat) (slot : Nat) (data : List Byte)
  /-- SCRUB (R169): Background scrub reads a word, writes back a corrected one or poisons an uncorrectable one. -/
  | scrub (stack : Nat) (offset : Nat)
  /-- INLAY_PARITY_ERROR (R171): A table store or FIFO parity error takes the unit OFFLINE. -/
  | inlayParityError (stack : Nat) (unit : Nat)
  /-- INLAY_CMD_HANG (R171): A command running past CMD_LIMIT takes the unit OFFLINE. -/
  | inlayCmdHang (stack : Nat) (unit : Nat)
  /-- INLAY_ONLINE (R171): INL_UNIT_CTRL.ONLINE clears an OFFLINE unit's FIFOs and starts the table copy. -/
  | inlayOnline (stack : Nat) (unit : Nat)
  /-- INLAY_COPY_DONE (R171): The table and filter copy finishes, pending broadcasts apply and the unit becomes IDLE. -/
  | inlayCopyDone (stack : Nat) (unit : Nat)
  /-- HEAT_HALVING (R178): At each multiple of HEAT_PERIOD every page heat counter is halved. -/
  | heatHalving
  /-- DEMOTION_SWEEP (R180): Free frames below LOW_WATER start the sweep that begins demotions of cold pages. -/
  | demotionSweep
  /-- PROMOTION_DONE (R179): A promotion's frame is written and the page flips to STACK, releasing waiting accesses. -/
  | promotionDone (page : Nat)
  /-- DEMOTION_DONE (R181): A demotion's extent is reported written and the page flips to FLASH or ZERO. -/
  | demotionDone (page : Nat)
  /-- TIER_FLASH_READ_DONE (R187): A tier extent read returns, is checked and serves the waiting accesses. -/
  | tierFlashReadDone (page : Nat)
  /-- LATE_POINT (R189): At a request's late point its outstanding flash reads become late and LATE_PATH is followed. -/
  | latePoint (src : Nat) (reqId : Nat)
  /-- ZERO_PAGE (R191): TIER_PAGE_OP.ZERO_PAGE makes the selected page ZERO and frees its storage. -/
  | zeroPage
  /-- MIG_START (R192): TIER_MIG_CTL.START checks the slot and starts copying the object. -/
  | migStart (slot : Nat)
  /-- MIG_COPY_DONE (R192): A migration copy finishes and the slot becomes READY. -/
  | migCopyDone (slot : Nat)
  /-- MIG_ABORT (R193): TIER_MIG_CTL.ABORT fails a COPYING or READY slot. -/
  | migAbort (slot : Nat)
  /-- MIG_FREE (R195): TIER_MIG_CTL.FREE returns a DONE or FAILED slot to FREE. -/
  | migFree (slot : Nat)
  /-- MIG_CONFIRM (R196): TIER_MIG_CTL.CONFIRM completes a STALLED row cut as if acknowledged. -/
  | migConfirm (slot : Nat)
  /-- MIG_REVERT (R196): TIER_MIG_CTL.REVERT restores the old home of a STALLED row and releases held requests. -/
  | migRevert (slot : Nat)
  /-- PAGE_CUT_COMPLETE (R194): Admitted writes finish, dirty granules copy and the page flips to its new home. -/
  | pageCutComplete (slot : Nat)
  /-- ROW_CUT_SEND (R195): The admitted update completes and the row's final state is read and sent to the new home. -/
  | rowCutSend (slot : Nat)
  /-- ROW_INSTALL (R297): The new home installs a migrated row extent natively or in a guest slot and acknowledges. -/
  | rowInstall (node : Nat) (table : Nat) (row : Nat) (data : List Byte)
  /-- ROW_CUT_ACK (R195): The acknowledgement arrives, held requests are redirected and the slot becomes DONE. -/
  | rowCutAck (slot : Nat)
  /-- MIGRATE_STALL (R196): No acknowledgement 16 beats after sending makes the slot STALLED. -/
  | migrateStall (slot : Nat)
  /-- QUERY_LS (R222): A QUERY_LS is checked and its coarse assignment is sent. -/
  | queryLs (ring : Nat)
  /-- LS_COARSE_DONE (R205): A query's list ranking returns to the list scanner. -/
  | lsCoarseDone (src : Nat) (reqId : Nat)
  /-- LS_TABLE_DONE (R207): A query's fixed-point tables return and its lists join the gather window. -/
  | lsTableDone (src : Nat) (reqId : Nat)
  /-- GATHER_WINDOW_CLOSE (R208): The gather window closes, snapshots are taken and each list is decided dense or thin. -/
  | gatherWindowClose
  /-- LS_DENSE_DONE (R209): A dense scan's candidates and PASSED counts return. -/
  | lsDenseDone (tag : Nat)
  /-- THIN_RESULT (R210): A thin SCORE_PQ result block is taken, updating bounds or splitting runs. -/
  | thinResult (stack : Nat) (unit : Nat)
  /-- LS_RERANK_DONE (R217): Stage-1 rerank entries return and the K best are kept. -/
  | lsRerankDone (src : Nat) (reqId : Nat)
  /-- LS_MODEL_DONE (R217): Model rerank stage-2 entries return and the K best are kept. -/
  | lsModelDone (src : Nat) (reqId : Nat) (keys : List Nat)
  /-- APPEND (R212): An UPDATE_VEC APPEND adds a code to a list's tail. -/
  | append (ring : Nat)
  /-- DELETE_VEC (R213): An UPDATE_VEC DELETE sets a list slot's tombstone bit. -/
  | deleteVec (ring : Nat)
  /-- LS_INDEX_ENABLE (R199): Setting LS_IDX_CTL.EN checks and copies an index descriptor. -/
  | lsIndexEnable (slot : Nat)
  /-- LS_INDEX_DISABLE (R199): Clearing LS_IDX_CTL.EN refuses new requests for the shard. -/
  | lsIndexDisable (slot : Nat)
  /-- SHADOW_DONE (R220): A shadow completes and updates recall counters or sends its result. -/
  | shadowDone
  /-- QUERY_GW (R250): A QUERY_GW is checked and queued for a walker slot. -/
  | queryGw (ring : Nat)
  /-- WALK_START (R226): A free walker slot takes the next walk or insert and considers the entry points. -/
  | walkStart (wslot : Nat)
  /-- GW_SCORE_DONE (R227): GW_SCORE keys return and are inserted into the beam and output list. -/
  | gwScoreDone (wslot : Nat)
  /-- WALK_EXPANSION (R233): An adjacency row read returns and the next beam entry is expanded or the walk ends. -/
  | walkExpansion (wslot : Nat)
  /-- GW_PAIR_DONE (R241): GW_PAIR distances return for pruning. -/
  | gwPairDone (wslot : Nat)
  /-- INSERT (R242): An UPDATE_VEC INSERT searches, prunes and writes a new graph node. -/
  | insert (ring : Nat)
  /-- GW_DELETE (R244): An UPDATE_VEC DELETE tombstones a graph node. -/
  | gwDelete (ring : Nat)
  /-- COMPACT (R245): An UPDATE_VEC COMPACT frees a tombstoned slot and bumps its generation. -/
  | compact (ring : Nat)
  /-- SET_EDGES (R246): An UPDATE_VEC SET_EDGES replaces a node's adjacency row. -/
  | setEdges (ring : Nat)
  /-- GW_INDEX_ENABLE (R228): Setting WLK_IDX_CTL.EN checks and copies a graph descriptor. -/
  | gwIndexEnable (slot : Nat)
  /-- GW_INDEX_DISABLE (R228): Clearing WLK_IDX_CTL.EN refuses new requests for the graph shard. -/
  | gwIndexDisable (slot : Nat)
  /-- SEL_TOPK_DONE (R259): A SEL_TOPK pass returns and the next pass is sent or selection ends. -/
  | selTopkDone (src : Nat) (reqId : Nat)
  /-- MERGE (R265): A whole merge contribution is decided against its buffer and merged or discarded. -/
  | merge (rx : Rx)
  /-- MERGE_DEADLINE (R268): At DEADLINE minus FINAL_MARGIN an OPEN buffer finalises. -/
  | mergeDeadline (buf : Nat)
  /-- MERGE_IDLE_TIMEOUT (R268): IDLE_LIMIT beats without progress finalise a buffer and raise EV_SEL_MERGE_TIMEOUT. -/
  | mergeIdleTimeout (buf : Nat)
  /-- PAYLOAD_LOOKUP_DONE (R270): A payload LOOKUP returns and the RESULT is sent once all payloads are in. -/
  | payloadLookupDone (src : Nat) (reqId : Nat)
  /-- LOOKUP (R284): A LOOKUP is checked and its rows are read and written back as records. -/
  | lookup (ring : Nat)
  /-- ROW_COMMAND_DONE (R282): An inlay row command result returns to the tables engine. -/
  | rowCommandDone (stack : Nat) (unit : Nat)
  /-- REPLACE (R287): An UPDATE_ROW REPLACE writes a row's scale, offset and codes. -/
  | replace (ring : Nat)
  /-- APPLY (R288): An UPDATE_ROW APPLY runs one optimiser RMW_ROW on the row. -/
  | apply (ring : Nat)
  /-- LOAD (R287): An UPDATE_ROW LOAD writes a row and zeroes its optimiser state. -/
  | load (ring : Nat)
  /-- PIN (R294): A TABLE_OP PIN takes a pin handle on the frozen epoch. -/
  | pin (ring : Nat)
  /-- UNPIN (R294): A TABLE_OP UNPIN releases a pin handle, possibly allowing a pending flip. -/
  | unpin (ring : Nat)
  /-- TABLE_FLIP_TIMEOUT (R293): 4,096 beats after TABLE_EPOCH dispatch the table flips regardless of pins. -/
  | tableFlipTimeout (table : Nat)
  /-- SWAP (R295): A TABLE_OP SWAP starts replacing a run of rows from a source. -/
  | swap (ring : Nat)
  /-- SWAP_ROW_COMMIT (R295): A swap row commits, advancing the cursor and journalling it per MiB. -/
  | swapRowCommit (table : Nat)
  /-- TABLE_ENABLE (R275): Setting TBL_CTL.EN checks and copies a table descriptor. -/
  | tableEnable (table : Nat)
  /-- TABLE_DISABLE (R275): Clearing TBL_CTL.EN refuses new requests for the table. -/
  | tableDisable (table : Nat)
  /-- QUERY_TEXT (R309): A QUERY_TEXT is tokenised and its tokens sent to an ENCODER panel. -/
  | queryText (ring : Nat)
  /-- STREAM_OPEN (R311): A TEXT_STREAM OPEN takes a stream slot and sets up tokeniser, grammar and stop strings. -/
  | streamOpen (ring : Nat)
  /-- STREAM_INPUT (R303): A TEXT_STREAM INPUT tokenises user text and sends completed pieces as TXT_PROMPT. -/
  | streamInput (ring : Nat)
  /-- STREAM_CONTROL (R310): A TEXT_STREAM CONTROL ends user text and feeds trusted token IDs. -/
  | streamControl (ring : Nat)
  /-- STREAM_CLOSE (R322): A TEXT_STREAM CLOSE ends the stream with reason CLOSED. -/
  | streamClose (ring : Nat)
  /-- TXT_GEN (R314): A generated token is checked, matched against stops and grammar, emitted, and ends the stream or
    continues. -/
  | txtGen (ring : Nat)
  /-- MASK_FETCH_DONE (R313): The grammar mask arrives and the next TXT_STEP is sent. -/
  | maskFetchDone (stream : Nat)
  /-- STREAM_IDLE (R323): IDLE_LIMIT beats without a message end a non-generating stream. -/
  | streamIdle (stream : Nat)
  /-- STREAM_DEADLINE (R322): The OPEN's deadline beat boundary ends the stream. -/
  | streamDeadline (stream : Nat)
  /-- GRAMMAR_ENABLE (R319): Setting TXT_GRAM_CTL.EN checks and copies a grammar descriptor. -/
  | grammarEnable (grammar : Nat)
  /-- GRAMMAR_DISABLE (R319): Clearing TXT_GRAM_CTL.EN refuses new OPENs naming the grammar. -/
  | grammarDisable (grammar : Nat)
  /-- CARRIER_INSERT (R330): PRSNT_N low for 100 ms powers the carrier and starts IDENTIFYING. -/
  | carrierInsert (carrier : Nat) (kept : Bool) (model : Nat) (owner : List Byte) (tierBlocks : Nat) (blocks : List (Nat × List Byte))
  /-- CARRIER_REMOVED (R330): PRSNT_N rising makes the carrier ABSENT and ends its admitted requests. -/
  | carrierRemoved (carrier : Nat)
  /-- CARRIER_IDENTIFIED (R464): The carrier certificate and challenge complete and the carrier is refused, blank, foreign
    or mounts. -/
  | carrierIdentified (carrier : Nat) (cert : List Byte) (response : List Byte) (nand : Nat)
  /-- MOUNT_DONE (R330): Map replay and training end and the carrier becomes ONLINE, READ_ONLY or FAILED. -/
  | mountDone (carrier : Nat) (ok : Bool)
  /-- FORMAT (R334): FL_CAR_CTRL.FORMAT starts formatting a BLANK or FOREIGN carrier. -/
  | format (carrier : Nat)
  /-- FORMAT_DONE (R330): Formatting completes and the empty carrier becomes ONLINE. -/
  | formatDone (carrier : Nat)
  /-- ADOPT (R330): FL_CAR_CTRL.ADOPT rewrites a FOREIGN carrier's owner and keeps its contents. -/
  | adopt (carrier : Nat)
  /-- DETACH (R331): FL_CAR_CTRL.DETACH refuses new requests and starts quiescing the carrier. -/
  | detach (carrier : Nat)
  /-- DETACH_DONE (R331): Admitted work and records are written and power is released, leaving DETACHED. -/
  | detachDone (carrier : Nat)
  /-- ATTACH (R330): FL_CAR_CTRL.ATTACH restarts identification of a DETACHED, REFUSED or FAILED carrier. -/
  | attach (carrier : Nat)
  /-- SANITISE (R349): FL_CAR_CTRL.SANITISE ends requests and starts erasing every erase block. -/
  | sanitise (carrier : Nat)
  /-- SANITISE_DONE (R349): Every erase block is erased and the carrier returns to ONLINE. -/
  | sanitiseDone (carrier : Nat) (residue : Nat)
  /-- STORAGE_READ (R353): A STORAGE READ reads blocks and writes the reply record and data. -/
  | storageRead (ring : Nat)
  /-- STORAGE_WRITE (R337): A STORAGE WRITE admits blocks for programming, pulling data if asked. -/
  | storageWrite (ring : Nat)
  /-- STORAGE_DISCARD (R347): A STORAGE DISCARD unmaps blocks. -/
  | storageDiscard (ring : Nat)
  /-- SECURE_DISCARD (R348): A STORAGE SECURE_DISCARD unmaps blocks and starts erasing every copy. -/
  | secureDiscard (ring : Nat)
  /-- SECURE_DISCARD_DONE (R348): Every erase block holding a copy has been erased or residue is reported. -/
  | secureDiscardDone (carrier : Nat) (residue : Nat)
  /-- HEALTH (R353): A STORAGE HEALTH writes the carrier's health record to the requester. -/
  | health (ring : Nat)
  /-- PROGRAM_DONE (R337): A NAND program and map log update complete and the write completes or retries. -/
  | programDone (carrier : Nat) (src : Nat) (reqId : Nat) (fails : Nat)
  /-- FLASH_READ_DONE (R339): A flash read decodes through hard, retry and soft steps or is reported uncorrectable. -/
  | flashReadDone (carrier : Nat) (block : Nat) (readClass : Nat) (bits : Nat) (retries : Nat) (uncorr : Bool)
  /-- RECLAIM_VICTIM_FREED (R345): A reclamation victim is erased, the credit resets and the mode is re-judged. -/
  | reclaimVictimFreed (carrier : Nat)
  /-- WRITE_DEADLINE (R346): A STORAGE WRITE not yet programming at its deadline beat ends with E_DEADLINE. -/
  | writeDeadline (carrier : Nat)
  /-- CARRIER_TEMP_POLL (R327): The once-per-second carrier temperature read suspends or resumes programs and erases. -/
  | carrierTempPoll (carrier : Nat) (temp : Nat)
  /-- CARRIER_ALERT (R351): CARc_ALERT_N low suspends programs and erases on the carrier. -/
  | carrierAlert (carrier : Nat)
  /-- HEALTH_MIRROR (R350): Hourly the health record is mirrored to the identity element. -/
  | healthMirror (carrier : Nat)
  /-- PORT_ENABLE (R359): A rise of PORT_CFG.ENABLE applies the mode and brings the link up. -/
  | portEnable
  /-- PORT_DISABLE (R359): Clearing PORT_CFG.ENABLE squelches transmitters and disables the link. -/
  | portDisable
  /-- LINK_STATE_CHANGE (R360): Negotiation, training, alignment or a fault moves the link state and raises EV_PORT_LINK. -/
  | linkStateChange (state : Nat) (lanes : Nat) (peer : Nat)
  /-- FRAME_RECEIVED (R363): A received frame is accepted or dropped and delivered by Ethertype. -/
  | frameReceived (frame : Frame) (share : Nat)
  /-- PFC_RECEIVED (R366): A received PFC frame pauses or releases an enabled class. -/
  | pfcReceived (quanta : List (Nat × Nat))
  /-- PFC_PAUSE_EXPIRY (R366): A received pause expires and the class may send again. -/
  | pfcPauseExpiry (cls : Nat)
  /-- PFC_REFRESH (R367): Half the quanta elapse while above XOFF and the PFC is sent again. -/
  | pfcRefresh (cls : Nat) (share : Nat)
  /-- FEC_WINDOW (R362): A 65,536-beat FEC window ends and EV_PORT_FEC_DEGRADED may be raised. -/
  | fecWindow (corrected : Nat) (uncorrected : Nat)
  /-- TX_SLOT (R408): The port can start a frame and the traffic unit picks class 7 or a DRR class. -/
  | txSlot
  /-- GATE_ENTRY_BOUNDARY (R411): A gate-list entry or cycle boundary is reached and gate states change. -/
  | gateEntryBoundary
  /-- QUEUE_SAMPLE (R421): At each PERIOD multiple eight queue sample records are written. -/
  | queueSample
  /-- TEL_SNAP (R426): TEL_CTRL.SNAP copies tenant and shard counters into the shadow bank. -/
  | telSnap
  /-- READ (R392): A Skorath READ is checked and answered with READ_RESP. -/
  | read (rx : Rx)
  /-- READ_RESP (R383): A READ_RESP arrives and completes the requester's READ. -/
  | readResp (p : Packet)
  /-- WRITE (R392): A Skorath WRITE packet is checked and applied. -/
  | write (rx : Rx)
  /-- WRITE_FLAG (R394): A Skorath WRITE_FLAG is applied as one granule. -/
  | writeFlag (rx : Rx)
  /-- WRITE_FLAG_RELEASE (R394): Earlier operations complete and a held WRITE_FLAG is sent. -/
  | writeFlagRelease
  /-- ATOMIC (R390): A Skorath ATOMIC updates one aligned word and returns the old value. -/
  | atomic (rx : Rx)
  /-- ATOMIC_RESP (R383): An ATOMIC_RESP arrives and completes the requester's ATOMIC. -/
  | atomicResp (p : Packet)
  /-- REDUCE_OP (R391): A Skorath REDUCE combines elements indivisibly into destination memory. -/
  | reduceOp (rx : Rx)
  /-- HALDIO (R399): A whole Haldio message is checked, policed and landed in its delivery ring. -/
  | haldio (rx : Rx)
  /-- ACK (R384): An ACK updates the window, completes operations and triggers SACK retransmission. -/
  | ack (a : AckInfo)
  /-- NAK_RNR (R400): A NAK_RNR schedules a resend of the refused message after RNR_WAIT_US. -/
  | nakRnr (a : AckInfo)
  /-- NAK_ERR (R392): A NAK_ERR completes the named operation with its error code. -/
  | nakErr (a : AckInfo)
  /-- RESYNC (R386): A RESYNC fails unacknowledged operations and starts a new connection. -/
  | resync (a : AckInfo)
  /-- CNP (R389): A CNP lowers the connection rate and penalises the path. -/
  | cnp (peer : Nat) (cls : Nat) (path : Nat)
  /-- RTO_TIMEOUT (R385): RTO_US without acknowledgement retransmits, doubles the timeout or loses the peer. -/
  | rtoTimeout (peer : Nat) (cls : Nat)
  /-- ACK_TIMER (R384): After 1 µs or a REORDER_NS gap the receiver sends an ACK. -/
  | ackTimer (peer : Nat) (cls : Nat)
  /-- CONN_IDLE (R386): An idle connection with nothing outstanding is dropped after CONN_IDLE beats. -/
  | connIdle (peer : Nat) (cls : Nat) (incoming : Bool)
  /-- PATH_PENALTY_EXPIRY (R388): A penalised path returns to use after PENALTY beats. -/
  | pathPenaltyExpiry (peer : Nat) (cls : Nat) (path : Nat)
  /-- RATE_INCREASE (R389): A beat boundary without CNP raises the connection rate by AI_MBPS. -/
  | rateIncrease (peer : Nat) (cls : Nat)
  /-- RNR_WAIT (R400): RNR_WAIT_US elapses and the refused message is resent. -/
  | rnrWait (peer : Nat) (cls : Nat)
  /-- CANCEL (R403): A CANCEL is passed to units holding the request or held for CANCEL_HOLD. -/
  | cancel (rx : Rx)
  /-- CANCEL_HOLD_EXPIRY (R403): A held unmatched CANCEL is dropped after CANCEL_HOLD beats. -/
  | cancelHoldExpiry (src : Nat) (reqId : Nat)
  /-- REDIRECT (R401): A REDIRECT answering a node-issued request is followed once. -/
  | redirect (rx : Rx)
  /-- MOV_CH_ENABLE (R430): Setting MOV_CH_CFG.EN zeroes the ring words and makes the channel IDLE. -/
  | movChEnable (channel : Nat)
  /-- LINEAR (R432): A mover LINEAR descriptor copies a contiguous range. -/
  | linear (channel : Nat)
  /-- STRIDED (R432): A mover STRIDED descriptor copies rows with pitches. -/
  | strided (channel : Nat)
  /-- GATHER (R432): A mover GATHER descriptor copies indexed elements contiguously. -/
  | gather (channel : Nat)
  /-- SCATTER (R432): A mover SCATTER descriptor writes contiguous elements to indexed places. -/
  | scatter (channel : Nat)
  /-- FILL (R432): A mover FILL descriptor writes a repeated 8-byte pattern. -/
  | fill (channel : Nat)
  /-- FLAG_ONLY (R432): A mover FLAG_ONLY descriptor performs only the flag update and event. -/
  | flagOnly (channel : Nat)
  /-- MOVER_DESC_DONE (R438): A descriptor's writes complete, the compare and flag run and the head advances. -/
  | moverDescDone (channel : Nat)
  /-- PACING_REQUEST (R435): A request on a pacing line lets a paced descriptor write one burst. -/
  | pacingRequest (line : Nat)
  /-- MOV_TIMER_PERIOD (R435): A mover timer period elapses and raises a request on its line. -/
  | movTimerPeriod (timer : Nat)
  /-- MOV_PACE_STALL (R435): A paced descriptor waiting STALL_LIMIT beats raises EV_MOV_PACE_STALL. -/
  | movPaceStall (channel : Nat)
  /-- MOV_STOP (R437): MOV_CH_CTRL.STOP stops the channel after the running descriptor. -/
  | movStop (channel : Nat)
  /-- MOV_RESUME (R439): MOV_CH_CTRL.RESUME continues a STOPPED or HALTED channel from its head. -/
  | movResume (channel : Nat)
  /-- MOV_SKIP (R439): MOV_CH_CTRL.SKIP passes over a HALTED channel's head descriptor. -/
  | movSkip (channel : Nat)
  /-- MOV_KICK (R435): MOV_CH_CTRL.KICK adds one pending pacing request. -/
  | movKick (channel : Nat)
  /-- CHK_START (R442): CHK_CTRL.START sets the CRC register to INIT and BYTES to 0. -/
  | chkStart (unit : Nat)
  /-- CHK_FEED (R442): A CHK_FEED write feeds eight bytes to the CRC unit. -/
  | chkFeed (unit : Nat) (value : Nat)
  /-- CHK_FEED_TAIL (R442): A CHK_FEED_TAIL write feeds 1 to 7 bytes to the CRC unit. -/
  | chkFeedTail (unit : Nat) (value : Nat) (count : Nat)
  /-- CHK_CHECK (R446): CHK_CTRL.CHECK compares CHK_RESULT with CHK_EXPECT. -/
  | chkCheck (unit : Nat)
  /-- ENCODE (R447): A parity ENCODE job computes P and Q over data shards. -/
  | encode (queue : Nat)
  /-- RECOVER (R447): A parity RECOVER job rebuilds up to two missing shards. -/
  | recover (queue : Nat)
  /-- DELTA (R448): A parity DELTA job updates P and Q for one changed data shard. -/
  | delta (queue : Nat)
  /-- VERIFY (R449): A parity VERIFY job checks stored P and Q. -/
  | verify (queue : Nat)
  /-- PARITY_JOB_DONE (R449): A parity job ends, writing its flag or halting its queue on error. -/
  | parityJobDone (queue : Nat)
  /-- PAR_ENABLE (R448): Setting PAR_CFG.EN enables parity queue 1. -/
  | parEnable
  /-- PAR_RESUME (R449): PAR_CTRL.RESUME reruns the halted queue 1 job. -/
  | parResume
  /-- PAR_SKIP (R449): PAR_CTRL.SKIP passes over the halted queue 1 job. -/
  | parSkip
  /-- CLAIM (R457): SEC_CTRL.CLAIM checks an ownership claim and writes the inactive copy. -/
  | claim
  /-- CLAIM_READBACK (R457): The written ownership copy is read back and the new record governs. -/
  | claimReadback (data : List Byte)
  /-- QUOTE (R462): SEC_CTRL.QUOTE snapshots measurements and starts signing a quote. -/
  | quote
  /-- QUOTE_DONE (R462): The signed quote or AK certificate is written and QUOTE_BUSY clears. -/
  | quoteDone
  /-- AK_CERT (R463): SEC_CTRL.AK_CERT writes the DIK-signed AK certificate. -/
  | akCert
  /-- EXTEND (R461): SEC_CTRL.EXTEND extends M5 to M7 with SEC_EXTEND. -/
  | extend (arg : Nat)
  /-- RAISE_FLOOR (R458): SEC_CTRL.RAISE_FLOOR starts blowing rollback fuses up to the active SVN. -/
  | raiseFloor
  /-- FLOOR_RAISED (R458): The fuses are blown and EV_SEC_FLOOR_RAISED is raised. -/
  | floorRaised
  /-- REVOKE_VKEY (R455): SEC_CTRL.REVOKE_VKEY blows a vendor slot's revoke fuse. -/
  | revokeVkey (slot : Nat)
  /-- NODE_RESET (R475): NCTL_RESET or CONTROL RESET of scope NODE resets the whole node. -/
  | nodeReset
  /-- SCOPED_RESET (R475): NCTL_RESET GO with a narrower scope resets the covered units. -/
  | scopedReset (scope : Nat) (inst : Nat)
  /-- RESET_DONE (R477): A scoped reset completes and EV_RESET_DONE is raised. -/
  | resetDone
  /-- CONTROL_RESET (R493): A CONTROL RESET starts a reset of the named scope. -/
  | controlReset (ring : Nat)
  /-- CONTROL_REBUILD (R488): A CONTROL REBUILD takes a recovery slot and starts rebuilding stripes. -/
  | controlRebuild (ring : Nat)
  /-- CONTROL_RESUME (R490): A CONTROL RESUME continues a HELD rebuild from its cursor. -/
  | controlResume (ring : Nat)
  /-- CONTROL_ABANDON (R490): A CONTROL ABANDON ends a rebuild. -/
  | controlAbandon (ring : Nat)
  /-- CONTROL_RELEASE (R484): A CONTROL RELEASE frees the seal half held by an epoch. -/
  | controlRelease (ring : Nat)
  /-- CONTROL_RESEAL (R484): A CONTROL RESEAL seals a held epoch again. -/
  | controlReseal (ring : Nat)
  /-- PERIODIC_SEAL (R479): At each multiple of PERIOD the open update epoch is cut. -/
  | periodicSeal
  /-- SEAL_END (R484): All shard writes of a seal end and it is SEALED, DEGRADED or FAILED. -/
  | sealEnd
  /-- REBUILD_STRIPE (R488): A rebuilt stripe's own write completes and the cursor advances. -/
  | rebuildStripe (slot : Nat)
  /-- GROUP_ENABLE (R481): Setting NCTL_GROUP.EN checks the erasure group descriptor. -/
  | groupEnable
  /-- REHEARSAL_END (R494): A rehearsal script's DURATION ends and EV_REHEARSAL_END is raised. -/
  | rehearsalEnd (script : Nat)
  /-- SHIM_CLOSE (R498): The shim window closes at dispatch beat plus LEN. -/
  | shimClose
  /-- RESET_INPUT (R504): RESET_N or PWR_OK low puts the node into node reset. -/
  | resetInput (ns : Nat)
  /-- RESET_RELEASE (R511): RESET_N rises and the ROM phase of startup begins. -/
  | resetRelease (straps : Nat)
  /-- ROM_PHASE_DONE (R511): Fuses are read, straps latched and M0 extended, starting IDENTITY and MEMORY. -/
  | romPhaseDone (keys : List (List Byte × Nat))
  /-- IDENTITY_PHASE_DONE (R452): Board records are read, the device secret is reconstructed and M1 extended. -/
  | identityPhaseDone (helper : List Byte) (copyA : List Byte) (copyB : List Byte) (rail : List Byte) (boot : List Byte)
  /-- MEMORY_PHASE_DONE (R511): Stacks are trained and memory zeroed. -/
  | memoryPhaseDone
  /-- BOOT_SLOT_READ_DONE (R513): A carrier boot slot image is read and staged, or the next carrier is tried. -/
  | bootSlotReadDone
  /-- CLOCK_LOSS (R506): REFCLK_SYS leaving tolerance stops every internal clock until node reset. -/
  | clockLoss
  /-- PMBUS_POLL (R510): Every 4 ms the regulators are polled and NCTL_RAIL updated. -/
  | pmbusPoll (readings : List (Option (Nat × Nat × Nat)))
  /-- PMBUS_ALERT (R507): PMB_ALERT_N prompts an immediate poll. -/
  | pmbusAlert (readings : List (Option (Nat × Nat × Nat)))
  /-- POWER_EVALUATION (R517): Every 16 beats package power is evaluated and the throttle level moves. -/
  | powerEvaluation (watts : Nat) (dies : List Nat) (stks : List Nat)
  /-- THERMAL_ALERT (R518): A sensor at its alert point pulls THERM_ALERT_N low and holds level 7. -/
  | thermalAlert (dies : List Nat) (stks : List Nat)
  /-- BOOT_SAVE (R515): NCTL_BOOT_CTL.SAVE starts copying the active image to a carrier boot slot. -/
  | bootSave
  /-- BOOT_SAVE_DONE (R515): The boot slot's first block is written last and the save ends. -/
  | bootSaveDone (ok : Bool)
  /-- CHANNEL_RETRAIN_DONE (R170): A stack channel's retrain finishes within 1.5 µs, releasing the waiting port and plain
    accesses of its eight units, or raises EV_STACK_TRAIN_FAIL. -/
  | channelRetrainDone (stack : Nat) (ok : Bool)
  /-- INLAY_TRIM_DONE (R170): An inlay timing trim of one unit ends within 1 µs, the unit resumes commands and the next unit
    in rotation may be trimmed, or EV_INLAY_TRIM_FAIL is raised. -/
  | inlayTrimDone (stack : Nat) (ok : Bool)
  /-- CLASS_CALIBRATION_DONE (R343): Calibration of a marked read class finishes, keeping the better offsets and clearing
    the mark or raising EV_FL_CAL_FAIL, and frees the LUN for live reads and the next class. -/
  | classCalibrationDone (carrier : Nat) (readClass : Nat) (offsets : List Nat) (better : Bool)
  /-- CARRIER_ALERT_RELEASE (R351): CARc_ALERT_N rises and, if the reading is below 80 °C, programs and erases on the
    carrier resume. -/
  | carrierAlertRelease (carrier : Nat)
  /-- THERMAL_ALERT_RELEASE (R518): Once every sensor is 5 °C below its alert point, the node releases THERM_ALERT_N and the
    level-7 throttle hold. -/
  | thermalAlertRelease (dies : List Nat) (stks : List Nat)
  /-- EXPRESS_SHAPER_READY (R410): The express shaper accumulates enough tokens for the waiting class 7 head frame, which
    may then start. -/
  | expressShaperReady
  /-- RATE_PACED_RELEASE (R389): A connection held back by its rate R reaches the time at which its next packet may be
    released to the traffic unit. -/
  | ratePacedRelease (peer : Nat) (cls : Nat)
  /-- REHEARSAL_DELAY_LAND (R495): A request held by an active DELAY rehearsal script reaches the end of its ARG beats and
    lands in its ring. -/
  | rehearsalDelayLand (src : Nat) (reqId : Nat)
  /-- BOOT_MOUNT_BOUND (R513): During carrier boot, a carrier still MOUNTING at its R330 bound is given up and the next
    carrier is tried. -/
  | bootMountBound
  /-- PAYLOAD_DEADLINE (R270): At the boundary of DEADLINE minus FINAL_MARGIN, payload lookups of a CLOSED buffer that have
    not returned get zero payloads with PAYLOAD_MISSING and DEADLINE_PARTIAL, and the RESULT is sent. -/
  | payloadDeadline (src : Nat) (reqId : Nat)
deriving DecidableEq, Repr

end Sys2Proof
end

