-- ==== Sys2Proof/WellFormed.lean ====
section
/-! DEFINITION. Well-formed commands: every unit, slot and index that a command names is one that the part has. -/

namespace Sys2Proof

/-- Whether a command is well formed.
Assumption log: 5 (DESIGN CHOICE). -/
def Instr.wf (i : Instr) : Bool :=
  match i with
  | .registerWrite _ _ => true
  | .tailWrite ring _ => decide (ring < 8192)
  | .creditReturn ring _ => decide (ring < 8192)
  | .tokenTake tile => decide (tile < 672)
  | .ptpMeasurement _ => true
  | .ppsEdge => true
  | .ptpParentLost => true
  | .holdoverEntry => true
  | .holdoverDegrade => true
  | .acceptStep => true
  | .rejectStep => true
  | .disarmAll => true
  | .arm entry => decide (entry < 256)
  | .disarm entry => decide (entry < 256)
  | .beatBoundary => true
  | .armedEventDispatch => true
  | .stage => true
  | .stagingDone => true
  | .discard => true
  | .promote => true
  | .applyFull => true
  | .fullLoadDone => true
  | .panelDrainDone panel => decide (panel < 64)
  | .panelDrainTimeout panel => decide (panel < 64)
  | .panelLoadStart panel => decide (panel < 64)
  | .panelLoadDone panel => decide (panel < 64)
  | .panelActivated panel => decide (panel < 64)
  | .dovetailExpiry => true
  | .matmul tile => decide (tile < 672)
  | .reduce tile => decide (tile < 672)
  | .rotate tile => decide (tile < 672)
  | .quantise tile => decide (tile < 672)
  | .dequantise tile => decide (tile < 672)
  | .elemwise tile => decide (tile < 672)
  | .activate tile => decide (tile < 672)
  | .normalise tile => decide (tile < 672)
  | .attend tile => decide (tile < 672)
  | .pqTable tile => decide (tile < 672)
  | .denseScan tile => decide (tile < 672)
  | .coarse tile => decide (tile < 672)
  | .rerank tile => decide (tile < 672)
  | .topk tile => decide (tile < 672)
  | .maskLogits tile => decide (tile < 672)
  | .sample tile => decide (tile < 672)
  | .gradAccum tile => decide (tile < 672)
  | .optStep tile => decide (tile < 672)
  | .send tile => decide (tile < 672)
  | .tileCreditStall tile => decide (tile < 672)
  | .tileHang tile => decide (tile < 672)
  | .tileHalt tile => decide (tile < 672)
  | .tileResume tile => decide (tile < 672)
  | .tileStep tile => decide (tile < 672)
  | .scorePq stack unit => decide (stack < 12) && decide (unit < 256)
  | .dotI8 stack unit => decide (stack < 12) && decide (unit < 256)
  | .gatherRow stack unit => decide (stack < 12) && decide (unit < 256)
  | .replaceRow stack unit => decide (stack < 12) && decide (unit < 256)
  | .rmwRow stack unit => decide (stack < 12) && decide (unit < 256)
  | .fence stack unit => decide (stack < 12) && decide (unit < 256)
  | .loadTslot stack _ _ => decide (stack < 12)
  | .loadFilter stack _ _ => decide (stack < 12)
  | .scrub stack offset => decide (stack < 12) && decide (offset < 0x800000000)
  | .inlayParityError stack unit => decide (stack < 12) && decide (unit < 256)
  | .inlayCmdHang stack unit => decide (stack < 12) && decide (unit < 256)
  | .inlayOnline stack unit => decide (stack < 12) && decide (unit < 256)
  | .inlayCopyDone stack unit => decide (stack < 12) && decide (unit < 256)
  | .heatHalving => true
  | .demotionSweep => true
  | .promotionDone _ => true
  | .demotionDone _ => true
  | .tierFlashReadDone _ => true
  | .latePoint _ _ => true
  | .zeroPage => true
  | .migStart slot => decide (slot < 16)
  | .migCopyDone slot => decide (slot < 16)
  | .migAbort slot => decide (slot < 16)
  | .migFree slot => decide (slot < 16)
  | .migConfirm slot => decide (slot < 16)
  | .migRevert slot => decide (slot < 16)
  | .pageCutComplete slot => decide (slot < 16)
  | .rowCutSend slot => decide (slot < 16)
  | .rowInstall _ table _ _ => decide (table < 256)
  | .rowCutAck slot => decide (slot < 16)
  | .migrateStall slot => decide (slot < 16)
  | .queryLs ring => decide (ring < 8192)
  | .lsCoarseDone _ _ => true
  | .lsTableDone _ _ => true
  | .gatherWindowClose => true
  | .lsDenseDone _ => true
  | .thinResult stack unit => decide (stack < 12) && decide (unit < 256)
  | .lsRerankDone _ _ => true
  | .lsModelDone _ _ _ => true
  | .append ring => decide (ring < 8192)
  | .deleteVec ring => decide (ring < 8192)
  | .lsIndexEnable slot => decide (slot < 64)
  | .lsIndexDisable slot => decide (slot < 64)
  | .shadowDone => true
  | .queryGw ring => decide (ring < 8192)
  | .walkStart wslot => decide (wslot < 48)
  | .gwScoreDone wslot => decide (wslot < 48)
  | .walkExpansion wslot => decide (wslot < 48)
  | .gwPairDone wslot => decide (wslot < 48)
  | .insert ring => decide (ring < 8192)
  | .gwDelete ring => decide (ring < 8192)
  | .compact ring => decide (ring < 8192)
  | .setEdges ring => decide (ring < 8192)
  | .gwIndexEnable slot => decide (slot < 64)
  | .gwIndexDisable slot => decide (slot < 64)
  | .selTopkDone _ _ => true
  | .merge _ => true
  | .mergeDeadline buf => decide (buf < 4096)
  | .mergeIdleTimeout buf => decide (buf < 4096)
  | .payloadLookupDone _ _ => true
  | .lookup ring => decide (ring < 8192)
  | .rowCommandDone stack unit => decide (stack < 12) && decide (unit < 256)
  | .replace ring => decide (ring < 8192)
  | .apply ring => decide (ring < 8192)
  | .load ring => decide (ring < 8192)
  | .pin ring => decide (ring < 8192)
  | .unpin ring => decide (ring < 8192)
  | .tableFlipTimeout table => decide (table < 256)
  | .swap ring => decide (ring < 8192)
  | .swapRowCommit table => decide (table < 256)
  | .tableEnable table => decide (table < 256)
  | .tableDisable table => decide (table < 256)
  | .queryText ring => decide (ring < 8192)
  | .streamOpen ring => decide (ring < 8192)
  | .streamInput ring => decide (ring < 8192)
  | .streamControl ring => decide (ring < 8192)
  | .streamClose ring => decide (ring < 8192)
  | .txtGen ring => decide (ring < 8192)
  | .maskFetchDone stream => decide (stream < 4096)
  | .streamIdle stream => decide (stream < 4096)
  | .streamDeadline stream => decide (stream < 4096)
  | .grammarEnable grammar => decide (grammar < 16)
  | .grammarDisable grammar => decide (grammar < 16)
  | .carrierInsert carrier _ _ _ _ _ => decide (carrier < 8)
  | .carrierRemoved carrier => decide (carrier < 8)
  | .carrierIdentified carrier _ _ _ => decide (carrier < 8)
  | .mountDone carrier _ => decide (carrier < 8)
  | .format carrier => decide (carrier < 8)
  | .formatDone carrier => decide (carrier < 8)
  | .adopt carrier => decide (carrier < 8)
  | .detach carrier => decide (carrier < 8)
  | .detachDone carrier => decide (carrier < 8)
  | .attach carrier => decide (carrier < 8)
  | .sanitise carrier => decide (carrier < 8)
  | .sanitiseDone carrier _ => decide (carrier < 8)
  | .storageRead ring => decide (ring < 8192)
  | .storageWrite ring => decide (ring < 8192)
  | .storageDiscard ring => decide (ring < 8192)
  | .secureDiscard ring => decide (ring < 8192)
  | .secureDiscardDone carrier _ => decide (carrier < 8)
  | .health ring => decide (ring < 8192)
  | .programDone carrier _ _ _ => decide (carrier < 8)
  | .flashReadDone carrier _ readClass _ _ _ => decide (carrier < 8) && decide (readClass < 2048)
  | .reclaimVictimFreed carrier => decide (carrier < 8)
  | .writeDeadline carrier => decide (carrier < 8)
  | .carrierTempPoll carrier _ => decide (carrier < 8)
  | .carrierAlert carrier => decide (carrier < 8)
  | .healthMirror carrier => decide (carrier < 8)
  | .portEnable => true
  | .portDisable => true
  | .linkStateChange _ _ _ => true
  | .frameReceived _ _ => true
  | .pfcReceived _ => true
  | .pfcPauseExpiry cls => decide (cls < 8)
  | .pfcRefresh cls _ => decide (cls < 8)
  | .fecWindow _ _ => true
  | .txSlot => true
  | .gateEntryBoundary => true
  | .queueSample => true
  | .telSnap => true
  | .read _ => true
  | .readResp _ => true
  | .write _ => true
  | .writeFlag _ => true
  | .writeFlagRelease => true
  | .atomic _ => true
  | .atomicResp _ => true
  | .reduceOp _ => true
  | .haldio _ => true
  | .ack _ => true
  | .nakRnr _ => true
  | .nakErr _ => true
  | .resync _ => true
  | .cnp _ cls _ => decide (cls < 8)
  | .rtoTimeout _ cls => decide (cls < 8)
  | .ackTimer _ cls => decide (cls < 8)
  | .connIdle _ cls _ => decide (cls < 8)
  | .pathPenaltyExpiry _ cls _ => decide (cls < 8)
  | .rateIncrease _ cls => decide (cls < 8)
  | .rnrWait _ cls => decide (cls < 8)
  | .cancel _ => true
  | .cancelHoldExpiry _ _ => true
  | .redirect _ => true
  | .movChEnable channel => decide (channel < 64)
  | .linear channel => decide (channel < 64)
  | .strided channel => decide (channel < 64)
  | .gather channel => decide (channel < 64)
  | .scatter channel => decide (channel < 64)
  | .fill channel => decide (channel < 64)
  | .flagOnly channel => decide (channel < 64)
  | .moverDescDone channel => decide (channel < 64)
  | .pacingRequest line => decide (line < 225)
  | .movTimerPeriod timer => decide (timer < 16)
  | .movPaceStall channel => decide (channel < 64)
  | .movStop channel => decide (channel < 64)
  | .movResume channel => decide (channel < 64)
  | .movSkip channel => decide (channel < 64)
  | .movKick channel => decide (channel < 64)
  | .chkStart unit => decide (unit < 16)
  | .chkFeed unit _ => decide (unit < 16)
  | .chkFeedTail unit _ _ => decide (unit < 16)
  | .chkCheck unit => decide (unit < 16)
  | .encode queue => decide (queue < 2)
  | .recover queue => decide (queue < 2)
  | .delta queue => decide (queue < 2)
  | .verify queue => decide (queue < 2)
  | .parityJobDone queue => decide (queue < 2)
  | .parEnable => true
  | .parResume => true
  | .parSkip => true
  | .claim => true
  | .claimReadback _ => true
  | .quote => true
  | .quoteDone => true
  | .akCert => true
  | .extend arg => decide (arg < 8)
  | .raiseFloor => true
  | .floorRaised => true
  | .revokeVkey slot => decide (slot < 8)
  | .nodeReset => true
  | .scopedReset _ _ => true
  | .resetDone => true
  | .controlReset ring => decide (ring < 8192)
  | .controlRebuild ring => decide (ring < 8192)
  | .controlResume ring => decide (ring < 8192)
  | .controlAbandon ring => decide (ring < 8192)
  | .controlRelease ring => decide (ring < 8192)
  | .controlReseal ring => decide (ring < 8192)
  | .periodicSeal => true
  | .sealEnd => true
  | .rebuildStripe slot => decide (slot < 8)
  | .groupEnable => true
  | .rehearsalEnd script => decide (script < 16)
  | .shimClose => true
  | .resetInput _ => true
  | .resetRelease straps => decide (straps < 4)
  | .romPhaseDone _ => true
  | .identityPhaseDone _ _ _ _ _ => true
  | .memoryPhaseDone => true
  | .bootSlotReadDone => true
  | .clockLoss => true
  | .pmbusPoll _ => true
  | .pmbusAlert _ => true
  | .powerEvaluation _ _ _ => true
  | .thermalAlert _ _ => true
  | .bootSave => true
  | .bootSaveDone _ => true
  | .channelRetrainDone stack _ => decide (stack < 12)
  | .inlayTrimDone stack _ => decide (stack < 12)
  | .classCalibrationDone carrier readClass _ _ => decide (carrier < 8) && decide (readClass < 2048)
  | .carrierAlertRelease carrier => decide (carrier < 8)
  | .thermalAlertRelease _ _ => true
  | .expressShaperReady => true
  | .ratePacedRelease _ cls => decide (cls < 8)
  | .rehearsalDelayLand _ _ => true
  | .bootMountBound => true
  | .payloadDeadline _ _ => true

end Sys2Proof
end

