-- ==== Sys2Proof/Decode.lean ====
section
/-! DEFINITION. Reading a command from the bits of the table of operations: the table gives its rows no bits. -/

namespace Sys2Proof

/-- The command that a word spells by the table's bits: none, for the table gives no row any bits (R20, R26). -/
def decodeTableWord (_nbits _w : Nat) : Option Instr := none

end Sys2Proof
end

