-- ==== Sys2Proof/Machine/Flags.lean ====
section
/-! DEFINITION. The numbers that messages and records carry: error codes (R273), result status flags (R272), event codes
with their severities (R469), message types (R398) and operations of the fabric (R380). -/

namespace Sys2Proof.Machine

/-! Error codes of R273. -/

def E_NONE : Nat := 0
def E_MEDIA : Nat := 1
def E_REDIRECT : Nat := 2
def E_EPOCH : Nat := 3
def E_CANCELLED : Nat := 4
def E_DEADLINE : Nat := 5
def E_POLICED : Nat := 6
def E_TENANT : Nat := 7
def E_MALFORMED : Nat := 8
def E_CAPACITY : Nat := 9
def E_ABSENT : Nat := 10

/-! Status flags of R272, as weights in the status word. -/

def SF_SHORT : Nat := 1
def SF_TIE_AT_K : Nat := 2
def SF_DEADLINE_PARTIAL : Nat := 4
def SF_FILTER_WIDENED : Nat := 8
def SF_DUP_CONFLICT : Nat := 16
def SF_SHADOW : Nat := 32
def SF_EPOCH_OLD_SERVED : Nat := 64
def SF_REHEARSAL : Nat := 32768

/-- A status word: flags in [15:0], an error code in [31:16] (R272). -/
def statusWord (flags code : Nat) : Nat := flags % 65536 + code * 65536

/-- Whether a flag (a power of two) is set in a flag word. -/
def hasFlag (flags f : Nat) : Bool := flags / f % 2 == 1

/-- A flag word with a flag added. -/
def addFlag (flags f : Nat) : Nat := if hasFlag flags f then flags else flags + f

/-- The union of two flag words (R269). -/
def orFlags (a b : Nat) : Nat := Nat.lor a b

/-! Event codes, from the event table of each chapter. -/

def EV_TILE_DESC_ERROR : Nat := 0x0101
def EV_TILE_OPERAND_ERROR : Nat := 0x0102
def EV_TILE_BENCH_UE : Nat := 0x0103
def EV_TILE_GRAPH_UE : Nat := 0x0104
def EV_TILE_HANG : Nat := 0x0105
def EV_TILE_CREDIT_STALL : Nat := 0x0106
def EV_TILE_DEBUG_HALT : Nat := 0x0107
def EV_STACK_POISON : Nat := 0x0301
def EV_STACK_TRAIN_FAIL : Nat := 0x0302
def EV_INLAY_OFFLINE : Nat := 0x0303
def EV_INLAY_MALFORMED : Nat := 0x0304
def EV_INLAY_TRIM_FAIL : Nat := 0x0305
def EV_TIER_PAGE_BAD : Nat := 0x0401
def EV_TIER_POOL_EMPTY : Nat := 0x0402
def EV_TIER_FLASH_FULL : Nat := 0x0403
def EV_TIER_MIGRATED : Nat := 0x0404
def EV_TIER_MIGRATED_IN : Nat := 0x0405
def EV_TIER_MIGRATE_FAILED : Nat := 0x0406
def EV_TIER_MIGRATE_STALLED : Nat := 0x0407
def EV_FL_CARRIER_STATE : Nat := 0x0501
def EV_FL_CARRIER_REFUSED : Nat := 0x0502
def EV_FL_CARRIER_LOST : Nat := 0x0503
def EV_FL_RECLAIM_FOREGROUND : Nat := 0x0504
def EV_FL_SPARE_LOW : Nat := 0x0505
def EV_FL_READ_ONLY : Nat := 0x0506
def EV_FL_UNCORRECTABLE : Nat := 0x0507
def EV_FL_SECURE_RESIDUE : Nat := 0x0508
def EV_FL_THERMAL : Nat := 0x0509
def EV_FL_CAL_FAIL : Nat := 0x050A
def EV_PORT_LINK : Nat := 0x0601
def EV_PORT_FEC_DEGRADED : Nat := 0x0602
def EV_PORT_PTP_TWO_STEP : Nat := 0x0603
def EV_PORT_SEC_PN_LOW : Nat := 0x0604
def EV_PORT_SEC_PN_EXHAUSTED : Nat := 0x0605
def EV_SKO_PEER_LOST : Nat := 0x0701
def EV_SKO_RESYNC : Nat := 0x0702
def EV_SKO_MCAST_INVALID : Nat := 0x0703
def EV_SKO_REQ_TABLE_FULL : Nat := 0x0704
def EV_TS_GATE_LIST : Nat := 0x0801
def EV_TS_GATE_REJECTED : Nat := 0x0802
def EV_TS_EXPRESS_LATE : Nat := 0x0803
def EV_LS_INDEX_REJECTED : Nat := 0x0901
def EV_LS_SPARE_EMPTY : Nat := 0x0902
def EV_LS_LIST_INVALID : Nat := 0x0903
def EV_GW_INDEX_REJECTED : Nat := 0x0910
def EV_GW_NO_ENTRY : Nat := 0x0911
def EV_GW_RECORD_INVALID : Nat := 0x0912
def EV_SEL_MERGE_CONFLICT : Nat := 0x0A01
def EV_SEL_MERGE_TIMEOUT : Nat := 0x0A02
def EV_SEL_NO_BUFFER : Nat := 0x0A03
def EV_TBL_REJECTED : Nat := 0x0B01
def EV_TBL_EPOCH : Nat := 0x0B02
def EV_TBL_EPOCH_REJECTED : Nat := 0x0B03
def EV_TBL_PIN_REVOKED : Nat := 0x0B04
def EV_TBL_SWAP_DONE : Nat := 0x0B05
def EV_TBL_SWAP_INTERRUPTED : Nat := 0x0B06
def EV_TBL_GUEST_FULL : Nat := 0x0B07
def EV_TXT_GRAMMAR_REJECTED : Nat := 0x0C01
def EV_TXT_STREAM_IDLE : Nat := 0x0C02
def EV_TXT_MASK_ERROR : Nat := 0x0C03
def EV_MOV_DESC_ERROR : Nat := 0x0D01
def EV_MOV_DONE : Nat := 0x0D02
def EV_MOV_PACE_STALL : Nat := 0x0D03
def EV_CHK_MISMATCH : Nat := 0x0E01
def EV_PAR_JOB_ERROR : Nat := 0x0E02
def EV_PAR_VERIFY_MISMATCH : Nat := 0x0E03
def EV_SEC_NO_IDENTITY : Nat := 0x0F01
def EV_SEC_OWNER_INVALID : Nat := 0x0F02
def EV_SEC_OWNER_CHANGED : Nat := 0x0F03
def EV_SEC_FLOOR_RAISED : Nat := 0x0F04
def EV_SEC_LOG_FULL : Nat := 0x0F05
def EV_SEC_CARRIER_AUTH_FAIL : Nat := 0x0F06
def EV_BEAT_STATE : Nat := 0x1001
def EV_BEAT_STEP : Nat := 0x1002
def EV_BEAT_STEP_HELD : Nat := 0x1003
def EV_BEAT_PAST_DUE : Nat := 0x1004
def EV_BEAT_EVENT_SKIPPED : Nat := 0x1005
def EV_BEAT_NOTIFY : Nat := 0x1006
def EV_BEAT_ARM_REJECTED : Nat := 0x1007
def EV_IMAGE_STAGED : Nat := 0x1010
def EV_IMAGE_REJECTED : Nat := 0x1011
def EV_IMAGE_PROMOTED : Nat := 0x1012
def EV_MAP_CUT : Nat := 0x1013
def EV_MAP_CUT_REJECTED : Nat := 0x1014
def EV_DOVETAIL_CLOSED : Nat := 0x1015
def EV_PANEL_RELOADED : Nat := 0x1016
def EV_PANEL_RELOAD_FAILED : Nat := 0x1017
def EV_PANEL_DRAIN_TIMEOUT : Nat := 0x1018
def EV_PANEL_TYPE_UNSERVED : Nat := 0x1019
def EV_RESET_DONE : Nat := 0x1020
def EV_SEAL_DONE : Nat := 0x1021
def EV_SEAL_DEGRADED : Nat := 0x1022
def EV_SEAL_FAILED : Nat := 0x1023
def EV_SEAL_SKIPPED : Nat := 0x1024
def EV_GROUP_REJECTED : Nat := 0x1025
def EV_REBUILD_DONE : Nat := 0x1026
def EV_REBUILD_INTERRUPTED : Nat := 0x1027
def EV_GROUP_BELOW_THRESHOLD : Nat := 0x1028
def EV_RECOVERY_HELD : Nat := 0x1029
def EV_REHEARSAL_START : Nat := 0x102A
def EV_REHEARSAL_END : Nat := 0x102B
def EV_SHIM_OPEN : Nat := 0x102C
def EV_RING_TAIL_INVALID : Nat := 0x102D
def EV_CREDIT_OVERFLOW : Nat := 0x102E
def EV_BOOT_SLOT_REJECTED : Nat := 0x1030
def EV_PWR_THROTTLE : Nat := 0x1031
def EV_THERM_ALERT : Nat := 0x1032
def EV_PMBUS_FAIL : Nat := 0x1033
def EV_RAIL_OUT_OF_RANGE : Nat := 0x1034

/-- Codes of severity 3 HOLD (R469). -/
def sevHold : List Nat :=
  [EV_BEAT_STEP_HELD, EV_TILE_GRAPH_UE, EV_TILE_HANG, EV_INLAY_OFFLINE, EV_TIER_MIGRATE_STALLED,
   EV_TBL_SWAP_INTERRUPTED, EV_FL_READ_ONLY, EV_MOV_DESC_ERROR, EV_PAR_JOB_ERROR, EV_SEC_NO_IDENTITY,
   EV_SEAL_FAILED, EV_REBUILD_INTERRUPTED, EV_GROUP_BELOW_THRESHOLD, EV_RECOVERY_HELD]

/-- Codes of severity 1 STATE (R469). -/
def sevState : List Nat :=
  [EV_BEAT_STATE, EV_BEAT_STEP, EV_TILE_DEBUG_HALT, EV_FL_CARRIER_STATE, EV_FL_RECLAIM_FOREGROUND,
   EV_PORT_LINK, EV_PORT_PTP_TWO_STEP, EV_RESET_DONE, EV_SEAL_SKIPPED]

/-- Codes of severity 0 INFO (R469). -/
def sevInfo : List Nat :=
  [EV_BEAT_NOTIFY, EV_IMAGE_STAGED, EV_IMAGE_PROMOTED, EV_MAP_CUT, EV_DOVETAIL_CLOSED,
   EV_PANEL_RELOADED, EV_TIER_MIGRATED, EV_TIER_MIGRATED_IN, EV_TBL_EPOCH, EV_TBL_SWAP_DONE,
   EV_TS_GATE_LIST, EV_MOV_DONE, EV_SEC_OWNER_CHANGED, EV_SEC_FLOOR_RAISED, EV_SEAL_DONE,
   EV_REBUILD_DONE, EV_REHEARSAL_START, EV_REHEARSAL_END, EV_SHIM_OPEN]

/-- The severity of an event code; every code not listed is FAULT (R469). -/
def severity (code : Nat) : Nat :=
  if sevHold.contains code then 3 else if sevState.contains code then 1 else if sevInfo.contains code then 0 else 2

/-! Haldio message types (R398). -/

def T_QUERY_LS : Nat := 0x10
def T_QUERY_GW : Nat := 0x11
def T_QUERY_TEXT : Nat := 0x12
def T_RESULT : Nat := 0x20
def T_UPDATE_VEC : Nat := 0x30
def T_UPDATE_ROW : Nat := 0x31
def T_TABLE_OP : Nat := 0x32
def T_LOOKUP : Nat := 0x33
def T_TEXT_STREAM : Nat := 0x40
def T_CANCEL : Nat := 0x50
def T_REDIRECT : Nat := 0x51
def T_CONTROL : Nat := 0x60
def T_EVENT : Nat := 0x70
def T_STORAGE : Nat := 0x80

/-- The listed message types; any other TYPE of a received message is reserved (R398, R21). -/
def haldioTypes : List Nat :=
  [T_QUERY_LS, T_QUERY_GW, T_QUERY_TEXT, T_RESULT, T_UPDATE_VEC, T_UPDATE_ROW, T_TABLE_OP, T_LOOKUP, T_TEXT_STREAM,
   T_CANCEL, T_REDIRECT, T_CONTROL, T_EVENT, T_STORAGE]

/-! Operations of the fabric (R380). -/

def OP_READ : Nat := 0x1
def OP_READ_RESP : Nat := 0x2
def OP_WRITE : Nat := 0x3
def OP_WRITE_FLAG : Nat := 0x4
def OP_ATOMIC : Nat := 0x5
def OP_ATOMIC_RESP : Nat := 0x6
def OP_REDUCE : Nat := 0x7
def OP_MERGE : Nat := 0x8
def OP_HALDIO : Nat := 0x9
def OP_ACK : Nat := 0x10
def OP_CNP : Nat := 0x11

/-! Subsystem numbers of R27, which also name the unit that issued an operation. -/

def U_TILE : Nat := 1
def U_TIER : Nat := 4
def U_FLASH : Nat := 5
def U_SEARCH : Nat := 9
def U_SELECT : Nat := 10
def U_TABLES : Nat := 11
def U_TEXT : Nat := 12
def U_MOVER : Nat := 13
def U_PARITY : Nat := 14
def U_IDENTITY : Nat := 15
def U_NCTL : Nat := 16

end Sys2Proof.Machine
end

