-- ==== Sys2Proof/Config.lean ====
section
/-! DEFINITION. What every variant of the part fixes, and what its manual leaves open: constants with no body, so that
no proof can see a value of them. -/

namespace Sys2Proof.Config

/-- Tiles (R23). -/
def numTiles : Nat := 672

/-- FREE VALUE: whatever number the hardware has at the `n`-th place where the manual leaves a value open.
Assumption log: 8 (DESIGN CHOICE). -/
opaque freeValue : Nat → Nat

/-- FREE VALUE: the FP32 code that a tile forms where its divisor is zero and the manual states no result (R101, R102 name only
0 ÷ 0), by the codes of its operands.
Assumption log: 32 (DESIGN CHOICE). -/
opaque overZero : Nat → Nat

/-- FREE VALUE: the codes that a tile's vector registers hold after an operator has run, by the serial of that run and by element (R126 says
only that they read +0 after a reset).
Assumption log: 28 (DESIGN CHOICE). -/
opaque vectorLane : Nat → Nat → Nat

/-- SHAKE256 (FIPS 202), an external standard (R58): the first `n` output bytes for a message.
Assumption log: 16 (DESIGN CHOICE). -/
opaque shake256 : List Byte → Nat → List Byte
/-- Ed448 verification (RFC 8032), an external standard (R62): public key, context, message, signature.
Assumption log: 16 (DESIGN CHOICE). -/
opaque ed448Verify : List Byte → List Byte → List Byte → List Byte → Bool
/-- The Ed448 public key of a private key (RFC 8032).
Assumption log: 16 (DESIGN CHOICE). -/
opaque ed448Public : List Byte → List Byte
/-- Ed448 signing (RFC 8032): private key, context, message.
Assumption log: 16 (DESIGN CHOICE). -/
opaque ed448Sign : List Byte → List Byte → List Byte → List Byte
/-- The AES-GCM integrity check of a MACsec frame (IEEE 802.1AE): key, salt and SSCI words, packet number, frame bytes.
Assumption log: 16 (DESIGN CHOICE). -/
opaque gcmOpen : List Byte → List Byte → Nat → List Byte → Bool
/-- The PUF (R452): the key that the SRAM power-up state and a helper record reconstruct; `none` where it fails.
Assumption log: 16 (DESIGN CHOICE). -/
opaque pufSecret : List Byte → Option (List Byte)
/-- ZSTD (RFC 8878), an external standard (R186): decompression of a frame to a 64 KiB page; `none` for an invalid frame.
Assumption log: 16 (DESIGN CHOICE). -/
opaque zstdOpen : List Byte → Option (List Byte)
/-- The ZSTD frame that the node makes of a page (R186 leaves the encoder open).
Assumption log: 16 (DESIGN CHOICE). -/
opaque zstdMake : List Byte → List Byte

/-- FREE VALUE: the contents of the boot ROM (R461).
Assumption log: 17 (DESIGN CHOICE). -/
opaque bootRom : List Byte
/-- FREE VALUE: the byte string over which the fuse digest of R461 is taken, of the slots' keys, masks and revoke fuses and of F; its layout is not
stated.
Assumption log: 17 (DESIGN CHOICE). -/
opaque fuseImage : List (List Byte × Nat × Bool) → Nat → List Byte

/-- FREE VALUE: the spare of a carrier at manufacture, in blocks of 4 KiB, by its model (R350); the map area and the SYS reserve are not stated.
Assumption log: 18 (DESIGN CHOICE). -/
opaque spareMade : Nat → Nat

end Sys2Proof.Config
end

