-- ==== Sys2Proof/Machine/BlocksEng.lean ====
section
/-! DEFINITION. The state of the search, selection, tables and text engines that is not a register. -/

namespace Sys2Proof.Machine

/-- A request as a unit sees it: envelope fields (R398), the global tenant from the in-flight table, the payload. -/
structure Req where
  ty : Nat
  cls : Nat
  tenant : Nat
  gten : Nat
  epoch : Nat
  reqId : Nat
  deadline : Nat
  src : Nat
  rehearsal : Bool
  payload : List Byte
deriving DecidableEq, Repr

/-- A result entry (R252). -/
structure Entry where
  vid : Nat
  stage : Nat := 0
  flags : Nat := 0
  key : Nat
  shard : Nat := 0
deriving DecidableEq, Repr

/-- A list-scan descriptor as the scanner copies it (R200). -/
structure LsDesc where
  index : Nat := 0
  metric : Nat := 0
  residual : Bool := false
  m : Nat := 8
  width8 : Bool := false
  attr : Bool := false
  qshift : Int := 0
  shard : Nat := 0
  nlist : Nat := 1
  dim : Nat := 64
  centFmt : Nat := 2
  cbFmt : Nat := 0x0B
  centOff : Nat := 0
  centScaleOff : Nat := 0
  normOff : Nat := 0
  cbOff : Nat := 0
  dirOff : Nat := 0
  spareOff : Nat := 0
  vecOff : Nat := 0
  vecFmt : Nat := 0
  vecScale : Nat := 0
  vidBase : Nat := 0
  vidSpan : Nat := 1
deriving DecidableEq, Repr

/-- The MERGE field of a query (R262). -/
structure MergeTo where
  node : Nat := 0xFFFF
  buf : Nat := 0
  npart : Nat := 1
  payTable : Nat := 0
  payUnits : Nat := 0
deriving DecidableEq, Repr

/-- A shard place of a merge buffer: one contribution (R266). -/
structure Place where
  code : Nat
  flags : Nat
  tieKey : Nat
  tieOut : Nat
  entries : List Entry
deriving DecidableEq, Repr

/-- A merge buffer (R265): 0 FREE, 1 OPEN, 2 CLOSED; the request it is open for with its header fields, the places, entries
taken, when a place was last taken, the requests whose conflict has been reported. -/
structure MergeBuf where
  st : Nat := 0
  requester : Nat := 0
  reqId : Nat := 0
  deadline : Nat := 0
  k : Nat := 0
  npart : Nat := 0
  cls : Nat := 0
  gten : Nat := 0
  payTable : Nat := 0
  payUnits : Nat := 0
  rehearsal : Bool := false
  places : SMap (Option Place) := []
  used : Nat := 0
  progress : Nat := 0
  conflicts : List (Nat × Nat) := []
deriving DecidableEq, Repr

/-- A query table for one list (R206, R207). -/
structure LsTab where
  list : Nat
  bias : Int
  table : List Byte
deriving DecidableEq, Repr

/-- Where a list-scan query stands: its ranking or tables are being made, it is in the gather window, its lists are being scanned, it is
being reranked by distance or by a model. -/
inductive LsStage where
  | coarse | tables | window | scan | rerank | model
deriving DecidableEq, Repr

/-- A list-scan query in progress (R208 to R217): the request, its slot and descriptor copy, the body's fields; then its ranking, the
widening steps done, tables of the running step, pieces of it still out, entries, PASSED, candidates under rerank, status flags, whether LATE
has been counted. -/
structure LsQuery where
  r : Req
  slot : Nat
  desc : LsDesc
  k : Nat
  nprobe : Nat
  expand : Nat
  cand : Nat
  rerank : Nat
  late : Nat
  fen : Bool
  fany : Bool
  filter : List Byte
  noShadow : Bool
  qfmt : Nat
  qscale : Nat
  query : List Byte
  merge : MergeTo
  old : Bool
  stage : LsStage := .coarse
  ranking : List Nat := []
  step : Nat := 0
  tabs : List LsTab := []
  pend : Nat := 0
  entries : List Entry := []
  passed : Nat := 0
  cands : List Entry := []
  flags : Nat := 0
deriving DecidableEq, Repr

/-- A run of slots on one list page. -/
structure PageRun where
  page : Nat
  first : Nat
  count : Nat
deriving DecidableEq, Repr

/-- A dense scan that is out (R209): the serial under which its message goes, slot, list, snapshot, runs, the queries by name. -/
structure LsRun where
  tag : Nat
  slot : Nat
  desc : LsDesc
  list : Nat
  len : Nat
  npages : Nat
  runs : List PageRun
  members : List (Nat × Nat)
deriving DecidableEq, Repr

/-- A SCORE_PQ command of the list scanner that is out (R210). -/
structure ThinCmd where
  tag : Nat
  stack : Nat
  unit : Nat
  slot : Nat
  desc : LsDesc
  list : Nat
  run : PageRun
  members : List (Nat × Nat)
deriving DecidableEq, Repr

/-- A shadow copy that waits (R219): the query, and the VIDs of the primary's entries. -/
structure ShadowJob where
  q : LsQuery
  prim : List Nat
deriving DecidableEq, Repr

/-- The list scanner: descriptor copies by slot, queries in the order in which they reached it, dense and thin work that is out, the next serial,
indexes whose spare store has been reported empty, shadow copies, the beat of the last window closed. -/
structure LsSt where
  copies : SMap (Option LsDesc) := []
  queries : List LsQuery := []
  runs : List LsRun := []
  thins : List ThinCmd := []
  next : Nat := 1
  spare : SMap Bool := []
  shadows : List ShadowJob := []
  closed : Option Nat := none
deriving DecidableEq, Repr

/-- A graph descriptor as the walker copies it (R229). -/
structure GwDesc where
  index : Nat := 0
  metric : Nat := 0
  vecFmt : Nat := 2
  degree : Nat := 1
  attr : Bool := false
  shard : Nat := 0
  nslots : Nat := 1
  dim : Nat := 64
  efInsert : Nat := 1
  alpha : Nat := 0
  vecScale : Nat := 0
  recOff : Nat := 0
  genOff : Nat := 0
  entryOff : Nat := 0
  vidBase : Nat := 0
  vidSpan : Nat := 1
  stateOff : Nat := 0
deriving DecidableEq, Repr

/-- A node as a walk knows it: VID, key, whether it is expanded, whether it is tombstoned. -/
structure GwEnt where
  vid : Nat
  key : Nat
  expanded : Bool := false
  tomb : Bool := false
deriving DecidableEq, Repr

/-- A record that is being scored: VID, whether its entry may be emitted, whether it is tombstoned. -/
structure GwRec where
  vid : Nat
  emit : Bool
  tomb : Bool
deriving DecidableEq, Repr

/-- An adjacency row as its read returned it, with the generation bytes of its targets (R236). -/
structure GwRow where
  vid : Nat
  edges : List (List Byte)
  gens : List Nat
deriving DecidableEq, Repr

/-- A pruning candidate: its distance as an FP32 code, its VID (R241). -/
structure GwCand where
  dist : Nat
  vid : Nat
deriving DecidableEq, Repr

/-- What a walk's slot is doing: scoring records, ready to expand, at the model, pruning candidates for a node, or ranking the
edges of a neighbour. -/
inductive GwPhase where
  | score | expand | model | prune | rank
deriving DecidableEq, Repr

/-- A walk or an edit (R226, R233, R242): the request with its whole message, descriptor slot and copy, insert or query, the body's fields;
then visited bits, beam, output list, entries tied at its K-th key, expansions, records being scored, whether an entry point has been
scored, rows read ahead; for an insert the node pruned for, candidates, kept ones, the neighbours still to be linked, their VIDs
with distances, the bytes written. -/
structure GwWalk where
  r : Req
  msg : List Byte
  slot : Nat
  desc : GwDesc
  die : Nat
  insert : Bool := false
  k : Nat
  beam : Nat
  nentry : Nat
  fen : Bool := false
  fany : Bool := false
  filter : List Byte := []
  model : Bool := false
  prefetch : Nat := 0
  maxExpand : Nat := 0
  qfmt : Nat
  qscale : Nat
  query : List Byte
  merge : MergeTo := {}
  late : Nat := 3
  old : Bool := false
  phase : GwPhase := .score
  visited : SMap Bool := []
  list : List GwEnt := []
  out : List Entry := []
  tie : Nat := 0
  expansions : Nat := 0
  batch : List GwRec := []
  entered : Bool := false
  rows : List GwRow := []
  flags : Nat := 0
  target : Nat := 0
  cands : List GwCand := []
  kept : List GwCand := []
  links : List GwCand := []
  wrote : List (Nat × Nat) := []
deriving DecidableEq, Repr

/-- The walker (R226 to R251): descriptor copies by slot, jobs that wait for a slot in arrival order, the 48 slots, shards reported with no
entry point by descriptor slot, records reported invalid by descriptor slot × 2^32 + node slot. -/
structure GwSt where
  copies : SMap (Option GwDesc) := []
  queue : List GwWalk := []
  walks : SMap (Option GwWalk) := []
  noEntry : SMap Bool := []
  invalid : SMap Bool := []
deriving DecidableEq, Repr

/-- A selection in passes (R259, R260): the unit whose request it is, the input, what is kept, the last entry written; the list-scan query that
it ends, and whether it was admitted against an OLD_COPY shard. -/
structure TopJob where
  unit : Nat
  r : Req
  merge : MergeTo
  shard : Nat
  k : Nat
  flags : Nat
  input : List Entry
  kept : List Entry := []
  after : Option Entry := none
  ls : Option LsQuery := none
  old : Bool := false
deriving DecidableEq, Repr

/-- A RESULT whose payloads are being gathered (R270): the message's fixed part, entries, payloads so far, the request ID of
the lookup that is out, whether it follows a redirect. -/
structure PayJob where
  unit : Nat
  r : Req
  direct : Bool
  area : Nat
  flags : Nat
  k : Nat
  n : Nat
  tieOut : Nat
  partsIn : Nat
  partsMissing : Nat
  partsFailed : Nat
  dups : Nat
  table : Nat
  units : Nat
  entries : List Entry
  pays : List (List Byte) := []
  ask : Option Nat := none
  hopped : Bool := false
deriving DecidableEq, Repr

/-- The merge units (R252 to R274). -/
structure SelSt where
  bufs : SMap MergeBuf := []
  tops : List TopJob := []
  pays : List PayJob := []
deriving DecidableEq, Repr

/-- A request that a unit of the node has sent, by its request ID (R400). -/
structure Ask where
  reqId : Nat
  unit : Nat
  dst : Nat
  hopped : Bool := false
deriving DecidableEq, Repr

/-- A RESULT or REDIRECT that answered such a request and waits for its unit. -/
structure Answer where
  reqId : Nat
  unit : Nat
  ty : Nat
  src : Nat
  payload : List Byte
deriving DecidableEq, Repr

/-- A table descriptor as the engine copies it (R276). -/
structure TblDesc where
  table : Nat := 0
  fmt : Nat := 1
  double : Bool := false
  elems : Nat := 32
  form : Nat := 0
  shard : Nat := 0
  rowBase : Nat := 0
  rows : Nat := 1
  rowOff : Nat := 0
  guestOff : Nat := 0
  guestLog2 : Nat := 0
  wclamp : Nat := 0
deriving DecidableEq, Repr

/-- Where a row of a request stands: held by a cut (R195), its command out, or done. -/
inductive RowSt where
  | held | sent | done
deriving DecidableEq, Repr

/-- A row of a request: its number, where it stands, the tag of its command, the code, the record's bytes after the row number, whether its
pin has been revoked. -/
structure TblRow where
  row : Nat
  st : RowSt
  tag : Nat := 0
  guest : Bool := false
  code : Nat := 0
  data : List Byte := []
  revoked : Bool := false
deriving DecidableEq, Repr

/-- A request that the tables engine serves: 0 a LOOKUP, 1 REPLACE, 2 APPLY, 3 LOAD. -/
structure TblReq where
  r : Req
  msg : List Byte
  desc : TblDesc
  kind : Nat
  rows : List TblRow
  pin : Option Nat := none
deriving DecidableEq, Repr

/-- A pin (R294): table, epoch, whether it has been revoked. -/
structure TblPin where
  table : Nat
  epoch : Nat
  revoked : Bool := false
deriving DecidableEq, Repr

/-- A swap (R295): the request, descriptor copy, first row, rows, source, the tag of the row command that is out, source bytes committed since
the last durable cursor, the durable cursor. -/
structure TblSwap where
  r : Req
  desc : TblDesc
  first : Nat
  count : Nat
  src : Nat
  tag : Option Nat := none
  bytes : Nat := 0
  durable : Nat := 0
deriving DecidableEq, Repr

/-- The tables engine: descriptor copies by table, requests in admission order, pins by handle, PINs that wait for a flip, swaps by table, when
each switching table's TABLE_EPOCH was dispatched, the next command tag. -/
structure TblSt where
  copies : SMap (Option TblDesc) := []
  reqs : List TblReq := []
  pins : SMap (Option TblPin) := []
  waits : List (Req × TblDesc) := []
  swaps : SMap (Option TblSwap) := []
  since : SMap Nat := []
  next : Nat := 1
deriving DecidableEq, Repr

end Sys2Proof.Machine
end

