-- ==== Sys2Proof/Machine/BlocksCtl.lean ====
section
/-! DEFINITION. The state of the node controller that is not a register: update epochs and seals (R478 to R486), rebuilds (R488 to
R490), resets, shim windows and rehearsal scripts (R473 to R477, R494 to R499). -/

namespace Sys2Proof.Machine

/-- An erasure group descriptor as the node copies it (R481). -/
structure GroupDesc where
  n : Nat := 1
  pos : Nat := 0
  gid : Nat := 0
  carrier : Nat := 0
  first : Nat := 0
  stripes : Nat := 1
  members : List Nat := []
deriving DecidableEq, Repr

/-- A shard write of a seal: stripe, position, the request that is out, its outcome. -/
structure ShardWrite where
  stripe : Nat
  pos : Nat
  ask : Option Nat := none
  code : Option Nat := none
deriving DecidableEq, Repr

/-- A page of a seal stream: its node offset and its bytes at the cut. -/
structure SealPage where
  off : Nat
  data : List Byte
deriving DecidableEq, Repr

/-- An entry of the epoch log (R485). -/
structure EpochEnt where
  epoch : Nat
  first : Nat
  count : Nat
deriving DecidableEq, Repr

/-- Update epochs (R478 to R486): the journal of the open epoch, in apply order, the pages it has changed by number of 64 KiB, the
enabled group and the last GROUP_ID, the epoch log, the last epoch released, which half is open; of the epoch that holds the other
half: its cut beat, journal and pages, its stripes, its shard writes, the RESEAL to answer, the code of a cut that ended at once. -/
structure SealSt where
  journal : List (List Byte) := []
  changed : SMap Bool := []
  group : Option GroupDesc := none
  lastGid : Option Nat := none
  log : List EpochEnt := []
  released : Option Nat := none
  half : Nat := 0
  cutBeat : Nat := 0
  cutJournal : List (List Byte) := []
  cutPages : List SealPage := []
  first : Nat := 0
  count : Nat := 0
  writes : List ShardWrite := []
  stripe : Nat := 0
  coding : Bool := false
  reseal : Option Req := none
  fail : Nat := 0
  lastCut : Option Nat := none
  due : Bool := false
deriving DecidableEq, Repr

/-- A rebuild in a recovery slot (R488 to R490): its request, first stripe, the LOST mask, the buffer; of the running stripe the stage (0 begins,
1 reads, 2 the RECOVER job, 3 the own write), the positions read, the read or write that is out with its position; the event serial from
which its own faults are looked for. -/
structure RecSt where
  req : Option Req := none
  first : Nat := 0
  mask : Nat := 0
  buf : Nat := 0
  stage : Nat := 0
  got : List Nat := []
  ask : Option (Nat × Nat) := none
  seq : Nat := 0
deriving DecidableEq, Repr

/-- A scoped reset in progress (R477): scope, instance, the CONTROL that asked for it, when it began. -/
structure ResetRun where
  scope : Nat
  inst : Nat
  req : Option Req
  at_ : Nat
deriving DecidableEq, Repr

/-- A shim window (R498): TARGET, its first beat and the beat at whose boundary it closes. -/
structure ShimWin where
  target : Nat
  from_ : Nat
  until_ : Nat
deriving DecidableEq, Repr

/-- A rehearsal script that is active (R494): the beat at whose boundary it ends, injections made, whether the lost peer has been
reported. -/
structure Script where
  until_ : Nat := 0
  made : Nat := 0
  raised : Bool := false
deriving DecidableEq, Repr

/-- The request that a command is serving while it reads memory: its node tenant, and whether it is a rehearsal's. Between commands there is
none. -/
structure Who where
  tenant : Nat
  rehearsal : Bool
deriving DecidableEq, Repr

/-- An entry of the rail record (R510), with the polls in a row that it has not answered and whether that has been reported. -/
structure RailEnt where
  rail : Nat
  addr : Nat
  page : Nat
  inSum : Bool
  missed : Nat := 0
  raised : Bool := false
deriving DecidableEq, Repr

/-- Startup, power and pins (R503 to R518): whether RESET_N or PWR_OK is low, whether the internal clocks have stopped (R506), which of IDENTITY
and MEMORY has ended, when RESET_N rose, the carrier that carrier boot has come to and whether a slot has been rejected (R513), the boot record
as read, the rail record with the rails found out of range, evaluations in a row below the cap, whether level 7 has been reported (R517),
the carrier of a save under way (R515). -/
structure BootSt where
  low : Bool := false
  stopped : Bool := false
  idDone : Bool := false
  memDone : Bool := false
  t0 : Nat := 0
  tried : Nat := 0
  rejected : Bool := false
  record : List Byte := []
  rails : List RailEnt := []
  railOut : SMap Bool := []
  calm : Nat := 0
  pwrRaised : Bool := false
  save : Option Nat := none
deriving DecidableEq, Repr

/-- The rest of the node controller: recovery slots, the reset in progress, the shim window, scripts, SYS record
serials (R487), the phase of startup (R511), what the carrier boot is about (R513), the boot save (R515), power (R510, R517, R518). -/
structure CtlSt where
  recs : SMap RecSt := []
  reset : Option ResetRun := none
  shim : Option ShimWin := none
  scripts : SMap (Option Script) := []
  who : Option Who := none
  sysSeq : Nat := 0
  boot : BootSt := {}
deriving DecidableEq, Repr

end Sys2Proof.Machine
end

