-- ==== Sys2Proof/Machine/BlocksMov.lean ====
section
/-! DEFINITION. The state of the movers, the check-value units and the parity engine that is not a register (R429 to R450). -/

namespace Sys2Proof.Machine

/-- Destination bytes whose remote source is being read: the operation's tag, first position, count. -/
structure MovRead where
  tag : Nat
  pos : Nat
  n : Nat
deriving DecidableEq, Repr

/-- A running descriptor (R432 to R438): its bytes, destination bytes begun and written, pacing requests pending, since when it waits for one and
whether that has been reported, remote reads and writes that are out, a remote flag update that is out. -/
structure MovRun where
  desc : List Byte
  pos : Nat := 0
  wrote : Nat := 0
  pend : Nat := 0
  waitAt : Nat := 0
  raised : Bool := false
  reads : List MovRead := []
  writes : List Nat := []
  flag : Option Nat := none
deriving DecidableEq, Repr

/-- A mover channel: the running descriptor, a STOP that waits for its end (R437). -/
structure MovCh where
  run : Option MovRun := none
  stop : Bool := false
deriving DecidableEq, Repr

/-- A parity job whose data has been worked on (R449): its queue, bytes, code, failing or mismatching offset, whether VERIFY found a mismatch. -/
structure ParRun where
  queue : Nat
  job : List Byte
  code : Nat
  off : Nat := 0
  mismatch : Bool := false
deriving DecidableEq, Repr

/-- The movers and the parity engine: channels, head words last seen by the watches, jobs of the node controller's queue with whose they are (0 the
seal, 1 + k recovery slot k), the job that runs, the queue whose turn it is, how jobs of the node controller ended that it has not yet taken
note of. -/
structure MovSt where
  chans : SMap MovCh := []
  seen : SMap Nat := []
  jobs : List (Nat × List Byte) := []
  job : Option ParRun := none
  turn : Nat := 0
  ended : List (Nat × Nat) := []
deriving DecidableEq, Repr

end Sys2Proof.Machine
end

