-- ==== Sys2Proof/Machine/BlocksNet.lean ====
section
/-! DEFINITION. The state of the units on the network I/O die that is not a register: events, the beat unit, the Skorath
engine, the traffic unit, telemetry and the port. -/

namespace Sys2Proof.Machine

/-- One event record (R467), its fields by name; DETAIL as its 8-byte items.
Assumption log: 14 (DEDUCED). -/
structure EventRec where
  beat : Nat := 0
  code : Nat := 0
  severity : Nat := 0
  rhTag : Nat := 0
  source : Nat := 0
  tenant : Nat := 0
  reqId : Nat := 0
  seq : Nat := 0
  phase : Nat := 0
  detail : List Nat := []
deriving DecidableEq, Repr

/-- An event that a command has raised and that has no serial number yet: the instant, its place in beat dispatch (R470), and
its record.
Assumption log: 13 (DEDUCED). -/
structure Fresh where
  at_ : Nat
  rank : Nat
  ev : EventRec
deriving DecidableEq, Repr

/-- The event unit: the ring of 4,096 records by entry (R470), the EVENT messages outstanding to each destination (R471).
`fresh` holds the events of the command that is running, `slots` counts the armed events it has brought to dispatch, and
`inSlot` says that one of them is being dispatched; between commands nothing is held there.
Assumption log: 13 (DEDUCED), 134 (DESIGN CHOICE). -/
structure EvtSt where
  ring : SMap EventRec := []
  outstanding : SMap Nat := []
  fresh : List Fresh := []
  slots : Nat := 0
  inSlot : Bool := false
deriving DecidableEq, Repr

/-- Between commands no event waits for its serial number. -/
def EvtSt.quiet (e : EvtSt) : Bool := e.fresh.isEmpty && e.slots == 0 && !e.inSlot

/-- The synchronisation states of R41. -/
inductive SyncState where
  | unsync | acquiring | locked | holdover | degraded | stepHeld
deriving DecidableEq, Repr

/-- The beat unit (R37 to R54): local time in ns, the beat last begun, the synchronisation state with its counts, the last
accepted offset and when it came, what is left to slew and the part of a ns slewed so far (both in ns/10,000, R39), the step applied or held, and the armed entries
that are due and wait for their dispatch slot, each with whether it is past-due (R50, R51).
Assumption log: 9 (DESIGN CHOICE), 11 (DESIGN CHOICE). -/
structure BeatSt where
  t : Nat := 0
  valid : Bool := false
  beat : Nat := 0
  state : SyncState := .unsync
  frozen : Bool := false
  offset : Int := 0
  lockCount : Nat := 0
  largeRun : Nat := 0
  entryOffset : Nat := 0
  lastMeas : Nat := 0
  slew : Int := 0
  slewPart : Int := 0
  step : Int := 0
  held : Bool := false
  due : List (Nat × Bool) := []
deriving DecidableEq, Repr

/-- An operation that a unit of the node has issued (R381, R383): `copies` are the members of a multicast store still
outstanding, `fail` the failure to report with its member (R397); `rehearsal` marks one that serves a rehearsal request (R495);
`got` are the tier pages whose extents have been read for one in the node's own loop. -/
structure OutOp where
  opId : Nat := 0
  op : Nat := 0
  dst : Nat := 0
  cls : Nat := 0
  gten : Nat := 0
  issuer : Nat := 0
  tag : Nat := 0
  offset : Nat := 0
  total : Nat := 0
  sub : Nat := 0
  operand : Nat := 0
  group : Nat := 0
  mcast : Bool := false
  data : List Byte := []
  copies : List Nat := []
  failNode : Nat := 0
  failCode : Nat := 0
  rehearsal : Bool := false
  got : List Nat := []
deriving DecidableEq, Repr

/-- A packet sent and not acknowledged, with the instant and the path of its last sending (R385, R388). -/
structure TxPkt where
  pkt : Packet
  sentAt : Nat
deriving DecidableEq, Repr

/-- The sending end of a connection to (peer, class) (R381, R384 to R389). -/
structure TxConn where
  psn : Nat := 0
  unacked : List TxPkt := []
  waiting : List Packet := []
  window : Nat := 65536
  rate : Nat := 1600000
  nextAt : Nat := 0
  rto : Nat := 0
  doublings : Nat := 0
  path : Nat := 0
  penal : SMap Nat := []
  cnpSeen : Bool := false
  incBeat : Nat := 0
  rnrUntil : Nat := 0
  rnrCount : Nat := 0
  rnrHold : Bool := false
  lastAct : Nat := 0
deriving DecidableEq, Repr

/-- The receiving end of a connection from (peer, class) (R382, R384, R389): the next PSN, packets held, what has been applied and not
acknowledged and since when, since when a gap lasts and whether it has been told, the last CNP; of the operation that is arriving, its
packets, whether it has failed, the tier pages whose extents have been read for it; whether a message has been refused for room and
not come again; the packets answered with NAK_ERR by PSN. -/
structure RxConn where
  next : Nat := 0
  held : List Packet := []
  unackedApplied : Nat := 0
  ackSince : Nat := 0
  gapSince : Option Nat := none
  gapTold : Bool := false
  lastCnp : Option Nat := none
  part : List Packet := []
  failed : Bool := false
  got : List Nat := []
  refusing : Bool := false
  naks : List (Nat × Nat × Nat) := []
  lastAct : Nat := 0
deriving DecidableEq, Repr

/-- A request in the in-flight table (R399): its name, the type and shard it names, when its message landed. -/
structure InFlight where
  src : Nat
  reqId : Nat
  ty : Nat
  cls : Nat
  gten : Nat
  tenant : Nat
  kind : Nat
  object : Nat
  shard : Nat
  epoch : Nat
  oldServed : Bool
  oldCopy : Bool := false
  rehearsal : Bool
  silent : Bool
  landed : Nat
  cancelled : Bool
deriving DecidableEq, Repr

/-- A CANCEL that matched nothing (R403). -/
structure HeldCancel where
  src : Nat
  reqId : Nat
  at_ : Nat
deriving DecidableEq, Repr

/-- A request held for the next map epoch (R535), or delayed by a rehearsal (R495): the message, whence, until when. -/
structure HeldMsg where
  src : Nat
  cls : Nat
  gten : Nat
  msg : List Byte
  until_ : Nat
deriving DecidableEq, Repr

/-- The Skorath record in force (R374). -/
structure SkoRecord where
  mode : Nat := 0
  node : Nat := 0
  dport : Nat := 0
  sportBase : Nat := 0
  ethertype : Nat := 0
  gwMac : Nat := 0
  ipPfx : Nat := 0
  macPfx : Nat := 0
  ctrlNode : List Nat := []
  dscp : List Nat := []
  delivery : List (Nat × Nat) := []
deriving DecidableEq, Repr

/-- A frame to send: a Skorath packet, or a PTP message (R368, R406); `gten` charges it (R424). -/
inductive TxBody where
  | pkt (p : Packet)
  | ptp (m : PtpMsg)
  | ack (syndrome : Nat) (a : AckInfo)
  | cnp (peer cls path : Nat)
deriving DecidableEq, Repr

/-- The Skorath engine: the record in force, the paths in use since the link came UP (R405), connections by peer × 8 + class, operations issued and not complete, those whose
flag waits (R394), the node's own loop (R381), ACKs and CNPs that
wait for room in the queue of their class, the in-flight table, held CANCELs, requests held for an epoch or a
rehearsal, peers lost and not heard of since (R385), requests of the node's own units with the answers they await, the full-table
episode (R399). -/
structure SkoSt where
  enabled : Bool := false
  recd : SkoRecord := {}
  paths : Nat := 16
  nextOp : Nat := 0
  tx : SMap TxConn := []
  rx : SMap RxConn := []
  ops : List OutOp := []
  flagWait : List OutOp := []
  loop : List OutOp := []
  ctl : List (Nat × TxBody) := []
  done : List (Nat × Nat × Nat × List Byte) := []
  inflight : List InFlight := []
  cancels : List HeldCancel := []
  held : List HeldMsg := []
  delayed : List HeldMsg := []
  lostPeers : List Nat := []
  asks : List Ask := []
  inbox : List Answer := []
  askNext : Nat := 1
  tableFull : Bool := false
deriving DecidableEq, Repr

/-- A frame in an egress queue: its wire bytes (R407), the instant it entered. -/
structure QFrame where
  body : TxBody
  wire : Nat
  enq : Nat
  depth : Nat
deriving DecidableEq, Repr

/-- A frame that left the node at the MDI; `pn` is its MACsec packet number. -/
structure SentFrame where
  cls : Nat
  body : TxBody
  wire : Nat
  at_ : Nat
  pn : Option Nat
deriving DecidableEq, Repr

/-- What the sampler keeps for a class over a period (R422). -/
structure QSample where
  maxDepth : Nat := 0
  sent : Nat := 0
  sojournSum : Nat := 0
  sojournMax : Nat := 0
  gated : Bool := false
  paused : Bool := false
deriving DecidableEq, Repr

/-- A policer's buckets, in 1/8,000 byte, and its last instant (R416). -/
structure PolicerSt where
  tc : Nat := 0
  tp : Nat := 0
  last : Nat := 0
deriving DecidableEq, Repr

/-- The traffic unit: egress queues by class, deficits and the visit in progress (R409), the express shaper (R410), the
active gate list, its base beat and its entry in force (R411, R413), the sampler and the beat it last wrote at (R421), whether a late frame of
the sample period has been reported (R420), policers by tenant × 2 + kind.
Assumption log: 9 (DESIGN CHOICE). -/
structure TsSt where
  queue : SMap (List QFrame) := []
  deficit : SMap Nat := []
  ptr : Nat := 0
  visiting : Bool := false
  tokens : Nat := 65536 * 8000
  tokensAt : Nat := 0
  list : Option Nat := none
  baseBeat : Nat := 0
  entry : Nat := 0
  sample : SMap QSample := []
  sampledAt : Option Nat := none
  lateRaised : Bool := false
  pol : SMap PolicerSt := []
deriving DecidableEq, Repr

/-- Telemetry's shadow bank by register offset (R426). -/
structure TelSt where
  shadow : SMap Nat := []
deriving DecidableEq, Repr

/-- The port: what was latched at the rise of ENABLE (R359), until when PFC holds a class (R366), the classes to which XOFF was
sent and when (R367), receive occupancy by class, the FEC window (R362), whether the last packet number has been used and reported
(R372), the PTP slave's view (R368), until when a frame or a trim occupies the transmit path, the beat of the last
trim (R499), frames sent, PFC frames sent
outside the queues (class, quanta). -/
structure PortSt where
  mode : Nat := 0
  anEn : Bool := false
  adv : Nat := 0
  pauseUntil : SMap Nat := []
  xoffSent : SMap Nat := []
  occ : SMap Nat := []
  fecRaised : Bool := false
  pnSpent : Bool := false
  pnExhausted : Bool := false
  twoStepRaised : Bool := false
  parentKnown : Bool := false
  ptpSeq : Nat := 0
  lastSync : Nat := 0
  busyUntil : Nat := 0
  trimUntil : Nat := 0
  trimBeat : Option Nat := none
  sent : List SentFrame := []
  pfcSent : List (Nat × Nat) := []
deriving DecidableEq, Repr

end Sys2Proof.Machine
end

