-- ==== Sys2Proof/Machine/BlocksSec.lean ====
section
/-! DEFINITION. The state of the identity block that is not a register (R452 to R464). -/

namespace Sys2Proof.Machine

/-- A vendor key slot in fuses (R455): public key, use mask (1 IMAGE, 2 CARRIER), revoke fuse. -/
structure VendorSlot where
  key : List Byte := []
  mask : Nat := 0
  revoked : Bool := false
deriving DecidableEq, Repr

/-- An ownership claim being written (R457): the new record, and whether it goes to copy B. -/
structure ClaimRun where
  rcd : List Byte
  copyB : Bool
deriving DecidableEq, Repr

/-- A quote or a certificate being written (R462, R463). -/
structure QuoteRun where
  addr : Nat
  bytes : List Byte
deriving DecidableEq, Repr

/-- The identity block: fuses (vendor slots, the rollback floor), the board identity module's helper record and ownership copies A and B, the
device secret while it stands, the record in force and whether it is copy B, the measurement registers and their log, whether the full log has
been reported, the claim, quote and floor raise that run. -/
structure SecSt where
  slots : List VendorSlot := []
  floor : Nat := 0
  helper : List Byte := []
  copyA : List Byte := []
  copyB : List Byte := []
  secret : Option (List Byte) := none
  inForce : Option (List Byte) := none
  forceB : Bool := false
  meas : SMap (List Byte) := []
  log : List (List Byte) := []
  fullRaised : Bool := false
  claim : Option ClaimRun := none
  quote : Option QuoteRun := none
  raising : Option Nat := none
deriving DecidableEq, Repr

end Sys2Proof.Machine
end

