-- ==== Sys2Proof/Machine/BlocksStore.lean ====
section
/-! DEFINITION. The state of the tier manager and of the flash subsystem that is not a register. -/

namespace Sys2Proof.Machine

/-- A page of the tiered space (R175): state code, frame, extent (carrier, first TIER block, blocks, encoding), heat, extents
written since EXTENT was set (R185), the state to return to after a failed cut (R194). -/
structure Page where
  st : Nat := 0
  stack : Nat := 0
  frame : Nat := 0
  carrier : Nat := 0
  first : Nat := 0
  blocks : Nat := 0
  fmt : Nat := 0
  heat : Nat := 0
  seq : Nat := 0
  prev : Nat := 0
deriving DecidableEq, Repr

/-- An operation of the fabric that waits for a page (R176): 0 for a read of its extent, 1 for the end of a move or a cut, 2 for
a frame; the connection it came on (0 the node's own loop, else 1 + the connection's key). -/
structure TierWait where
  page : Nat
  kind : Nat
  conn : Nat
deriving DecidableEq, Repr

/-- A demotion in flight (R181): the page, the encoding chosen and its place on the carrier, the encoded extent, whether it has waited for room on the carrier (R345). -/
structure Demotion where
  page : Nat
  carrier : Nat
  first : Nat
  blocks : Nat
  fmt : Nat
  ext : List Byte
  zero : Bool
  waited : Bool := false
deriving DecidableEq, Repr

/-- A migration slot's copy (R192 to R196): granules copied and the dirty map, the new frame or extent, the page state before
the cut, whether it was ZERO, the row image and when it was sent. -/
structure MigSt where
  copied : Nat := 0
  dirty : SMap Bool := []
  stack : Nat := 0
  frame : Nat := 0
  carrier : Nat := 0
  first : Nat := 0
  blocks : Nat := 0
  fmt : Nat := 0
  ext : List Byte := []
  prev : Nat := 0
  sent : Bool := false
  sentAt : Nat := 0
  image : List Byte := []
  zero : Bool := false
deriving DecidableEq, Repr

/-- A row image that this node has acknowledged (R195 step 4): the old home, table and row. -/
structure RowAck where
  node : Nat
  table : Nat
  row : Nat
deriving DecidableEq, Repr

/-- The tier manager (R173 to R197): pages, frames in use, operations that wait, promotions and demotions in flight, the sweep
pointer, the beat of the last halving, the episodes of R183, migration slots, row images sent to other nodes and acknowledged
to them. -/
structure TierSt where
  pages : SMap Page := []
  used : SMap Bool := []
  waits : List TierWait := []
  promos : List (Nat × Bool) := []
  demos : List Demotion := []
  sweepPtr : Nat := 0
  halved : Option Nat := none
  poolEp : Bool := false
  flashEp : Bool := false
  mig : SMap MigSt := []
  acks : List RowAck := []
deriving DecidableEq, Repr

/-- A STORAGE request that a carrier has admitted (R352): operation, request, first logical block of the carrier and count, node offset at the
source, ATOMIC, data in hand, the load that fetches it, whether its programming or erasing has begun, whether it has waited (R345), blocks read
so far, blocks that were not read, the superblocks that must be erased (R348). -/
structure FlOp where
  op : Nat
  r : Req
  first : Nat
  count : Nat
  off : Nat := 0
  atomic : Bool := false
  data : Option (List Byte) := none
  ask : Option Nat := none
  begun : Bool := false
  waited : Bool := false
  got : List (List Byte) := []
  bad : List Nat := []
  supers : List Nat := []
deriving DecidableEq, Repr

/-- A superblock (R325, R345): erase count since the last erase of the whole carrier, whether it is closed, retired erase blocks, the blocks
programmed into it since its last erase. -/
structure SuperBlk where
  erases : Nat := 0
  closed : Bool := false
  retired : Nat := 0
  blocks : List Nat := []
deriving DecidableEq, Repr

/-- A read class of a die (R342): its seven offsets as 8-bit codes, the corrected bits of the last reads, the newest first, marked. -/
structure ReadClass where
  offsets : List Nat := [0, 0, 0, 0, 0, 0, 0]
  hist : List Nat := []
  mark : Bool := false
deriving DecidableEq, Repr

/-- The counts of a carrier's health record (R350); the highest temperature is absent until one is read. -/
structure Health where
  hostWritten : Nat := 0
  nandWritten : Nat := 0
  hostRead : Nat := 0
  corrected : Nat := 0
  retries : Nat := 0
  uncorr : Nat := 0
  programFail : Nat := 0
  eraseFail : Nat := 0
  hours : Nat := 0
  mounts : Nat := 0
  tempMax : Option Int := none
  spareLow : Bool := false
  readOnly : Bool := false
  hot : Bool := false
  hist : List Nat := [0, 0, 0, 0, 0, 0, 0, 0]
deriving DecidableEq, Repr

/-- A SYS record (R487): what it is about (0 epoch log, 1 rebuild cursor, 2 swap cursor), which object, its sequence number, its values. -/
structure SysRec where
  kind : Nat
  key : Nat
  seq : Nat
  vals : List Nat
deriving DecidableEq, Repr

/-- A carrier (R325 to R356): what stands in its socket and what it carries. Contents are kept by logical block; a block with no entry reads as
zeros, and `bad` marks the blocks that read as media errors until written (R340, R341). `place` names the superblock of a block, `eraseBase` the
erases of the whole carrier, `running` the control that runs (1 FORMAT, 2 SANITISE, 3 DETACH).
Assumption log: 96 (DESIGN CHOICE). -/
structure CarrierSt where
  present : Bool := false
  model : Nat := 0
  sysValid : Bool := false
  owner : List Byte := []
  tierBlocks : Nat := 0
  blk : SMap (List Byte) := []
  bad : SMap Bool := []
  place : SMap (Option Nat) := []
  supers : SMap SuperBlk := []
  eraseBase : Nat := 0
  openSb : Option Nat := none
  victims : Nat := 0
  credit : Nat := 0
  ops : List FlOp := []
  tierUsed : SMap Bool := []
  classes : SMap ReadClass := []
  health : Health := {}
  mirror : List Byte := []
  running : Nat := 0
  alert : Bool := false
  sys : List SysRec := []
deriving DecidableEq, Repr

end Sys2Proof.Machine
end

