-- ==== Sys2Proof/Machine/BlocksText.lean ====
section
/-! DEFINITION. The state of the text unit that is not a register (R300 to R324). -/

namespace Sys2Proof.Machine

/-- User text in hand (R303): an incomplete UTF-8 sequence, the characters of the unfinished piece, and the last bytes, at which a control
token's string may still be about to end (R308). -/
structure TxtIn where
  carry : List Byte := []
  piece : List (List Byte) := []
  recent : List Byte := []
deriving DecidableEq, Repr

/-- A byte that stop matching holds, with the generated token that it came from and its offset in that token's string (R316, R317). -/
structure HeldByte where
  b : Byte
  tok : Nat
  off : Nat
deriving DecidableEq, Repr

/-- A grammar descriptor as the unit copies it (R319). -/
structure GramDesc where
  states : Nat := 1
  tok : Nat := 0
  start : Nat := 0
  stateOff : Nat := 0
  excOff : Nat := 0
  maskOff : Nat := 0
deriving DecidableEq, Repr

/-- An open stream (R311 to R323): the OPEN's envelope, its serial in the slot, the OPEN block's fields, text in hand, whether the prompt has
ended, the step awaited, whether a mask is being fetched, generated tokens treated and the last of them, bytes that stop matching and the UTF-8 stage hold,
the grammar's state and stack, the next OUTPUT serial, when its last message came.
Assumption log: 89 (DEDUCED). -/
structure TxtStream where
  r : Req
  serial : Nat
  tok : Nat
  inReplace : Bool
  outReplace : Bool
  generate : Bool
  stops : List (List Byte)
  maxTokens : Nat
  ring : Nat
  grammar : Option Nat
  gdesc : GramDesc := {}
  inp : TxtIn := {}
  promptDone : Bool := false
  awaiting : Option Nat := none
  fetching : Bool := false
  gen : Nat := 0
  prev : Nat := 0xFFFFFFFF
  held : List HeldByte := []
  tail : List Byte := []
  gstate : Nat := 0
  gstack : List Nat := []
  outSeq : Nat := 0
  last : Nat := 0
deriving DecidableEq, Repr

/-- The text unit: streams by slot, the serial last given in each slot, grammar copies, the QUERY_TEXTs sent to an encoder with the first
bytes of their bodies. -/
structure TxtSt where
  streams : SMap (Option TxtStream) := []
  serials : SMap Nat := []
  grams : SMap (Option GramDesc) := []
  asked : List Req := []
deriving DecidableEq, Repr

end Sys2Proof.Machine
end

