-- ==== Sys2Proof/Machine/BlocksTile.lean ====
section
/-! DEFINITION. The state of the rings, tiles, panels, images, stacks and inlay units that is not a register. -/

namespace Sys2Proof.Machine

/-- A token: the granules of a ring from one byte count to another (R30); since when it waits at the head (R143), and
whether its stall has been reported. -/
structure Token where
  from_ : Nat
  to_ : Nat
  since : Nat := 0
  raised : Bool := false
deriving DecidableEq, Repr

/-- An inbound ring (R138), its tokens not yet taken. Its tail and head words lie in memory at BASE + size and
BASE + size + 8. -/
structure RingSt where
  base : Nat := 0
  size : Nat := 0
  prodKind : Nat := 0
  ownerKind : Nat := 0
  producer : Nat := 0
  owner : Nat := 0
  tokens : List Token := []
deriving DecidableEq, Repr

/-- A running chain (R142, R144): its ring and message, the request it serves, the next descriptor, how many have run, the
credits still held by class, a CANCEL seen. -/
structure Chain where
  ring : Nat
  pos : Nat
  len : Nat
  ty : Nat
  reqId : Nat
  src : Nat
  cls : Nat
  tenant : Nat
  rehearsal : Bool := false
  desc : Nat := 0
  steps : Nat := 0
  startAt : Nat := 0
  credits : SMap Nat := []
  cancel : Bool := false
  lastBegun : Bool := false
  stopAt : Bool := false
deriving DecidableEq, Repr

/-- A tile (R138 to R147): the rings it watches in watch order, the chain it runs, the queue last served, a debug halt in
force, whether the breakpoint has just been passed, and the seed of its vector registers: `none` while they read +0
(R126), `some k` after an operator has run, whose working values the manual leaves open. -/
structure TileSt where
  watches : List Nat := []
  chain : Option Chain := none
  last : Nat := 7
  halted : Bool := false
  passed : Bool := false
  vreg : Option Nat := none
deriving DecidableEq, Repr

/-- A message that an engine sends to a tile of a panel by its role (R64, R209, R211), or to a ring that the request names (R311), with the
request it serves. -/
structure WorkMsg where
  role : Nat
  ty : Nat
  cls : Nat
  tenant : Nat
  reqId : Nat
  src : Nat
  deadline : Nat
  rehearsal : Bool
  payload : List Byte
  ring : Option Nat := none
deriving DecidableEq, Repr

/-- A chain that failed on a local TYPE, reported to its producer (R145). -/
structure WorkFail where
  ty : Nat
  src : Nat
  reqId : Nat
  code : Nat
deriving DecidableEq, Repr

/-- A section of an image (R58): type, panel, place and length of its body, digest. -/
structure Section where
  ty : Nat
  panel : Nat
  off : Nat
  len : Nat
  digest : List Byte
deriving DecidableEq, Repr

/-- One home of the route map (R67). -/
structure Route where
  kind : Nat
  object : Nat
  shard : Nat
  home : Nat
deriving DecidableEq, Repr

/-- One entry of the tenant map (R69). -/
structure TenantEnt where
  global : Nat
  node : Nat
  mask : Nat
deriving DecidableEq, Repr

/-- A panel's definition: role, tiles, its sections in directory order (R64, R65, R127, R140), the place of the image that holds them. -/
structure PanelDef where
  role : Nat := 0
  tiles : List Nat := []
  sections : List Section := []
  addr : Nat := 0
deriving DecidableEq, Repr

/-- An image as its header and directory describe it (R57, R58), with the node offset at which it lies, the digest of header and directory (R461),
the vendor slots whose signatures on it are valid (R455), its panels, routes and tenants (R64, R67, R69). -/
structure Image where
  addr : Nat := 0
  len : Nat := 0
  id : Nat := 0
  svn : Nat := 0
  routeEpoch : Nat := 0
  sections : List Section := []
  digest : List Byte := []
  vendor : List Nat := []
  panels : SMap (Option PanelDef) := []
  routes : List Route := []
  tenants : List TenantEnt := []
deriving DecidableEq, Repr

/-- A panel reload (R78, R79): its place in the order of dispatch, whether its definition came from the staged image, the definition (`none`
retires the panel); from the start of LOADING, the definition being loaded with the bodies read, and whether it is still the one from the
staged image. -/
structure Reload where
  seq : Nat
  staged : Bool
  defn : Option PanelDef
  loading : Option PanelDef := none
  bodies : List (List Byte) := []
deriving DecidableEq, Repr

/-- A panel (R78 to R81): its running definition, the tiles assigned to it, the reload under way, when its draining began, reloads that wait. -/
structure PanelSt where
  run : Option PanelDef := none
  tiles : List Nat := []
  job : Option Reload := none
  drainAt : Nat := 0
  queued : List Reload := []
deriving DecidableEq, Repr

/-- The image loader and the maps (R71 to R88): the place of the staging under check, the staged and the active image, whether a MAP_CUT or a
reload has used the staged image, the panels that have completed a reload from it, the full load's phase (0 none, 1 draining,
2 loading) with the panels that were HELD before it, panels, the reload in its load phase, reloads dispatched, the route map and the
shards kept as old copies, the tenant map. -/
structure ImgSt where
  verifying : Option (Nat × Nat) := none
  staged : Option Image := none
  active : Option Image := none
  used : Bool := false
  reloaded : List Nat := []
  full : Nat := 0
  held : List Nat := []
  panels : SMap PanelSt := []
  loading : Option Nat := none
  seq : Nat := 0
  routes : List Route := []
  oldCopies : List Route := []
  tenants : List TenantEnt := []
deriving DecidableEq, Repr

/-- A command packet or a result (R153, R156): its bytes, the subsystem and tag to which the result goes, and for a result
what its reader takes beside the bytes: the tag of the slot read (R292), or why it was ABORTED (1 the unit was OFFLINE, 2 the row
is ABSENT, 3 a reset of the stack). -/
structure InlPkt where
  bytes : List Byte
  dest : Nat := 0
  tag : Nat := 0
  aux : Nat := 0
deriving DecidableEq, Repr

/-- What a unit is sent, in order (R155): a packet, a LOAD_TSLOT broadcast (first slot, data), a LOAD_FILTER one (slot, data). -/
inductive InlItem where
  | packet (p : InlPkt)
  | tslot (first : Nat) (data : List Byte)
  | filter (slot : Nat) (data : List Byte)
deriving DecidableEq, Repr

/-- An inlay unit (R153 to R171): what was sent to it, what the stack controller holds back for want of room (R154), its result
FIFO, results already read for the engines, table slots of 1 KiB and filter slots of 64 bytes, when the running command began, broadcasts that wait for a copy. -/
structure InlSt where
  cmds : List InlItem := []
  waiting : List InlItem := []
  results : List InlPkt := []
  taken : List InlPkt := []
  tslots : SMap (List Byte) := []
  filters : SMap (List Byte) := []
  startAt : Nat := 0
  pendBcast : List InlItem := []
deriving DecidableEq, Repr

/-- A stack (R167 to R170): the scrub position, the trim rotation, the channel being retrained, the unit being trimmed. -/
structure StkSt where
  scrubAt : Nat := 0
  nextChan : Nat := 0
  retrain : Option Nat := none
  nextTrim : Nat := 0
  trimming : Option Nat := none
deriving DecidableEq, Repr

end Sys2Proof.Machine
end

