-- ==== Sys2Proof/Machine/RegMap.lean ====
section
/-! DEFINITION. The register map: every register of the control window by the name, offset, fields, access codes and reset
value that its block's chapter gives it (R5, R56, R89, R105, R147, R172, R198, R225, R251, R274, R299, R324, R356, R373,
R405, R428, R451, R465, R500, R524), placed by R526. Tile registers stand at their alias of R528, which no other block
names, and R527 and R528 are applied where an access is decoded. -/

namespace Sys2Proof.Machine

/-- The access codes of R17; `hid` is a write-only word whose value the node keeps (keys, salts). -/
inductive Access where
  | ro | rw | wo | w1c | rc | hid
deriving DecidableEq, Repr

/-- One field of a register: bits `[lo + w - 1 : lo]`, its access code. -/
structure FieldDesc where
  lo : Nat
  w : Nat
  acc : Access
deriving DecidableEq, Repr

/-- One register of a block: the offset of its first copy, the stride and number of its copies by each index, its fields. -/
structure RegDesc where
  base : Nat
  dims : List (Nat × Nat)
  fields : List FieldDesc
  rst : Nat
deriving DecidableEq, Repr

/-- A field of one register: the register's offset and the field's bits. -/
structure RegField where
  off : Nat
  lo : Nat
  w : Nat
deriving DecidableEq, Repr

namespace Reg

/-- NCTL_ID (R5). -/
def NCTL_ID : Nat := 0xF00000000000
/-- BEAT_NOW (R56). -/
def BEAT_NOW : Nat := 0xF00001000000
/-- BEAT_STATUS (R56). -/
def BEAT_STATUS : Nat := 0xF00001000008
/-- BEAT_HOLD (R56). -/
def BEAT_HOLD : Nat := 0xF00001000010
/-- BEAT_STEP (R56). -/
def BEAT_STEP : Nat := 0xF00001000018
/-- BEAT_CFG (R56). -/
def BEAT_CFG : Nat := 0xF00001000020
/-- BEAT_CFG2 (R56). -/
def BEAT_CFG2 : Nat := 0xF00001000028
/-- BEAT_CTRL (R56). -/
def BEAT_CTRL : Nat := 0xF00001000030
/-- BEAT_PPS_SEC (R56). -/
def BEAT_PPS_SEC : Nat := 0xF00001000038
/-- BEAT_EVT_BEAT (R56). -/
def BEAT_EVT_BEAT (n : Nat) : Nat := 0xF00001001000 + n * 0x20
/-- BEAT_EVT_ACT (R56). -/
def BEAT_EVT_ACT (n : Nat) : Nat := 0xF00001001008 + n * 0x20
/-- BEAT_EVT_ARG (R56). -/
def BEAT_EVT_ARG (n : Nat) : Nat := 0xF00001001010 + n * 0x20
/-- BEAT_EVT_CTL (R56). -/
def BEAT_EVT_CTL (n : Nat) : Nat := 0xF00001001018 + n * 0x20
/-- IMG_STAGE_ADDR (R89). -/
def IMG_STAGE_ADDR : Nat := 0xF00002000000
/-- IMG_STAGE_LEN (R89). -/
def IMG_STAGE_LEN : Nat := 0xF00002000008
/-- IMG_CTRL (R89). -/
def IMG_CTRL : Nat := 0xF00002000010
/-- IMG_STATUS (R89). -/
def IMG_STATUS : Nat := 0xF00002000018
/-- IMG_ACTIVE_ID (R89). -/
def IMG_ACTIVE_ID : Nat := 0xF00002000020
/-- IMG_STAGED_ID (R89). -/
def IMG_STAGED_ID : Nat := 0xF00002000028
/-- IMG_MAP (R89). -/
def IMG_MAP : Nat := 0xF00002000030
/-- IMG_DOVE (R89). -/
def IMG_DOVE : Nat := 0xF00002000038
/-- IMG_CFG (R89). -/
def IMG_CFG : Nat := 0xF00002000040
/-- IMG_PANEL_STATE (R89). -/
def IMG_PANEL_STATE (p : Nat) : Nat := 0xF00002001000 + p * 0x8
/-- TILE_ARITH_FLAGS (R105). -/
def TILE_ARITH_FLAGS (t : Nat) : Nat := 0xF000A0000400 + t * 0x100000
/-- TILE_ARITH_CNT (R105). -/
def TILE_ARITH_CNT (t : Nat) : Nat := 0xF000A0000408 + t * 0x100000
/-- TILE_STATUS (R147). -/
def TILE_STATUS (t : Nat) : Nat := 0xF000A0000000 + t * 0x100000
/-- TILE_ERR (R147). -/
def TILE_ERR (t : Nat) : Nat := 0xF000A0000010 + t * 0x100000
/-- TILE_ERR_INFO (R147). -/
def TILE_ERR_INFO (t : Nat) : Nat := 0xF000A0000018 + t * 0x100000
/-- TILE_LIMITS (R147). -/
def TILE_LIMITS (t : Nat) : Nat := 0xF000A0000020 + t * 0x100000
/-- TILE_CREDIT (R147). -/
def TILE_CREDIT (t c : Nat) : Nat := 0xF000A0000100 + t * 0x100000 + c * 0x8
/-- TILE_WATCH (R147). -/
def TILE_WATCH (t w : Nat) : Nat := 0xF000A0000180 + t * 0x100000 + w * 0x8
/-- TILE_PERF_BUSY (R147). -/
def TILE_PERF_BUSY (t : Nat) : Nat := 0xF000A0000200 + t * 0x100000
/-- TILE_PERF_CSTALL (R147). -/
def TILE_PERF_CSTALL (t : Nat) : Nat := 0xF000A0000208 + t * 0x100000
/-- TILE_PERF_TOKENS (R147). -/
def TILE_PERF_TOKENS (t : Nat) : Nat := 0xF000A0000210 + t * 0x100000
/-- TILE_BENCH_ECC (R147). -/
def TILE_BENCH_ECC (t : Nat) : Nat := 0xF000A0000218 + t * 0x100000
/-- TILE_DBG_CTRL (R147). -/
def TILE_DBG_CTRL (t : Nat) : Nat := 0xF000A0000800 + t * 0x100000
/-- TILE_DBG_POS (R147). -/
def TILE_DBG_POS (t : Nat) : Nat := 0xF000A0000808 + t * 0x100000
/-- TILE_DBG_VREG (R147). -/
def TILE_DBG_VREG (t r j : Nat) : Nat := 0xF000A0010000 + t * 0x100000 + r * 0x400 + j * 0x8
/-- STK_STATUS (R172). -/
def STK_STATUS (s : Nat) : Nat := 0xF00020000000 + s * 0x1000000
/-- STK_ECC (R172). -/
def STK_ECC (s : Nat) : Nat := 0xF00020000008 + s * 0x1000000
/-- STK_POISON (R172). -/
def STK_POISON (s : Nat) : Nat := 0xF00020000010 + s * 0x1000000
/-- STK_SCRUB (R172). -/
def STK_SCRUB (s : Nat) : Nat := 0xF00020000018 + s * 0x1000000
/-- INL_PERF_SCORES (R172). -/
def INL_PERF_SCORES (s : Nat) : Nat := 0xF00020000020 + s * 0x1000000
/-- INL_PERF_BUS (R172). -/
def INL_PERF_BUS (s : Nat) : Nat := 0xF00020000028 + s * 0x1000000
/-- INL_LIMITS (R172). -/
def INL_LIMITS (s : Nat) : Nat := 0xF00020000030 + s * 0x1000000
/-- INL_UNIT_STATUS (R172). -/
def INL_UNIT_STATUS (s u : Nat) : Nat := 0xF00020100000 + s * 0x1000000 + u * 0x100
/-- INL_UNIT_ERR (R172). -/
def INL_UNIT_ERR (s u : Nat) : Nat := 0xF00020100008 + s * 0x1000000 + u * 0x100
/-- INL_UNIT_CTRL (R172). -/
def INL_UNIT_CTRL (s u : Nat) : Nat := 0xF00020100010 + s * 0x1000000 + u * 0x100
/-- TIER_CFG (R198). -/
def TIER_CFG : Nat := 0xF00030000000
/-- TIER_CFG2 (R198). -/
def TIER_CFG2 : Nat := 0xF00030000008
/-- TIER_STATUS (R198). -/
def TIER_STATUS : Nat := 0xF00030000010
/-- TIER_CNT_MOVES (R198). -/
def TIER_CNT_MOVES : Nat := 0xF00030000018
/-- TIER_CNT_EXC (R198). -/
def TIER_CNT_EXC : Nat := 0xF00030000020
/-- TIER_PAGE_SEL (R198). -/
def TIER_PAGE_SEL : Nat := 0xF00030000028
/-- TIER_PAGE_INFO (R198). -/
def TIER_PAGE_INFO : Nat := 0xF00030000030
/-- TIER_PAGE_OP (R198). -/
def TIER_PAGE_OP : Nat := 0xF00030000038
/-- TIER_POOL (R198). -/
def TIER_POOL (s : Nat) : Nat := 0xF00030000100 + s * 0x8
/-- TIER_PIN (R198). -/
def TIER_PIN (n : Nat) : Nat := 0xF00030000200 + n * 0x8
/-- TIER_MIG_OBJ (R198). -/
def TIER_MIG_OBJ (n : Nat) : Nat := 0xF00030001000 + n * 0x20
/-- TIER_MIG_DEST (R198). -/
def TIER_MIG_DEST (n : Nat) : Nat := 0xF00030001008 + n * 0x20
/-- TIER_MIG_CTL (R198). -/
def TIER_MIG_CTL (n : Nat) : Nat := 0xF00030001010 + n * 0x20
/-- LS_CFG (R225). -/
def LS_CFG : Nat := 0xF00070000000
/-- LS_STATUS (R225). -/
def LS_STATUS : Nat := 0xF00070000008
/-- LS_CNT_LISTS (R225). -/
def LS_CNT_LISTS : Nat := 0xF00070000010
/-- LS_CNT_EXC (R225). -/
def LS_CNT_EXC : Nat := 0xF00070000018
/-- LS_SHADOW_CFG (R225). -/
def LS_SHADOW_CFG : Nat := 0xF00070000020
/-- LS_SHADOW_RECALL (R225). -/
def LS_SHADOW_RECALL : Nat := 0xF00070000028
/-- LS_SHADOW_DROP (R225). -/
def LS_SHADOW_DROP : Nat := 0xF00070000030
/-- LS_IDX_BASE (R225). -/
def LS_IDX_BASE (d : Nat) : Nat := 0xF00070001000 + d * 0x10
/-- LS_IDX_CTL (R225). -/
def LS_IDX_CTL (d : Nat) : Nat := 0xF00070001008 + d * 0x10
/-- WLK_CFG (R251). -/
def WLK_CFG : Nat := 0xF00070800000
/-- WLK_STATUS (R251). -/
def WLK_STATUS : Nat := 0xF00070800008
/-- WLK_CNT_EXP (R251). -/
def WLK_CNT_EXP : Nat := 0xF00070800010
/-- WLK_CNT_STALE (R251). -/
def WLK_CNT_STALE : Nat := 0xF00070800018
/-- WLK_CNT_EXC (R251). -/
def WLK_CNT_EXC : Nat := 0xF00070800020
/-- WLK_IDX_BASE (R251). -/
def WLK_IDX_BASE (d : Nat) : Nat := 0xF00070801000 + d * 0x10
/-- WLK_IDX_CTL (R251). -/
def WLK_IDX_CTL (d : Nat) : Nat := 0xF00070801008 + d * 0x10
/-- WLK_SLOT (R251). -/
def WLK_SLOT (n : Nat) : Nat := 0xF00070802000 + n * 0x8
/-- SEL_CFG (R274). -/
def SEL_CFG : Nat := 0xF00071000000
/-- SEL_BUF_BASE (R274). -/
def SEL_BUF_BASE : Nat := 0xF00071000008
/-- SEL_BUF_CFG (R274). -/
def SEL_BUF_CFG : Nat := 0xF00071000010
/-- SEL_STATUS (R274). -/
def SEL_STATUS : Nat := 0xF00071000018
/-- SEL_CNT_MERGE (R274). -/
def SEL_CNT_MERGE : Nat := 0xF00071000020
/-- SEL_CNT_EXC (R274). -/
def SEL_CNT_EXC : Nat := 0xF00071000028
/-- SEL_CNT_DUP (R274). -/
def SEL_CNT_DUP : Nat := 0xF00071000030
/-- SEL_BUF_SEL (R274). -/
def SEL_BUF_SEL : Nat := 0xF00071000038
/-- SEL_BUF_INFO (R274). -/
def SEL_BUF_INFO : Nat := 0xF00071000040
/-- SEL_PAY_BASE (R274). -/
def SEL_PAY_BASE (t : Nat) : Nat := 0xF00071001000 + t * 0x8
/-- TBL_STATUS (R299). -/
def TBL_STATUS : Nat := 0xF00072000000
/-- TBL_CNT_OPS (R299). -/
def TBL_CNT_OPS : Nat := 0xF00072000008
/-- TBL_CNT_EXC (R299). -/
def TBL_CNT_EXC : Nat := 0xF00072000010
/-- TBL_DESC_BASE (R299). -/
def TBL_DESC_BASE (t : Nat) : Nat := 0xF00072001000 + t * 0x20
/-- TBL_CTL (R299). -/
def TBL_CTL (t : Nat) : Nat := 0xF00072001008 + t * 0x20
/-- TBL_EPOCH (R299). -/
def TBL_EPOCH (t : Nat) : Nat := 0xF00072001010 + t * 0x20
/-- TBL_SWAP (R299). -/
def TBL_SWAP (t : Nat) : Nat := 0xF00072001018 + t * 0x20
/-- TXT_CFG (R324). -/
def TXT_CFG : Nat := 0xF00073000000
/-- TXT_STATUS (R324). -/
def TXT_STATUS : Nat := 0xF00073000008
/-- TXT_CNT_TOK (R324). -/
def TXT_CNT_TOK : Nat := 0xF00073000010
/-- TXT_CNT_EXC (R324). -/
def TXT_CNT_EXC : Nat := 0xF00073000018
/-- TXT_CTRL_TEN (R324). -/
def TXT_CTRL_TEN (n : Nat) : Nat := 0xF00073000100 + n * 0x8
/-- TXT_GRAM_BASE (R324). -/
def TXT_GRAM_BASE (g : Nat) : Nat := 0xF00073001000 + g * 0x10
/-- TXT_GRAM_CTL (R324). -/
def TXT_GRAM_CTL (g : Nat) : Nat := 0xF00073001008 + g * 0x10
/-- TXT_STREAM_INFO (R324). -/
def TXT_STREAM_INFO (s : Nat) : Nat := 0xF00073008000 + s * 0x8
/-- FL_CFG (R356). -/
def FL_CFG : Nat := 0xF00040000000
/-- FL_CAL (R356). -/
def FL_CAL : Nat := 0xF00040000008
/-- FL_STATUS (R356). -/
def FL_STATUS : Nat := 0xF00040000010
/-- FL_CAR_STATUS (R356). -/
def FL_CAR_STATUS (c : Nat) : Nat := 0xF00040100000 + c * 0x1000
/-- FL_CAR_CTRL (R356). -/
def FL_CAR_CTRL (c : Nat) : Nat := 0xF00040100008 + c * 0x1000
/-- FL_CAR_PART (R356). -/
def FL_CAR_PART (c : Nat) : Nat := 0xF00040100010 + c * 0x1000
/-- FL_CAR_STORE (R356). -/
def FL_CAR_STORE (c : Nat) : Nat := 0xF00040100018 + c * 0x1000
/-- FL_CAR_MAPC (R356). -/
def FL_CAR_MAPC (c : Nat) : Nat := 0xF00040100020 + c * 0x1000
/-- FL_CAR_CNT_IO (R356). -/
def FL_CAR_CNT_IO (c : Nat) : Nat := 0xF00040100028 + c * 0x1000
/-- FL_CAR_CNT_EXC (R356). -/
def FL_CAR_CNT_EXC (c : Nat) : Nat := 0xF00040100030 + c * 0x1000
/-- FL_CAR_HEALTH (R356). -/
def FL_CAR_HEALTH (c i : Nat) : Nat := 0xF00040100100 + c * 0x1000 + i * 0x8
/-- PORT_CFG (R373). -/
def PORT_CFG : Nat := 0xF00050000000
/-- PORT_STATUS (R373). -/
def PORT_STATUS : Nat := 0xF00050000008
/-- PORT_MAC (R373). -/
def PORT_MAC : Nat := 0xF00050000010
/-- PORT_VLAN (R373). -/
def PORT_VLAN : Nat := 0xF00050000018
/-- PORT_PCP_MAP (R373). -/
def PORT_PCP_MAP : Nat := 0xF00050000020
/-- PORT_PFC (R373). -/
def PORT_PFC : Nat := 0xF00050000028
/-- PORT_PFC_THR (R373). -/
def PORT_PFC_THR (c : Nat) : Nat := 0xF00050000100 + c * 0x8
/-- PORT_FEC_CNT (R373). -/
def PORT_FEC_CNT : Nat := 0xF00050000030
/-- PORT_FEC_CFG (R373). -/
def PORT_FEC_CFG : Nat := 0xF00050000038
/-- PORT_DROP_CNT (R373). -/
def PORT_DROP_CNT : Nat := 0xF00050000040
/-- PORT_PTP_CFG (R373). -/
def PORT_PTP_CFG : Nat := 0xF00050000050
/-- PORT_PTP_CORR (R373). -/
def PORT_PTP_CORR : Nat := 0xF00050000058
/-- PORT_SEC_CFG (R373). -/
def PORT_SEC_CFG : Nat := 0xF00050000060
/-- PORT_SEC_RXSCI (R373). -/
def PORT_SEC_RXSCI : Nat := 0xF00050000068
/-- PORT_SEC_CNT (R373). -/
def PORT_SEC_CNT : Nat := 0xF00050000070
/-- PORT_SEC_SA (R373). -/
def PORT_SEC_SA (d a w : Nat) : Nat := 0xF00050000200 + d * 0x100 + a * 0x40 + w * 0x8
/-- PORT_SERDES (R373). -/
def PORT_SERDES (l : Nat) : Nat := 0xF00050000400 + l * 0x8
/-- SKO_STATUS (R405). -/
def SKO_STATUS : Nat := 0xF00051000000
/-- SKO_LOAD (R405). -/
def SKO_LOAD : Nat := 0xF00051000008
/-- SKO_CFG (R405). -/
def SKO_CFG : Nat := 0xF00051000010
/-- SKO_CFG2 (R405). -/
def SKO_CFG2 : Nat := 0xF00051000018
/-- SKO_CC (R405). -/
def SKO_CC : Nat := 0xF00051000020
/-- SKO_CNT_TX (R405). -/
def SKO_CNT_TX : Nat := 0xF00051000028
/-- SKO_CNT_RX (R405). -/
def SKO_CNT_RX : Nat := 0xF00051000030
/-- SKO_CNT_REL (R405). -/
def SKO_CNT_REL : Nat := 0xF00051000038
/-- SKO_CNT_DROP (R405). -/
def SKO_CNT_DROP : Nat := 0xF00051000040
/-- SKO_CNT_CC (R405). -/
def SKO_CNT_CC : Nat := 0xF00051000048
/-- SKO_MCAST_BASE (R405). -/
def SKO_MCAST_BASE : Nat := 0xF00051000050
/-- SKO_PEER_SEL (R405). -/
def SKO_PEER_SEL : Nat := 0xF00051000058
/-- SKO_PEER_INFO (R405). -/
def SKO_PEER_INFO : Nat := 0xF00051000060
/-- TS_CFG (R428). -/
def TS_CFG : Nat := 0xF00052000000
/-- TS_STATUS (R428). -/
def TS_STATUS : Nat := 0xF00052000008
/-- TS_EXP (R428). -/
def TS_EXP : Nat := 0xF00052000010
/-- TS_BOUND (R428). -/
def TS_BOUND : Nat := 0xF00052000018
/-- TS_Q_CFG (R428). -/
def TS_Q_CFG (c : Nat) : Nat := 0xF00052000100 + c * 0x8
/-- TS_Q_STAT (R428). -/
def TS_Q_STAT (c : Nat) : Nat := 0xF00052000140 + c * 0x8
/-- TS_SAMPLE_BASE (R428). -/
def TS_SAMPLE_BASE : Nat := 0xF00052000200
/-- TS_SAMPLE_CTL (R428). -/
def TS_SAMPLE_CTL : Nat := 0xF00052000208
/-- TS_SAMPLE_CNT (R428). -/
def TS_SAMPLE_CNT : Nat := 0xF00052000210
/-- TS_GATE_CFG (R428). -/
def TS_GATE_CFG (l : Nat) : Nat := 0xF00052001000 + l * 0x8
/-- TS_GATE_ENT (R428). -/
def TS_GATE_ENT (l e : Nat) : Nat := 0xF00052001100 + l * 0x200 + e * 0x8
/-- TS_POL_RATE (R428). -/
def TS_POL_RATE (t q : Nat) : Nat := 0xF00052002000 + t * 0x20 + q * 0x10
/-- TS_POL_BURST (R428). -/
def TS_POL_BURST (t q : Nat) : Nat := 0xF00052002008 + t * 0x20 + q * 0x10
/-- TEL_CTRL (R428). -/
def TEL_CTRL : Nat := 0xF00080000000
/-- TEL_CFG (R428). -/
def TEL_CFG : Nat := 0xF00080000008
/-- TEL_TEN (R428). -/
def TEL_TEN (t i : Nat) : Nat := 0xF00080001000 + t * 0x80 + i * 0x8
/-- TEL_SHARD_KEY (R428). -/
def TEL_SHARD_KEY (n : Nat) : Nat := 0xF00080010000 + n * 0x20
/-- TEL_SHARD_CNT (R428). -/
def TEL_SHARD_CNT (n : Nat) : Nat := 0xF00080010008 + n * 0x20
/-- TEL_SHARD_SUM (R428). -/
def TEL_SHARD_SUM (n : Nat) : Nat := 0xF00080010010 + n * 0x20
/-- TEL_SHARD_MAX (R428). -/
def TEL_SHARD_MAX (n : Nat) : Nat := 0xF00080010018 + n * 0x20
/-- MOV_TIMER (R451). -/
def MOV_TIMER (k : Nat) : Nat := 0xF00060000000 + k * 0x8
/-- MOV_LIMITS (R451). -/
def MOV_LIMITS : Nat := 0xF00060000080
/-- MOV_WATCH (R451). -/
def MOV_WATCH (w : Nat) : Nat := 0xF00060000100 + w * 0x8
/-- MOV_CH_RING (R451). -/
def MOV_CH_RING (n : Nat) : Nat := 0xF00060001000 + n * 0x40
/-- MOV_CH_CFG (R451). -/
def MOV_CH_CFG (n : Nat) : Nat := 0xF00060001008 + n * 0x40
/-- MOV_CH_CTRL (R451). -/
def MOV_CH_CTRL (n : Nat) : Nat := 0xF00060001010 + n * 0x40
/-- MOV_CH_STATUS (R451). -/
def MOV_CH_STATUS (n : Nat) : Nat := 0xF00060001018 + n * 0x40
/-- MOV_CH_ERR (R451). -/
def MOV_CH_ERR (n : Nat) : Nat := 0xF00060001020 + n * 0x40
/-- MOV_CH_CNT (R451). -/
def MOV_CH_CNT (n : Nat) : Nat := 0xF00060001028 + n * 0x40
/-- CHK_CFG (R451). -/
def CHK_CFG (u : Nat) : Nat := 0xF00061000000 + u * 0x80
/-- CHK_POLY (R451). -/
def CHK_POLY (u : Nat) : Nat := 0xF00061000008 + u * 0x80
/-- CHK_INIT (R451). -/
def CHK_INIT (u : Nat) : Nat := 0xF00061000010 + u * 0x80
/-- CHK_XOROUT (R451). -/
def CHK_XOROUT (u : Nat) : Nat := 0xF00061000018 + u * 0x80
/-- CHK_STATE (R451). -/
def CHK_STATE (u : Nat) : Nat := 0xF00061000020 + u * 0x80
/-- CHK_EXPECT (R451). -/
def CHK_EXPECT (u : Nat) : Nat := 0xF00061000040 + u * 0x80
/-- CHK_FEED (R451). -/
def CHK_FEED (u : Nat) : Nat := 0xF00061000028 + u * 0x80
/-- CHK_FEED_TAIL (R451). -/
def CHK_FEED_TAIL (u : Nat) : Nat := 0xF00061000030 + u * 0x80
/-- CHK_RESULT (R451). -/
def CHK_RESULT (u : Nat) : Nat := 0xF00061000038 + u * 0x80
/-- CHK_CTRL (R451). -/
def CHK_CTRL (u : Nat) : Nat := 0xF00061000048 + u * 0x80
/-- CHK_BYTES (R451). -/
def CHK_BYTES (u : Nat) : Nat := 0xF00061000050 + u * 0x80
/-- PAR_RING (R451). -/
def PAR_RING : Nat := 0xF00062000000
/-- PAR_CFG (R451). -/
def PAR_CFG : Nat := 0xF00062000008
/-- PAR_CTRL (R451). -/
def PAR_CTRL : Nat := 0xF00062000010
/-- PAR_STATUS (R451). -/
def PAR_STATUS : Nat := 0xF00062000018
/-- PAR_ERR (R451). -/
def PAR_ERR : Nat := 0xF00062000020
/-- PAR_CNT (R451). -/
def PAR_CNT : Nat := 0xF00062000028
/-- SEC_STATUS (R465). -/
def SEC_STATUS : Nat := 0xF00003000000
/-- SEC_DEVID_LO (R465). -/
def SEC_DEVID_LO : Nat := 0xF00003000008
/-- SEC_DEVID_HI (R465). -/
def SEC_DEVID_HI : Nat := 0xF00003000010
/-- SEC_CTRL (R465). -/
def SEC_CTRL : Nat := 0xF00003000018
/-- SEC_ARG (R465). -/
def SEC_ARG : Nat := 0xF00003000020
/-- SEC_NONCE (R465). -/
def SEC_NONCE (w : Nat) : Nat := 0xF00003000040 + w * 0x8
/-- SEC_EXTEND (R465). -/
def SEC_EXTEND (w : Nat) : Nat := 0xF00003000060 + w * 0x8
/-- SEC_MEAS (R465). -/
def SEC_MEAS (r w : Nat) : Nat := 0xF00003000100 + r * 0x20 + w * 0x8
/-- SEC_LOG_SEL (R465). -/
def SEC_LOG_SEL : Nat := 0xF00003000200
/-- SEC_LOG_DATA (R465). -/
def SEC_LOG_DATA (w : Nat) : Nat := 0xF00003000208 + w * 0x8
/-- SEC_CAR (R465). -/
def SEC_CAR (c : Nat) : Nat := 0xF00003000300 + c * 0x8
/-- NCTL_RESET (R500). -/
def NCTL_RESET : Nat := 0xF00000000100
/-- NCTL_SEAL_CFG (R500). -/
def NCTL_SEAL_CFG : Nat := 0xF00000000108
/-- NCTL_SEAL_BUF (R500). -/
def NCTL_SEAL_BUF : Nat := 0xF00000000110
/-- NCTL_UEPOCH (R500). -/
def NCTL_UEPOCH : Nat := 0xF00000000118
/-- NCTL_SEAL_STATUS (R500). -/
def NCTL_SEAL_STATUS : Nat := 0xF00000000120
/-- NCTL_SEAL_FILL (R500). -/
def NCTL_SEAL_FILL : Nat := 0xF00000000128
/-- NCTL_GROUP (R500). -/
def NCTL_GROUP : Nat := 0xF00000000130
/-- NCTL_GROUP_STATUS (R500). -/
def NCTL_GROUP_STATUS : Nat := 0xF00000000138
/-- NCTL_REC_STATE (R500). -/
def NCTL_REC_STATE (k : Nat) : Nat := 0xF00000000200 + k * 0x10
/-- NCTL_REC_CUR (R500). -/
def NCTL_REC_CUR (k : Nat) : Nat := 0xF00000000208 + k * 0x10
/-- EVT_STATUS (R500). -/
def EVT_STATUS : Nat := 0xF00090000000
/-- EVT_CFG (R500). -/
def EVT_CFG : Nat := 0xF00090000008
/-- EVT_DEST (R500). -/
def EVT_DEST (d : Nat) : Nat := 0xF00090000010 + d * 0x8
/-- EVT_REC (R500). -/
def EVT_REC (i w : Nat) : Nat := 0xF00090010000 + i * 0x40 + w * 0x8
/-- EVT_RH_CFG (R500). -/
def EVT_RH_CFG (s : Nat) : Nat := 0xF00090000100 + s * 0x10
/-- EVT_RH_TGT (R500). -/
def EVT_RH_TGT (s : Nat) : Nat := 0xF00090000108 + s * 0x10
/-- EVT_RH_STATUS (R500). -/
def EVT_RH_STATUS : Nat := 0xF00090000200
/-- NCTL_BOOT (R524). -/
def NCTL_BOOT : Nat := 0xF00000000300
/-- NCTL_BOOT_CTL (R524). -/
def NCTL_BOOT_CTL : Nat := 0xF00000000308
/-- NCTL_PWR_CAP (R524). -/
def NCTL_PWR_CAP : Nat := 0xF00000000310
/-- NCTL_THROTTLE (R524). -/
def NCTL_THROTTLE : Nat := 0xF00000000318
/-- NCTL_THERM_CFG (R524). -/
def NCTL_THERM_CFG : Nat := 0xF00000000320
/-- NCTL_THERM (R524). -/
def NCTL_THERM : Nat := 0xF00000000328
/-- NCTL_RAIL (R524). -/
def NCTL_RAIL (i : Nat) : Nat := 0xF00000000400 + i * 0x8

end Reg

namespace F

def NCTL_ID_STACKS : RegField := ⟨Reg.NCTL_ID, 0, 8⟩
def NCTL_ID_FIO_DIES : RegField := ⟨Reg.NCTL_ID, 8, 4⟩
def NCTL_ID_STEP_LETTER : RegField := ⟨Reg.NCTL_ID, 16, 8⟩
def NCTL_ID_STEP_DIGIT : RegField := ⟨Reg.NCTL_ID, 24, 4⟩
def BEAT_NOW_BEAT : RegField := ⟨Reg.BEAT_NOW, 0, 48⟩
def BEAT_NOW_PHASE : RegField := ⟨Reg.BEAT_NOW, 48, 13⟩
def BEAT_NOW_VALID : RegField := ⟨Reg.BEAT_NOW, 63, 1⟩
def BEAT_STATUS_STATE : RegField := ⟨Reg.BEAT_STATUS, 0, 3⟩
def BEAT_STATUS_FROZEN : RegField := ⟨Reg.BEAT_STATUS, 3, 1⟩
def BEAT_STATUS_ARMED : RegField := ⟨Reg.BEAT_STATUS, 8, 9⟩
def BEAT_STATUS_OFFSET : RegField := ⟨Reg.BEAT_STATUS, 32, 32⟩
def BEAT_HOLD_EST_NS : RegField := ⟨Reg.BEAT_HOLD, 0, 32⟩
def BEAT_HOLD_AGE_MS : RegField := ⟨Reg.BEAT_HOLD, 32, 32⟩
def BEAT_STEP_STEP_NS : RegField := ⟨Reg.BEAT_STEP, 0, 64⟩
def BEAT_CFG_LOCK_NS : RegField := ⟨Reg.BEAT_CFG, 0, 16⟩
def BEAT_CFG_STEP_NS : RegField := ⟨Reg.BEAT_CFG, 16, 16⟩
def BEAT_CFG_STEP_MAX : RegField := ⟨Reg.BEAT_CFG, 32, 16⟩
def BEAT_CFG_HOLD_ENTRY_MS : RegField := ⟨Reg.BEAT_CFG, 48, 16⟩
def BEAT_CFG2_HOLD_LIMIT_NS : RegField := ⟨Reg.BEAT_CFG2, 0, 32⟩
def BEAT_CFG2_DRIFT_PPB : RegField := ⟨Reg.BEAT_CFG2, 32, 16⟩
def BEAT_CFG2_SRC : RegField := ⟨Reg.BEAT_CFG2, 48, 1⟩
def BEAT_CTRL_ACCEPT_STEP : RegField := ⟨Reg.BEAT_CTRL, 0, 1⟩
def BEAT_CTRL_REJECT_STEP : RegField := ⟨Reg.BEAT_CTRL, 1, 1⟩
def BEAT_CTRL_DISARM_ALL : RegField := ⟨Reg.BEAT_CTRL, 2, 1⟩
def BEAT_PPS_SEC_SEC : RegField := ⟨Reg.BEAT_PPS_SEC, 0, 48⟩
def BEAT_EVT_BEAT_BEAT (n : Nat) : RegField := ⟨Reg.BEAT_EVT_BEAT n, 0, 48⟩
def BEAT_EVT_ACT_ACTION (n : Nat) : RegField := ⟨Reg.BEAT_EVT_ACT n, 0, 8⟩
def BEAT_EVT_ACT_TARGET (n : Nat) : RegField := ⟨Reg.BEAT_EVT_ACT n, 8, 16⟩
def BEAT_EVT_ACT_LATE (n : Nat) : RegField := ⟨Reg.BEAT_EVT_ACT n, 24, 1⟩
def BEAT_EVT_ACT_SYNC_REQ (n : Nat) : RegField := ⟨Reg.BEAT_EVT_ACT n, 25, 1⟩
def BEAT_EVT_ARG_ARG (n : Nat) : RegField := ⟨Reg.BEAT_EVT_ARG n, 0, 64⟩
def BEAT_EVT_CTL_ARM (n : Nat) : RegField := ⟨Reg.BEAT_EVT_CTL n, 0, 1⟩
def BEAT_EVT_CTL_DISARM (n : Nat) : RegField := ⟨Reg.BEAT_EVT_CTL n, 1, 1⟩
def BEAT_EVT_CTL_STATE (n : Nat) : RegField := ⟨Reg.BEAT_EVT_CTL n, 4, 3⟩
def BEAT_EVT_CTL_FIRE_BEAT (n : Nat) : RegField := ⟨Reg.BEAT_EVT_CTL n, 16, 48⟩
def IMG_STAGE_ADDR_ADDR : RegField := ⟨Reg.IMG_STAGE_ADDR, 0, 48⟩
def IMG_STAGE_LEN_LEN : RegField := ⟨Reg.IMG_STAGE_LEN, 0, 35⟩
def IMG_CTRL_STAGE : RegField := ⟨Reg.IMG_CTRL, 0, 1⟩
def IMG_CTRL_DISCARD : RegField := ⟨Reg.IMG_CTRL, 1, 1⟩
def IMG_CTRL_PROMOTE : RegField := ⟨Reg.IMG_CTRL, 2, 1⟩
def IMG_CTRL_APPLY_FULL : RegField := ⟨Reg.IMG_CTRL, 3, 1⟩
def IMG_STATUS_STAGE_STATE : RegField := ⟨Reg.IMG_STATUS, 0, 3⟩
def IMG_STATUS_FULL_BUSY : RegField := ⟨Reg.IMG_STATUS, 3, 1⟩
def IMG_STATUS_LAST_RESULT : RegField := ⟨Reg.IMG_STATUS, 8, 8⟩
def IMG_STATUS_STAGED_BEAT : RegField := ⟨Reg.IMG_STATUS, 16, 48⟩
def IMG_ACTIVE_ID_ID : RegField := ⟨Reg.IMG_ACTIVE_ID, 0, 64⟩
def IMG_STAGED_ID_ID : RegField := ⟨Reg.IMG_STAGED_ID, 0, 64⟩
def IMG_MAP_CURRENT : RegField := ⟨Reg.IMG_MAP, 0, 32⟩
def IMG_MAP_PREVIOUS : RegField := ⟨Reg.IMG_MAP, 32, 32⟩
def IMG_DOVE_OPEN : RegField := ⟨Reg.IMG_DOVE, 0, 1⟩
def IMG_DOVE_CLOSE_BEAT : RegField := ⟨Reg.IMG_DOVE, 16, 48⟩
def IMG_CFG_DOVETAIL_BEATS : RegField := ⟨Reg.IMG_CFG, 0, 16⟩
def IMG_PANEL_STATE_STATE (p : Nat) : RegField := ⟨Reg.IMG_PANEL_STATE p, 0, 3⟩
def IMG_PANEL_STATE_STALE (p : Nat) : RegField := ⟨Reg.IMG_PANEL_STATE p, 3, 1⟩
def IMG_PANEL_STATE_ROLE (p : Nat) : RegField := ⟨Reg.IMG_PANEL_STATE p, 8, 8⟩
def IMG_PANEL_STATE_NTILES (p : Nat) : RegField := ⟨Reg.IMG_PANEL_STATE p, 16, 10⟩
def IMG_PANEL_STATE_LAST_BEAT (p : Nat) : RegField := ⟨Reg.IMG_PANEL_STATE p, 32, 32⟩
def TILE_ARITH_FLAGS_NAN_IN (t : Nat) : RegField := ⟨Reg.TILE_ARITH_FLAGS t, 0, 1⟩
def TILE_ARITH_FLAGS_NAN_MADE (t : Nat) : RegField := ⟨Reg.TILE_ARITH_FLAGS t, 1, 1⟩
def TILE_ARITH_FLAGS_INF_IN (t : Nat) : RegField := ⟨Reg.TILE_ARITH_FLAGS t, 2, 1⟩
def TILE_ARITH_FLAGS_OVERFLOW (t : Nat) : RegField := ⟨Reg.TILE_ARITH_FLAGS t, 3, 1⟩
def TILE_ARITH_FLAGS_SAT_OUT (t : Nat) : RegField := ⟨Reg.TILE_ARITH_FLAGS t, 4, 1⟩
def TILE_ARITH_FLAGS_NAN_DROPPED (t : Nat) : RegField := ⟨Reg.TILE_ARITH_FLAGS t, 5, 1⟩
def TILE_ARITH_FLAGS_OPT_SKIP (t : Nat) : RegField := ⟨Reg.TILE_ARITH_FLAGS t, 6, 1⟩
def TILE_ARITH_CNT_SAT_CNT (t : Nat) : RegField := ⟨Reg.TILE_ARITH_CNT t, 0, 32⟩
def TILE_ARITH_CNT_NAN_CNT (t : Nat) : RegField := ⟨Reg.TILE_ARITH_CNT t, 32, 32⟩
def TILE_STATUS_STATE (t : Nat) : RegField := ⟨Reg.TILE_STATUS t, 0, 3⟩
def TILE_STATUS_PANEL (t : Nat) : RegField := ⟨Reg.TILE_STATUS t, 8, 6⟩
def TILE_STATUS_QUEUES (t : Nat) : RegField := ⟨Reg.TILE_STATUS t, 16, 8⟩
def TILE_STATUS_DESC (t : Nat) : RegField := ⟨Reg.TILE_STATUS t, 24, 10⟩
def TILE_ERR_DESC_ERR (t : Nat) : RegField := ⟨Reg.TILE_ERR t, 0, 1⟩
def TILE_ERR_OPERAND_ERR (t : Nat) : RegField := ⟨Reg.TILE_ERR t, 1, 1⟩
def TILE_ERR_BENCH_UE (t : Nat) : RegField := ⟨Reg.TILE_ERR t, 2, 1⟩
def TILE_ERR_GRAPH_UE (t : Nat) : RegField := ⟨Reg.TILE_ERR t, 3, 1⟩
def TILE_ERR_HANG (t : Nat) : RegField := ⟨Reg.TILE_ERR t, 4, 1⟩
def TILE_ERR_CREDIT_STALL (t : Nat) : RegField := ⟨Reg.TILE_ERR t, 5, 1⟩
def TILE_ERR_DRAIN_STOP (t : Nat) : RegField := ⟨Reg.TILE_ERR t, 6, 1⟩
def TILE_ERR_INFO_DESC (t : Nat) : RegField := ⟨Reg.TILE_ERR_INFO t, 0, 10⟩
def TILE_ERR_INFO_OPCODE (t : Nat) : RegField := ⟨Reg.TILE_ERR_INFO t, 16, 8⟩
def TILE_ERR_INFO_BENCH_OFF (t : Nat) : RegField := ⟨Reg.TILE_ERR_INFO t, 24, 22⟩
def TILE_ERR_INFO_CODE (t : Nat) : RegField := ⟨Reg.TILE_ERR_INFO t, 46, 16⟩
def TILE_LIMITS_STALL_LIMIT (t : Nat) : RegField := ⟨Reg.TILE_LIMITS t, 0, 32⟩
def TILE_LIMITS_DESC_LIMIT (t : Nat) : RegField := ⟨Reg.TILE_LIMITS t, 32, 32⟩
def TILE_CREDIT_AVAIL (t c : Nat) : RegField := ⟨Reg.TILE_CREDIT t c, 0, 18⟩
def TILE_CREDIT_CAPACITY (t c : Nat) : RegField := ⟨Reg.TILE_CREDIT t c, 18, 18⟩
def TILE_CREDIT_RING (t c : Nat) : RegField := ⟨Reg.TILE_CREDIT t c, 36, 13⟩
def TILE_WATCH_RING (t w : Nat) : RegField := ⟨Reg.TILE_WATCH t w, 0, 13⟩
def TILE_WATCH_ACTIVE (t w : Nat) : RegField := ⟨Reg.TILE_WATCH t w, 13, 1⟩
def TILE_WATCH_DEPTH (t w : Nat) : RegField := ⟨Reg.TILE_WATCH t w, 16, 7⟩
def TILE_PERF_BUSY_CYCLES (t : Nat) : RegField := ⟨Reg.TILE_PERF_BUSY t, 0, 64⟩
def TILE_PERF_CSTALL_CYCLES (t : Nat) : RegField := ⟨Reg.TILE_PERF_CSTALL t, 0, 64⟩
def TILE_PERF_TOKENS_COUNT (t : Nat) : RegField := ⟨Reg.TILE_PERF_TOKENS t, 0, 64⟩
def TILE_BENCH_ECC_CE_CNT (t : Nat) : RegField := ⟨Reg.TILE_BENCH_ECC t, 0, 32⟩
def TILE_BENCH_ECC_UE_CNT (t : Nat) : RegField := ⟨Reg.TILE_BENCH_ECC t, 32, 32⟩
def TILE_DBG_CTRL_HALT (t : Nat) : RegField := ⟨Reg.TILE_DBG_CTRL t, 0, 1⟩
def TILE_DBG_CTRL_STEP (t : Nat) : RegField := ⟨Reg.TILE_DBG_CTRL t, 1, 1⟩
def TILE_DBG_CTRL_BREAK_EN (t : Nat) : RegField := ⟨Reg.TILE_DBG_CTRL t, 2, 1⟩
def TILE_DBG_CTRL_BREAK_DESC (t : Nat) : RegField := ⟨Reg.TILE_DBG_CTRL t, 16, 10⟩
def TILE_DBG_POS_HALTED (t : Nat) : RegField := ⟨Reg.TILE_DBG_POS t, 0, 1⟩
def TILE_DBG_POS_DESC (t : Nat) : RegField := ⟨Reg.TILE_DBG_POS t, 1, 10⟩
def TILE_DBG_POS_REQ_LO (t : Nat) : RegField := ⟨Reg.TILE_DBG_POS t, 32, 32⟩
def TILE_DBG_VREG_LANE_EVEN (t r j : Nat) : RegField := ⟨Reg.TILE_DBG_VREG t r j, 0, 32⟩
def TILE_DBG_VREG_LANE_ODD (t r j : Nat) : RegField := ⟨Reg.TILE_DBG_VREG t r j, 32, 32⟩
def STK_STATUS_PRESENT (s : Nat) : RegField := ⟨Reg.STK_STATUS s, 0, 1⟩
def STK_STATUS_TRAINED (s : Nat) : RegField := ⟨Reg.STK_STATUS s, 1, 1⟩
def STK_STATUS_EXT_MODE (s : Nat) : RegField := ⟨Reg.STK_STATUS s, 2, 1⟩
def STK_STATUS_RETRAINING (s : Nat) : RegField := ⟨Reg.STK_STATUS s, 3, 1⟩
def STK_STATUS_RETRAIN_CH (s : Nat) : RegField := ⟨Reg.STK_STATUS s, 4, 5⟩
def STK_STATUS_TEMP_C (s : Nat) : RegField := ⟨Reg.STK_STATUS s, 16, 8⟩
def STK_STATUS_OFFLINE_UNITS (s : Nat) : RegField := ⟨Reg.STK_STATUS s, 32, 9⟩
def STK_ECC_CE_CNT (s : Nat) : RegField := ⟨Reg.STK_ECC s, 0, 32⟩
def STK_ECC_UE_CNT (s : Nat) : RegField := ⟨Reg.STK_ECC s, 32, 32⟩
def STK_POISON_UNIT (s : Nat) : RegField := ⟨Reg.STK_POISON s, 0, 8⟩
def STK_POISON_LOCAL_OFF (s : Nat) : RegField := ⟨Reg.STK_POISON s, 8, 27⟩
def STK_POISON_VALID (s : Nat) : RegField := ⟨Reg.STK_POISON s, 63, 1⟩
def STK_SCRUB_PERIOD_H (s : Nat) : RegField := ⟨Reg.STK_SCRUB s, 0, 16⟩
def INL_PERF_SCORES_SCORES (s : Nat) : RegField := ⟨Reg.INL_PERF_SCORES s, 0, 64⟩
def INL_PERF_BUS_BYTES (s : Nat) : RegField := ⟨Reg.INL_PERF_BUS s, 0, 64⟩
def INL_LIMITS_CMD_LIMIT (s : Nat) : RegField := ⟨Reg.INL_LIMITS s, 0, 32⟩
def INL_UNIT_STATUS_STATE (s u : Nat) : RegField := ⟨Reg.INL_UNIT_STATUS s u, 0, 3⟩
def INL_UNIT_STATUS_CMD_Q (s u : Nat) : RegField := ⟨Reg.INL_UNIT_STATUS s u, 8, 8⟩
def INL_UNIT_STATUS_RES_Q (s u : Nat) : RegField := ⟨Reg.INL_UNIT_STATUS s u, 16, 9⟩
def INL_UNIT_STATUS_TRIM_SKIP (s u : Nat) : RegField := ⟨Reg.INL_UNIT_STATUS s u, 32, 16⟩
def INL_UNIT_ERR_POISON (s u : Nat) : RegField := ⟨Reg.INL_UNIT_ERR s u, 0, 1⟩
def INL_UNIT_ERR_MALFORMED (s u : Nat) : RegField := ⟨Reg.INL_UNIT_ERR s u, 1, 1⟩
def INL_UNIT_ERR_PARITY (s u : Nat) : RegField := ⟨Reg.INL_UNIT_ERR s u, 2, 1⟩
def INL_UNIT_ERR_HANG (s u : Nat) : RegField := ⟨Reg.INL_UNIT_ERR s u, 3, 1⟩
def INL_UNIT_CTRL_ONLINE (s u : Nat) : RegField := ⟨Reg.INL_UNIT_CTRL s u, 0, 1⟩
def TIER_CFG_EXTENT : RegField := ⟨Reg.TIER_CFG, 0, 31⟩
def TIER_CFG_HEAT_PERIOD : RegField := ⟨Reg.TIER_CFG, 32, 16⟩
def TIER_CFG_PROMOTE_T : RegField := ⟨Reg.TIER_CFG, 48, 8⟩
def TIER_CFG_DEMOTE_T : RegField := ⟨Reg.TIER_CFG, 56, 8⟩
def TIER_CFG2_LOW_WATER : RegField := ⟨Reg.TIER_CFG2, 0, 24⟩
def TIER_CFG2_HIGH_WATER : RegField := ⟨Reg.TIER_CFG2, 24, 24⟩
def TIER_CFG2_LATE_MARGIN : RegField := ⟨Reg.TIER_CFG2, 48, 8⟩
def TIER_CFG2_MOVES_MAX : RegField := ⟨Reg.TIER_CFG2, 56, 8⟩
def TIER_STATUS_FREE_FRAMES : RegField := ⟨Reg.TIER_STATUS, 0, 24⟩
def TIER_STATUS_IN_FLIGHT : RegField := ⟨Reg.TIER_STATUS, 24, 9⟩
def TIER_STATUS_DEMOTE_LEVEL : RegField := ⟨Reg.TIER_STATUS, 40, 8⟩
def TIER_STATUS_FLASH_FULL : RegField := ⟨Reg.TIER_STATUS, 48, 1⟩
def TIER_STATUS_POOL_EMPTY : RegField := ⟨Reg.TIER_STATUS, 49, 1⟩
def TIER_CNT_MOVES_PROMOTED : RegField := ⟨Reg.TIER_CNT_MOVES, 0, 32⟩
def TIER_CNT_MOVES_DEMOTED : RegField := ⟨Reg.TIER_CNT_MOVES, 32, 32⟩
def TIER_CNT_EXC_DEMOTE_ABORT : RegField := ⟨Reg.TIER_CNT_EXC, 0, 16⟩
def TIER_CNT_EXC_PROMOTE_DEFER : RegField := ⟨Reg.TIER_CNT_EXC, 16, 16⟩
def TIER_CNT_EXC_LATE : RegField := ⟨Reg.TIER_CNT_EXC, 32, 16⟩
def TIER_CNT_EXC_MEDIA : RegField := ⟨Reg.TIER_CNT_EXC, 48, 16⟩
def TIER_PAGE_SEL_PAGE : RegField := ⟨Reg.TIER_PAGE_SEL, 0, 30⟩
def TIER_PAGE_INFO_STATE : RegField := ⟨Reg.TIER_PAGE_INFO, 0, 3⟩
def TIER_PAGE_INFO_PIN : RegField := ⟨Reg.TIER_PAGE_INFO, 3, 1⟩
def TIER_PAGE_INFO_SLOT : RegField := ⟨Reg.TIER_PAGE_INFO, 4, 1⟩
def TIER_PAGE_INFO_HEAT : RegField := ⟨Reg.TIER_PAGE_INFO, 8, 8⟩
def TIER_PAGE_INFO_STACK : RegField := ⟨Reg.TIER_PAGE_INFO, 16, 4⟩
def TIER_PAGE_INFO_FRAME : RegField := ⟨Reg.TIER_PAGE_INFO, 20, 20⟩
def TIER_PAGE_INFO_BLOCKS : RegField := ⟨Reg.TIER_PAGE_INFO, 40, 5⟩
def TIER_PAGE_INFO_CARRIER : RegField := ⟨Reg.TIER_PAGE_INFO, 45, 3⟩
def TIER_PAGE_INFO_FORMAT : RegField := ⟨Reg.TIER_PAGE_INFO, 48, 2⟩
def TIER_PAGE_OP_ZERO_PAGE : RegField := ⟨Reg.TIER_PAGE_OP, 0, 1⟩
def TIER_POOL_FIRST (s : Nat) : RegField := ⟨Reg.TIER_POOL s, 0, 20⟩
def TIER_POOL_COUNT (s : Nat) : RegField := ⟨Reg.TIER_POOL s, 32, 20⟩
def TIER_PIN_FIRST (n : Nat) : RegField := ⟨Reg.TIER_PIN n, 0, 30⟩
def TIER_PIN_COUNT (n : Nat) : RegField := ⟨Reg.TIER_PIN n, 32, 31⟩
def TIER_PIN_EN (n : Nat) : RegField := ⟨Reg.TIER_PIN n, 63, 1⟩
def TIER_MIG_OBJ_KIND (n : Nat) : RegField := ⟨Reg.TIER_MIG_OBJ n, 0, 2⟩
def TIER_MIG_OBJ_TABLE (n : Nat) : RegField := ⟨Reg.TIER_MIG_OBJ n, 8, 8⟩
def TIER_MIG_OBJ_ID (n : Nat) : RegField := ⟨Reg.TIER_MIG_OBJ n, 16, 48⟩
def TIER_MIG_DEST_NODE (n : Nat) : RegField := ⟨Reg.TIER_MIG_DEST n, 0, 16⟩
def TIER_MIG_DEST_STACK (n : Nat) : RegField := ⟨Reg.TIER_MIG_DEST n, 16, 4⟩
def TIER_MIG_CTL_START (n : Nat) : RegField := ⟨Reg.TIER_MIG_CTL n, 0, 1⟩
def TIER_MIG_CTL_ABORT (n : Nat) : RegField := ⟨Reg.TIER_MIG_CTL n, 1, 1⟩
def TIER_MIG_CTL_FREE (n : Nat) : RegField := ⟨Reg.TIER_MIG_CTL n, 2, 1⟩
def TIER_MIG_CTL_CONFIRM (n : Nat) : RegField := ⟨Reg.TIER_MIG_CTL n, 3, 1⟩
def TIER_MIG_CTL_REVERT (n : Nat) : RegField := ⟨Reg.TIER_MIG_CTL n, 4, 1⟩
def TIER_MIG_CTL_STATE (n : Nat) : RegField := ⟨Reg.TIER_MIG_CTL n, 8, 3⟩
def TIER_MIG_CTL_REASON (n : Nat) : RegField := ⟨Reg.TIER_MIG_CTL n, 12, 4⟩
def TIER_MIG_CTL_CUT_BEAT (n : Nat) : RegField := ⟨Reg.TIER_MIG_CTL n, 16, 48⟩
def LS_CFG_GATHER : RegField := ⟨Reg.LS_CFG, 0, 5⟩
def LS_CFG_DENSE_T : RegField := ⟨Reg.LS_CFG, 16, 16⟩
def LS_STATUS_OPEN : RegField := ⟨Reg.LS_STATUS, 0, 16⟩
def LS_STATUS_SHADOW_Q : RegField := ⟨Reg.LS_STATUS, 16, 7⟩
def LS_CNT_LISTS_DENSE : RegField := ⟨Reg.LS_CNT_LISTS, 0, 32⟩
def LS_CNT_LISTS_THIN : RegField := ⟨Reg.LS_CNT_LISTS, 32, 32⟩
def LS_CNT_EXC_SPLITS : RegField := ⟨Reg.LS_CNT_EXC, 0, 16⟩
def LS_CNT_EXC_WIDENED : RegField := ⟨Reg.LS_CNT_EXC, 16, 16⟩
def LS_CNT_EXC_UPD_REJECT : RegField := ⟨Reg.LS_CNT_EXC, 32, 16⟩
def LS_CNT_EXC_LIST_INVALID : RegField := ⟨Reg.LS_CNT_EXC, 48, 16⟩
def LS_SHADOW_CFG_DIV : RegField := ⟨Reg.LS_SHADOW_CFG, 0, 16⟩
def LS_SHADOW_CFG_MULT : RegField := ⟨Reg.LS_SHADOW_CFG, 16, 3⟩
def LS_SHADOW_CFG_SEND : RegField := ⟨Reg.LS_SHADOW_CFG, 19, 1⟩
def LS_SHADOW_CFG_DEST : RegField := ⟨Reg.LS_SHADOW_CFG, 32, 16⟩
def LS_SHADOW_RECALL_HITS : RegField := ⟨Reg.LS_SHADOW_RECALL, 0, 32⟩
def LS_SHADOW_RECALL_TOTAL : RegField := ⟨Reg.LS_SHADOW_RECALL, 32, 32⟩
def LS_SHADOW_DROP_DROPPED : RegField := ⟨Reg.LS_SHADOW_DROP, 0, 32⟩
def LS_IDX_BASE_ADDR (d : Nat) : RegField := ⟨Reg.LS_IDX_BASE d, 0, 48⟩
def LS_IDX_CTL_EN (d : Nat) : RegField := ⟨Reg.LS_IDX_CTL d, 0, 1⟩
def LS_IDX_CTL_STATE (d : Nat) : RegField := ⟨Reg.LS_IDX_CTL d, 4, 2⟩
def LS_IDX_CTL_REASON (d : Nat) : RegField := ⟨Reg.LS_IDX_CTL d, 8, 8⟩
def WLK_CFG_PREFETCH_CAP : RegField := ⟨Reg.WLK_CFG, 0, 4⟩
def WLK_CFG_INSERT_SLOTS : RegField := ⟨Reg.WLK_CFG, 16, 4⟩
def WLK_STATUS_BUSY : RegField := ⟨Reg.WLK_STATUS, 0, 6⟩
def WLK_STATUS_INSERTS : RegField := ⟨Reg.WLK_STATUS, 8, 6⟩
def WLK_CNT_EXP_EXPANSIONS : RegField := ⟨Reg.WLK_CNT_EXP, 0, 64⟩
def WLK_CNT_STALE_STALE_EDGES : RegField := ⟨Reg.WLK_CNT_STALE, 0, 32⟩
def WLK_CNT_STALE_TOMB_ROUTED : RegField := ⟨Reg.WLK_CNT_STALE, 32, 32⟩
def WLK_CNT_EXC_UPD_REJECT : RegField := ⟨Reg.WLK_CNT_EXC, 0, 16⟩
def WLK_CNT_EXC_NO_ENTRY : RegField := ⟨Reg.WLK_CNT_EXC, 16, 16⟩
def WLK_CNT_EXC_PRUNES : RegField := ⟨Reg.WLK_CNT_EXC, 32, 16⟩
def WLK_CNT_EXC_RECORD_INVALID : RegField := ⟨Reg.WLK_CNT_EXC, 48, 16⟩
def WLK_IDX_BASE_ADDR (d : Nat) : RegField := ⟨Reg.WLK_IDX_BASE d, 0, 48⟩
def WLK_IDX_CTL_EN (d : Nat) : RegField := ⟨Reg.WLK_IDX_CTL d, 0, 1⟩
def WLK_IDX_CTL_STATE (d : Nat) : RegField := ⟨Reg.WLK_IDX_CTL d, 4, 2⟩
def WLK_IDX_CTL_REASON (d : Nat) : RegField := ⟨Reg.WLK_IDX_CTL d, 8, 8⟩
def WLK_SLOT_STATE (n : Nat) : RegField := ⟨Reg.WLK_SLOT n, 0, 2⟩
def WLK_SLOT_DSLOT (n : Nat) : RegField := ⟨Reg.WLK_SLOT n, 8, 6⟩
def WLK_SLOT_EXPANDED (n : Nat) : RegField := ⟨Reg.WLK_SLOT n, 16, 16⟩
def WLK_SLOT_REQ_LO (n : Nat) : RegField := ⟨Reg.WLK_SLOT n, 32, 32⟩
def SEL_CFG_FINAL_MARGIN : RegField := ⟨Reg.SEL_CFG, 0, 8⟩
def SEL_CFG_IDLE_LIMIT : RegField := ⟨Reg.SEL_CFG, 16, 32⟩
def SEL_BUF_BASE_ADDR : RegField := ⟨Reg.SEL_BUF_BASE, 0, 48⟩
def SEL_BUF_CFG_COUNT : RegField := ⟨Reg.SEL_BUF_CFG, 0, 13⟩
def SEL_BUF_CFG_ENTRIES_LOG2 : RegField := ⟨Reg.SEL_BUF_CFG, 16, 4⟩
def SEL_STATUS_OPEN : RegField := ⟨Reg.SEL_STATUS, 0, 13⟩
def SEL_CNT_MERGE_CONTRIB : RegField := ⟨Reg.SEL_CNT_MERGE, 0, 32⟩
def SEL_CNT_MERGE_RESULTS : RegField := ⟨Reg.SEL_CNT_MERGE, 32, 32⟩
def SEL_CNT_EXC_DUP_PART : RegField := ⟨Reg.SEL_CNT_EXC, 0, 16⟩
def SEL_CNT_EXC_LATE_PART : RegField := ⟨Reg.SEL_CNT_EXC, 16, 16⟩
def SEL_CNT_EXC_REFUSED : RegField := ⟨Reg.SEL_CNT_EXC, 32, 16⟩
def SEL_CNT_EXC_TIMEOUT : RegField := ⟨Reg.SEL_CNT_EXC, 48, 16⟩
def SEL_CNT_DUP_REMOVED : RegField := ⟨Reg.SEL_CNT_DUP, 0, 32⟩
def SEL_CNT_DUP_CONFLICT : RegField := ⟨Reg.SEL_CNT_DUP, 32, 32⟩
def SEL_BUF_SEL_BUF : RegField := ⟨Reg.SEL_BUF_SEL, 0, 12⟩
def SEL_BUF_INFO_STATE : RegField := ⟨Reg.SEL_BUF_INFO, 0, 2⟩
def SEL_BUF_INFO_PLACES : RegField := ⟨Reg.SEL_BUF_INFO, 16, 11⟩
def SEL_BUF_INFO_REQ_LO : RegField := ⟨Reg.SEL_BUF_INFO, 32, 32⟩
def SEL_PAY_BASE_VID_BASE (t : Nat) : RegField := ⟨Reg.SEL_PAY_BASE t, 0, 48⟩
def TBL_STATUS_PINS : RegField := ⟨Reg.TBL_STATUS, 0, 9⟩
def TBL_STATUS_SWAPS : RegField := ⟨Reg.TBL_STATUS, 16, 5⟩
def TBL_CNT_OPS_ROWS_READ : RegField := ⟨Reg.TBL_CNT_OPS, 0, 32⟩
def TBL_CNT_OPS_UPDATES : RegField := ⟨Reg.TBL_CNT_OPS, 32, 32⟩
def TBL_CNT_EXC_ELEM_SKIP : RegField := ⟨Reg.TBL_CNT_EXC, 0, 16⟩
def TBL_CNT_EXC_REJECT : RegField := ⟨Reg.TBL_CNT_EXC, 16, 16⟩
def TBL_CNT_EXC_PIN_REVOKED : RegField := ⟨Reg.TBL_CNT_EXC, 32, 16⟩
def TBL_CNT_EXC_REDIRECTS : RegField := ⟨Reg.TBL_CNT_EXC, 48, 16⟩
def TBL_DESC_BASE_ADDR (t : Nat) : RegField := ⟨Reg.TBL_DESC_BASE t, 0, 48⟩
def TBL_CTL_EN (t : Nat) : RegField := ⟨Reg.TBL_CTL t, 0, 1⟩
def TBL_CTL_STATE (t : Nat) : RegField := ⟨Reg.TBL_CTL t, 4, 2⟩
def TBL_CTL_REASON (t : Nat) : RegField := ⟨Reg.TBL_CTL t, 8, 8⟩
def TBL_EPOCH_ACTIVE (t : Nat) : RegField := ⟨Reg.TBL_EPOCH t, 0, 32⟩
def TBL_EPOCH_PINS (t : Nat) : RegField := ⟨Reg.TBL_EPOCH t, 32, 9⟩
def TBL_EPOCH_SWITCHING (t : Nat) : RegField := ⟨Reg.TBL_EPOCH t, 48, 1⟩
def TBL_SWAP_CURSOR (t : Nat) : RegField := ⟨Reg.TBL_SWAP t, 0, 32⟩
def TBL_SWAP_STATE (t : Nat) : RegField := ⟨Reg.TBL_SWAP t, 32, 3⟩
def TXT_CFG_IDLE_LIMIT : RegField := ⟨Reg.TXT_CFG, 0, 32⟩
def TXT_STATUS_OPEN : RegField := ⟨Reg.TXT_STATUS, 0, 13⟩
def TXT_STATUS_GENERATING : RegField := ⟨Reg.TXT_STATUS, 16, 13⟩
def TXT_CNT_TOK_TOKENS_IN : RegField := ⟨Reg.TXT_CNT_TOK, 0, 32⟩
def TXT_CNT_TOK_TOKENS_GEN : RegField := ⟨Reg.TXT_CNT_TOK, 32, 32⟩
def TXT_CNT_EXC_INVALID_SEQ : RegField := ⟨Reg.TXT_CNT_EXC, 0, 16⟩
def TXT_CNT_EXC_INVALID_BYTES : RegField := ⟨Reg.TXT_CNT_EXC, 16, 16⟩
def TXT_CNT_EXC_ESCAPED : RegField := ⟨Reg.TXT_CNT_EXC, 32, 16⟩
def TXT_CNT_EXC_STALE_GEN : RegField := ⟨Reg.TXT_CNT_EXC, 48, 16⟩
def TXT_CTRL_TEN_ALLOW (n : Nat) : RegField := ⟨Reg.TXT_CTRL_TEN n, 0, 64⟩
def TXT_GRAM_BASE_ADDR (g : Nat) : RegField := ⟨Reg.TXT_GRAM_BASE g, 0, 48⟩
def TXT_GRAM_CTL_EN (g : Nat) : RegField := ⟨Reg.TXT_GRAM_CTL g, 0, 1⟩
def TXT_GRAM_CTL_STATE (g : Nat) : RegField := ⟨Reg.TXT_GRAM_CTL g, 4, 2⟩
def TXT_GRAM_CTL_REASON (g : Nat) : RegField := ⟨Reg.TXT_GRAM_CTL g, 8, 8⟩
def TXT_STREAM_INFO_STATE (s : Nat) : RegField := ⟨Reg.TXT_STREAM_INFO s, 0, 2⟩
def TXT_STREAM_INFO_ENGINE (s : Nat) : RegField := ⟨Reg.TXT_STREAM_INFO s, 2, 2⟩
def TXT_STREAM_INFO_GRAMMAR (s : Nat) : RegField := ⟨Reg.TXT_STREAM_INFO s, 4, 4⟩
def TXT_STREAM_INFO_HAS_GRAMMAR (s : Nat) : RegField := ⟨Reg.TXT_STREAM_INFO s, 8, 1⟩
def TXT_STREAM_INFO_DEPTH (s : Nat) : RegField := ⟨Reg.TXT_STREAM_INFO s, 9, 7⟩
def TXT_STREAM_INFO_GSTATE (s : Nat) : RegField := ⟨Reg.TXT_STREAM_INFO s, 16, 16⟩
def TXT_STREAM_INFO_TOKENS (s : Nat) : RegField := ⟨Reg.TXT_STREAM_INFO s, 32, 16⟩
def TXT_STREAM_INFO_REQ_LO (s : Nat) : RegField := ⟨Reg.TXT_STREAM_INFO s, 48, 16⟩
def FL_CFG_BG_START : RegField := ⟨Reg.FL_CFG, 0, 16⟩
def FL_CFG_FG_START : RegField := ⟨Reg.FL_CFG, 16, 16⟩
def FL_CFG_FG_FLOOR : RegField := ⟨Reg.FL_CFG, 32, 16⟩
def FL_CFG_SPARE_WARN : RegField := ⟨Reg.FL_CFG, 48, 16⟩
def FL_CAL_CAL_TRIGGER : RegField := ⟨Reg.FL_CAL, 0, 32⟩
def FL_CAL_CAL_WINDOW : RegField := ⟨Reg.FL_CAL, 32, 16⟩
def FL_STATUS_PRESENT : RegField := ⟨Reg.FL_STATUS, 0, 8⟩
def FL_STATUS_SERVING : RegField := ⟨Reg.FL_STATUS, 8, 8⟩
def FL_STATUS_METERED : RegField := ⟨Reg.FL_STATUS, 16, 8⟩
def FL_CAR_STATUS_STATE (c : Nat) : RegField := ⟨Reg.FL_CAR_STATUS c, 0, 4⟩
def FL_CAR_STATUS_MODEL (c : Nat) : RegField := ⟨Reg.FL_CAR_STATUS c, 4, 2⟩
def FL_CAR_STATUS_FREE_SB (c : Nat) : RegField := ⟨Reg.FL_CAR_STATUS c, 8, 13⟩
def FL_CAR_STATUS_TEMP_C (c : Nat) : RegField := ⟨Reg.FL_CAR_STATUS c, 24, 8⟩
def FL_CAR_STATUS_MODE (c : Nat) : RegField := ⟨Reg.FL_CAR_STATUS c, 32, 2⟩
def FL_CAR_STATUS_THERMAL (c : Nat) : RegField := ⟨Reg.FL_CAR_STATUS c, 34, 1⟩
def FL_CAR_CTRL_FORMAT (c : Nat) : RegField := ⟨Reg.FL_CAR_CTRL c, 0, 1⟩
def FL_CAR_CTRL_ADOPT (c : Nat) : RegField := ⟨Reg.FL_CAR_CTRL c, 1, 1⟩
def FL_CAR_CTRL_DETACH (c : Nat) : RegField := ⟨Reg.FL_CAR_CTRL c, 2, 1⟩
def FL_CAR_CTRL_ATTACH (c : Nat) : RegField := ⟨Reg.FL_CAR_CTRL c, 3, 1⟩
def FL_CAR_CTRL_SANITISE (c : Nat) : RegField := ⟨Reg.FL_CAR_CTRL c, 4, 1⟩
def FL_CAR_CTRL_LAST_RESULT (c : Nat) : RegField := ⟨Reg.FL_CAR_CTRL c, 8, 4⟩
def FL_CAR_PART_TIER_BLOCKS (c : Nat) : RegField := ⟨Reg.FL_CAR_PART c, 0, 36⟩
def FL_CAR_STORE_STORE_BLOCKS (c : Nat) : RegField := ⟨Reg.FL_CAR_STORE c, 0, 36⟩
def FL_CAR_MAPC_BASE_64K (c : Nat) : RegField := ⟨Reg.FL_CAR_MAPC c, 0, 32⟩
def FL_CAR_MAPC_SIZE_MIB (c : Nat) : RegField := ⟨Reg.FL_CAR_MAPC c, 32, 16⟩
def FL_CAR_CNT_IO_READS (c : Nat) : RegField := ⟨Reg.FL_CAR_CNT_IO c, 0, 32⟩
def FL_CAR_CNT_IO_WRITES (c : Nat) : RegField := ⟨Reg.FL_CAR_CNT_IO c, 32, 32⟩
def FL_CAR_CNT_EXC_THROTTLED (c : Nat) : RegField := ⟨Reg.FL_CAR_CNT_EXC c, 0, 16⟩
def FL_CAR_CNT_EXC_UNCORR (c : Nat) : RegField := ⟨Reg.FL_CAR_CNT_EXC c, 16, 16⟩
def FL_CAR_CNT_EXC_RETRIES (c : Nat) : RegField := ⟨Reg.FL_CAR_CNT_EXC c, 32, 16⟩
def FL_CAR_CNT_EXC_CAL_RUNS (c : Nat) : RegField := ⟨Reg.FL_CAR_CNT_EXC c, 48, 16⟩
def FL_CAR_HEALTH_BYTES (c i : Nat) : RegField := ⟨Reg.FL_CAR_HEALTH c i, 0, 64⟩
def PORT_CFG_MODE : RegField := ⟨Reg.PORT_CFG, 0, 2⟩
def PORT_CFG_AN_EN : RegField := ⟨Reg.PORT_CFG, 2, 1⟩
def PORT_CFG_ADV_1T6 : RegField := ⟨Reg.PORT_CFG, 3, 1⟩
def PORT_CFG_ADV_800G : RegField := ⟨Reg.PORT_CFG, 4, 1⟩
def PORT_CFG_ENABLE : RegField := ⟨Reg.PORT_CFG, 5, 1⟩
def PORT_STATUS_STATE : RegField := ⟨Reg.PORT_STATUS, 0, 3⟩
def PORT_STATUS_SPEED : RegField := ⟨Reg.PORT_STATUS, 3, 2⟩
def PORT_STATUS_ONE_STEP_ACTIVE : RegField := ⟨Reg.PORT_STATUS, 5, 1⟩
def PORT_STATUS_LANES_LOCKED : RegField := ⟨Reg.PORT_STATUS, 8, 8⟩
def PORT_STATUS_MAX_SDU : RegField := ⟨Reg.PORT_STATUS, 16, 14⟩
def PORT_MAC_ADDR : RegField := ⟨Reg.PORT_MAC, 0, 48⟩
def PORT_VLAN_VID : RegField := ⟨Reg.PORT_VLAN, 0, 12⟩
def PORT_VLAN_TAGGED : RegField := ⟨Reg.PORT_VLAN, 12, 1⟩
def PORT_VLAN_ACCEPT_UNTAGGED : RegField := ⟨Reg.PORT_VLAN, 13, 1⟩
def PORT_VLAN_DEFAULT_CLASS : RegField := ⟨Reg.PORT_VLAN, 16, 3⟩
def PORT_PCP_MAP_RX_CLASS : RegField := ⟨Reg.PORT_PCP_MAP, 0, 24⟩
def PORT_PCP_MAP_TX_PCP : RegField := ⟨Reg.PORT_PCP_MAP, 32, 24⟩
def PORT_PFC_EN : RegField := ⟨Reg.PORT_PFC, 0, 7⟩
def PORT_PFC_QUANTA : RegField := ⟨Reg.PORT_PFC, 16, 16⟩
def PORT_PFC_THR_XOFF_KIB (c : Nat) : RegField := ⟨Reg.PORT_PFC_THR c, 0, 16⟩
def PORT_PFC_THR_XON_KIB (c : Nat) : RegField := ⟨Reg.PORT_PFC_THR c, 16, 16⟩
def PORT_FEC_CNT_CORRECTED : RegField := ⟨Reg.PORT_FEC_CNT, 0, 32⟩
def PORT_FEC_CNT_UNCORRECTED : RegField := ⟨Reg.PORT_FEC_CNT, 32, 32⟩
def PORT_FEC_CFG_DEGRADE_THR : RegField := ⟨Reg.PORT_FEC_CFG, 0, 32⟩
def PORT_DROP_CNT_FCS : RegField := ⟨Reg.PORT_DROP_CNT, 0, 13⟩
def PORT_DROP_CNT_OVERSIZE : RegField := ⟨Reg.PORT_DROP_CNT, 13, 13⟩
def PORT_DROP_CNT_ETYPE : RegField := ⟨Reg.PORT_DROP_CNT, 26, 13⟩
def PORT_DROP_CNT_VLAN : RegField := ⟨Reg.PORT_DROP_CNT, 39, 13⟩
def PORT_DROP_CNT_OVERRUN : RegField := ⟨Reg.PORT_DROP_CNT, 52, 12⟩
def PORT_PTP_CFG_DOMAIN : RegField := ⟨Reg.PORT_PTP_CFG, 0, 8⟩
def PORT_PTP_CFG_TRANSPORT : RegField := ⟨Reg.PORT_PTP_CFG, 8, 2⟩
def PORT_PTP_CFG_DELAY : RegField := ⟨Reg.PORT_PTP_CFG, 10, 1⟩
def PORT_PTP_CFG_ONE_STEP : RegField := ⟨Reg.PORT_PTP_CFG, 11, 1⟩
def PORT_PTP_CFG_PTP_BYPASS : RegField := ⟨Reg.PORT_PTP_CFG, 12, 1⟩
def PORT_PTP_CFG_EN : RegField := ⟨Reg.PORT_PTP_CFG, 13, 1⟩
def PORT_PTP_CORR_RX_NS : RegField := ⟨Reg.PORT_PTP_CORR, 0, 32⟩
def PORT_PTP_CORR_TX_NS : RegField := ⟨Reg.PORT_PTP_CORR, 32, 32⟩
def PORT_SEC_CFG_EN : RegField := ⟨Reg.PORT_SEC_CFG, 0, 1⟩
def PORT_SEC_CFG_CIPHER : RegField := ⟨Reg.PORT_SEC_CFG, 1, 1⟩
def PORT_SEC_CFG_TX_AN : RegField := ⟨Reg.PORT_SEC_CFG, 2, 2⟩
def PORT_SEC_CFG_REPLAY_WIN : RegField := ⟨Reg.PORT_SEC_CFG, 32, 32⟩
def PORT_SEC_RXSCI_SCI : RegField := ⟨Reg.PORT_SEC_RXSCI, 0, 64⟩
def PORT_SEC_CNT_RX_INVALID : RegField := ⟨Reg.PORT_SEC_CNT, 0, 32⟩
def PORT_SEC_CNT_RX_LATE : RegField := ⟨Reg.PORT_SEC_CNT, 32, 16⟩
def PORT_SEC_CNT_TX_PN_STOP : RegField := ⟨Reg.PORT_SEC_CNT, 48, 16⟩
def PORT_SEC_SA_WORD (d a w : Nat) : RegField := ⟨Reg.PORT_SEC_SA d a w, 0, 64⟩
def PORT_SERDES_PRE (l : Nat) : RegField := ⟨Reg.PORT_SERDES l, 0, 6⟩
def PORT_SERDES_POST (l : Nat) : RegField := ⟨Reg.PORT_SERDES l, 6, 6⟩
def PORT_SERDES_TX_INV (l : Nat) : RegField := ⟨Reg.PORT_SERDES l, 12, 1⟩
def PORT_SERDES_RX_INV (l : Nat) : RegField := ⟨Reg.PORT_SERDES l, 13, 1⟩
def SKO_STATUS_ENABLED : RegField := ⟨Reg.SKO_STATUS, 0, 1⟩
def SKO_STATUS_MODE : RegField := ⟨Reg.SKO_STATUS, 1, 2⟩
def SKO_STATUS_PKT_DATA_EFF : RegField := ⟨Reg.SKO_STATUS, 3, 2⟩
def SKO_STATUS_NODE : RegField := ⟨Reg.SKO_STATUS, 16, 16⟩
def SKO_STATUS_CONNS : RegField := ⟨Reg.SKO_STATUS, 32, 17⟩
def SKO_LOAD_REQS : RegField := ⟨Reg.SKO_LOAD, 0, 17⟩
def SKO_LOAD_CANCEL_HELD : RegField := ⟨Reg.SKO_LOAD, 32, 9⟩
def SKO_CFG_PATHS : RegField := ⟨Reg.SKO_CFG, 0, 5⟩
def SKO_CFG_PKT_DATA : RegField := ⟨Reg.SKO_CFG, 8, 2⟩
def SKO_CFG_RTO_US : RegField := ⟨Reg.SKO_CFG, 16, 16⟩
def SKO_CFG_RETRY_MAX : RegField := ⟨Reg.SKO_CFG, 32, 4⟩
def SKO_CFG_REORDER_NS : RegField := ⟨Reg.SKO_CFG, 48, 16⟩
def SKO_CFG2_RNR_WAIT_US : RegField := ⟨Reg.SKO_CFG2, 0, 16⟩
def SKO_CFG2_RNR_MAX : RegField := ⟨Reg.SKO_CFG2, 16, 8⟩
def SKO_CFG2_CANCEL_HOLD : RegField := ⟨Reg.SKO_CFG2, 32, 16⟩
def SKO_CFG2_CONN_IDLE : RegField := ⟨Reg.SKO_CFG2, 48, 16⟩
def SKO_CC_MD_SHIFT : RegField := ⟨Reg.SKO_CC, 0, 4⟩
def SKO_CC_PENALTY : RegField := ⟨Reg.SKO_CC, 8, 8⟩
def SKO_CC_AI_MBPS : RegField := ⟨Reg.SKO_CC, 16, 16⟩
def SKO_CC_R_MIN_MBPS : RegField := ⟨Reg.SKO_CC, 32, 16⟩
def SKO_CC_CNP_GAP_NS : RegField := ⟨Reg.SKO_CC, 48, 16⟩
def SKO_CNT_TX_PACKETS : RegField := ⟨Reg.SKO_CNT_TX, 0, 64⟩
def SKO_CNT_RX_PACKETS : RegField := ⟨Reg.SKO_CNT_RX, 0, 64⟩
def SKO_CNT_REL_RETX : RegField := ⟨Reg.SKO_CNT_REL, 0, 16⟩
def SKO_CNT_REL_TIMEOUTS : RegField := ⟨Reg.SKO_CNT_REL, 16, 16⟩
def SKO_CNT_REL_RNR : RegField := ⟨Reg.SKO_CNT_REL, 32, 16⟩
def SKO_CNT_REL_RESYNC : RegField := ⟨Reg.SKO_CNT_REL, 48, 16⟩
def SKO_CNT_DROP_ADDR : RegField := ⟨Reg.SKO_CNT_DROP, 0, 16⟩
def SKO_CNT_DROP_SPOOF : RegField := ⟨Reg.SKO_CNT_DROP, 16, 16⟩
def SKO_CNT_DROP_CSUM : RegField := ⟨Reg.SKO_CNT_DROP, 32, 16⟩
def SKO_CNT_DROP_UNMATCHED : RegField := ⟨Reg.SKO_CNT_DROP, 48, 16⟩
def SKO_CNT_CC_CNP_RX : RegField := ⟨Reg.SKO_CNT_CC, 0, 32⟩
def SKO_CNT_CC_CNP_TX : RegField := ⟨Reg.SKO_CNT_CC, 32, 32⟩
def SKO_MCAST_BASE_ADDR : RegField := ⟨Reg.SKO_MCAST_BASE, 0, 48⟩
def SKO_PEER_SEL_NODE : RegField := ⟨Reg.SKO_PEER_SEL, 0, 16⟩
def SKO_PEER_SEL_CLASS : RegField := ⟨Reg.SKO_PEER_SEL, 16, 3⟩
def SKO_PEER_INFO_STATE : RegField := ⟨Reg.SKO_PEER_INFO, 0, 2⟩
def SKO_PEER_INFO_OUTSTANDING : RegField := ⟨Reg.SKO_PEER_INFO, 8, 16⟩
def SKO_PEER_INFO_RATE_MBPS : RegField := ⟨Reg.SKO_PEER_INFO, 32, 32⟩
def TS_CFG_KERF_NS : RegField := ⟨Reg.TS_CFG, 0, 16⟩
def TS_STATUS_GATES_ON : RegField := ⟨Reg.TS_STATUS, 0, 1⟩
def TS_STATUS_LIST : RegField := ⟨Reg.TS_STATUS, 1, 1⟩
def TS_STATUS_ENTRY : RegField := ⟨Reg.TS_STATUS, 2, 6⟩
def TS_STATUS_OPEN : RegField := ⟨Reg.TS_STATUS, 8, 8⟩
def TS_STATUS_PAUSED : RegField := ⟨Reg.TS_STATUS, 16, 8⟩
def TS_EXP_EXP_RATE_MBPS : RegField := ⟨Reg.TS_EXP, 0, 32⟩
def TS_EXP_EXP_BURST : RegField := ⟨Reg.TS_EXP, 32, 32⟩
def TS_BOUND_BOUND_NS : RegField := ⟨Reg.TS_BOUND, 0, 32⟩
def TS_BOUND_EXPRESS_LATE : RegField := ⟨Reg.TS_BOUND, 32, 16⟩
def TS_Q_CFG_QUANTUM (c : Nat) : RegField := ⟨Reg.TS_Q_CFG c, 0, 20⟩
def TS_Q_CFG_BURST_CAP (c : Nat) : RegField := ⟨Reg.TS_Q_CFG c, 20, 20⟩
def TS_Q_CFG_LIMIT_KIB (c : Nat) : RegField := ⟨Reg.TS_Q_CFG c, 40, 16⟩
def TS_Q_STAT_DEPTH (c : Nat) : RegField := ⟨Reg.TS_Q_STAT c, 0, 32⟩
def TS_Q_STAT_FRAMES (c : Nat) : RegField := ⟨Reg.TS_Q_STAT c, 32, 16⟩
def TS_SAMPLE_BASE_ADDR : RegField := ⟨Reg.TS_SAMPLE_BASE, 0, 48⟩
def TS_SAMPLE_CTL_EN : RegField := ⟨Reg.TS_SAMPLE_CTL, 0, 1⟩
def TS_SAMPLE_CTL_SIZE_LOG2 : RegField := ⟨Reg.TS_SAMPLE_CTL, 8, 5⟩
def TS_SAMPLE_CTL_PERIOD : RegField := ⟨Reg.TS_SAMPLE_CTL, 16, 16⟩
def TS_SAMPLE_CNT_RECORDS : RegField := ⟨Reg.TS_SAMPLE_CNT, 0, 64⟩
def TS_GATE_CFG_COUNT (l : Nat) : RegField := ⟨Reg.TS_GATE_CFG l, 0, 7⟩
def TS_GATE_CFG_CYCLE_BEATS (l : Nat) : RegField := ⟨Reg.TS_GATE_CFG l, 16, 16⟩
def TS_GATE_ENT_OFFSET_NS (l e : Nat) : RegField := ⟨Reg.TS_GATE_ENT l e, 0, 32⟩
def TS_GATE_ENT_MASK (l e : Nat) : RegField := ⟨Reg.TS_GATE_ENT l e, 32, 8⟩
def TS_POL_RATE_CIR_MBPS (t q : Nat) : RegField := ⟨Reg.TS_POL_RATE t q, 0, 28⟩
def TS_POL_RATE_PIR_MBPS (t q : Nat) : RegField := ⟨Reg.TS_POL_RATE t q, 32, 28⟩
def TS_POL_RATE_EN (t q : Nat) : RegField := ⟨Reg.TS_POL_RATE t q, 63, 1⟩
def TS_POL_BURST_CBS (t q : Nat) : RegField := ⟨Reg.TS_POL_BURST t q, 0, 32⟩
def TS_POL_BURST_PBS (t q : Nat) : RegField := ⟨Reg.TS_POL_BURST t q, 32, 32⟩
def TEL_CTRL_SNAP : RegField := ⟨Reg.TEL_CTRL, 0, 1⟩
def TEL_CTRL_VIEW : RegField := ⟨Reg.TEL_CTRL, 1, 1⟩
def TEL_CFG_SLOW_US : RegField := ⟨Reg.TEL_CFG, 0, 32⟩
def TEL_TEN_COUNT (t i : Nat) : RegField := ⟨Reg.TEL_TEN t i, 0, 64⟩
def TEL_SHARD_KEY_SHARD (n : Nat) : RegField := ⟨Reg.TEL_SHARD_KEY n, 0, 16⟩
def TEL_SHARD_KEY_OBJECT (n : Nat) : RegField := ⟨Reg.TEL_SHARD_KEY n, 16, 8⟩
def TEL_SHARD_KEY_KIND (n : Nat) : RegField := ⟨Reg.TEL_SHARD_KEY n, 24, 1⟩
def TEL_SHARD_KEY_EN (n : Nat) : RegField := ⟨Reg.TEL_SHARD_KEY n, 31, 1⟩
def TEL_SHARD_CNT_COUNT (n : Nat) : RegField := ⟨Reg.TEL_SHARD_CNT n, 0, 32⟩
def TEL_SHARD_CNT_SLOW (n : Nat) : RegField := ⟨Reg.TEL_SHARD_CNT n, 32, 32⟩
def TEL_SHARD_SUM_SUM_NS (n : Nat) : RegField := ⟨Reg.TEL_SHARD_SUM n, 0, 64⟩
def TEL_SHARD_MAX_MAX_NS (n : Nat) : RegField := ⟨Reg.TEL_SHARD_MAX n, 0, 32⟩
def MOV_TIMER_PERIOD_NS (k : Nat) : RegField := ⟨Reg.MOV_TIMER k, 0, 32⟩
def MOV_LIMITS_STALL_LIMIT : RegField := ⟨Reg.MOV_LIMITS, 0, 32⟩
def MOV_WATCH_ADDR (w : Nat) : RegField := ⟨Reg.MOV_WATCH w, 0, 48⟩
def MOV_WATCH_EN (w : Nat) : RegField := ⟨Reg.MOV_WATCH w, 63, 1⟩
def MOV_CH_RING_ADDR (n : Nat) : RegField := ⟨Reg.MOV_CH_RING n, 0, 48⟩
def MOV_CH_RING_SIZE_LOG2 (n : Nat) : RegField := ⟨Reg.MOV_CH_RING n, 48, 5⟩
def MOV_CH_CFG_EN (n : Nat) : RegField := ⟨Reg.MOV_CH_CFG n, 0, 1⟩
def MOV_CH_CFG_GTENANT (n : Nat) : RegField := ⟨Reg.MOV_CH_CFG n, 16, 16⟩
def MOV_CH_CTRL_STOP (n : Nat) : RegField := ⟨Reg.MOV_CH_CTRL n, 0, 1⟩
def MOV_CH_CTRL_RESUME (n : Nat) : RegField := ⟨Reg.MOV_CH_CTRL n, 1, 1⟩
def MOV_CH_CTRL_SKIP (n : Nat) : RegField := ⟨Reg.MOV_CH_CTRL n, 2, 1⟩
def MOV_CH_CTRL_KICK (n : Nat) : RegField := ⟨Reg.MOV_CH_CTRL n, 3, 1⟩
def MOV_CH_STATUS_STATE (n : Nat) : RegField := ⟨Reg.MOV_CH_STATUS n, 0, 3⟩
def MOV_CH_STATUS_PENDING (n : Nat) : RegField := ⟨Reg.MOV_CH_STATUS n, 16, 16⟩
def MOV_CH_ERR_CODE (n : Nat) : RegField := ⟨Reg.MOV_CH_ERR n, 0, 16⟩
def MOV_CH_ERR_KIND (n : Nat) : RegField := ⟨Reg.MOV_CH_ERR n, 16, 3⟩
def MOV_CH_ERR_DONE_BYTES (n : Nat) : RegField := ⟨Reg.MOV_CH_ERR n, 24, 40⟩
def MOV_CH_CNT_DESCS (n : Nat) : RegField := ⟨Reg.MOV_CH_CNT n, 0, 32⟩
def MOV_CH_CNT_REQ_LOST (n : Nat) : RegField := ⟨Reg.MOV_CH_CNT n, 32, 16⟩
def MOV_CH_CNT_SAT (n : Nat) : RegField := ⟨Reg.MOV_CH_CNT n, 48, 16⟩
def CHK_CFG_WIDTH (u : Nat) : RegField := ⟨Reg.CHK_CFG u, 0, 7⟩
def CHK_CFG_REFIN (u : Nat) : RegField := ⟨Reg.CHK_CFG u, 8, 1⟩
def CHK_CFG_REFOUT (u : Nat) : RegField := ⟨Reg.CHK_CFG u, 9, 1⟩
def CHK_POLY_VALUE (u : Nat) : RegField := ⟨Reg.CHK_POLY u, 0, 64⟩
def CHK_INIT_VALUE (u : Nat) : RegField := ⟨Reg.CHK_INIT u, 0, 64⟩
def CHK_XOROUT_VALUE (u : Nat) : RegField := ⟨Reg.CHK_XOROUT u, 0, 64⟩
def CHK_STATE_VALUE (u : Nat) : RegField := ⟨Reg.CHK_STATE u, 0, 64⟩
def CHK_EXPECT_VALUE (u : Nat) : RegField := ⟨Reg.CHK_EXPECT u, 0, 64⟩
def CHK_FEED_DATA (u : Nat) : RegField := ⟨Reg.CHK_FEED u, 0, 64⟩
def CHK_FEED_TAIL_DATA (u : Nat) : RegField := ⟨Reg.CHK_FEED_TAIL u, 0, 56⟩
def CHK_FEED_TAIL_COUNT (u : Nat) : RegField := ⟨Reg.CHK_FEED_TAIL u, 56, 3⟩
def CHK_RESULT_RESULT (u : Nat) : RegField := ⟨Reg.CHK_RESULT u, 0, 64⟩
def CHK_CTRL_START (u : Nat) : RegField := ⟨Reg.CHK_CTRL u, 0, 1⟩
def CHK_CTRL_CHECK (u : Nat) : RegField := ⟨Reg.CHK_CTRL u, 1, 1⟩
def CHK_CTRL_MISMATCH (u : Nat) : RegField := ⟨Reg.CHK_CTRL u, 2, 1⟩
def CHK_CTRL_HELD (u : Nat) : RegField := ⟨Reg.CHK_CTRL u, 3, 1⟩
def CHK_CTRL_HOLDER (u : Nat) : RegField := ⟨Reg.CHK_CTRL u, 4, 6⟩
def CHK_CTRL_MISMATCHES (u : Nat) : RegField := ⟨Reg.CHK_CTRL u, 16, 16⟩
def CHK_CTRL_IGNORED (u : Nat) : RegField := ⟨Reg.CHK_CTRL u, 32, 16⟩
def CHK_BYTES_BYTES (u : Nat) : RegField := ⟨Reg.CHK_BYTES u, 0, 64⟩
def PAR_RING_ADDR : RegField := ⟨Reg.PAR_RING, 0, 48⟩
def PAR_RING_SIZE_LOG2 : RegField := ⟨Reg.PAR_RING, 48, 5⟩
def PAR_CFG_EN : RegField := ⟨Reg.PAR_CFG, 0, 1⟩
def PAR_CTRL_RESUME : RegField := ⟨Reg.PAR_CTRL, 0, 1⟩
def PAR_CTRL_SKIP : RegField := ⟨Reg.PAR_CTRL, 1, 1⟩
def PAR_STATUS_Q0 : RegField := ⟨Reg.PAR_STATUS, 0, 2⟩
def PAR_STATUS_Q1 : RegField := ⟨Reg.PAR_STATUS, 2, 2⟩
def PAR_ERR_CODE : RegField := ⟨Reg.PAR_ERR, 0, 16⟩
def PAR_ERR_QUEUE : RegField := ⟨Reg.PAR_ERR, 16, 1⟩
def PAR_ERR_OFFSET : RegField := ⟨Reg.PAR_ERR, 24, 40⟩
def PAR_CNT_JOBS : RegField := ⟨Reg.PAR_CNT, 0, 32⟩
def PAR_CNT_MISMATCH : RegField := ⟨Reg.PAR_CNT, 32, 16⟩
def SEC_STATUS_OWN : RegField := ⟨Reg.SEC_STATUS, 0, 2⟩
def SEC_STATUS_QUOTE_BUSY : RegField := ⟨Reg.SEC_STATUS, 2, 1⟩
def SEC_STATUS_LOG_FULL : RegField := ⟨Reg.SEC_STATUS, 3, 1⟩
def SEC_STATUS_REVOKED : RegField := ⟨Reg.SEC_STATUS, 4, 4⟩
def SEC_STATUS_FLOOR : RegField := ⟨Reg.SEC_STATUS, 8, 7⟩
def SEC_STATUS_LAST_RESULT : RegField := ⟨Reg.SEC_STATUS, 16, 3⟩
def SEC_STATUS_SEQ : RegField := ⟨Reg.SEC_STATUS, 32, 32⟩
def SEC_DEVID_LO_ID : RegField := ⟨Reg.SEC_DEVID_LO, 0, 64⟩
def SEC_DEVID_HI_ID : RegField := ⟨Reg.SEC_DEVID_HI, 0, 64⟩
def SEC_CTRL_CLAIM : RegField := ⟨Reg.SEC_CTRL, 0, 1⟩
def SEC_CTRL_QUOTE : RegField := ⟨Reg.SEC_CTRL, 1, 1⟩
def SEC_CTRL_AK_CERT : RegField := ⟨Reg.SEC_CTRL, 2, 1⟩
def SEC_CTRL_EXTEND : RegField := ⟨Reg.SEC_CTRL, 3, 1⟩
def SEC_CTRL_RAISE_FLOOR : RegField := ⟨Reg.SEC_CTRL, 4, 1⟩
def SEC_CTRL_REVOKE_VKEY : RegField := ⟨Reg.SEC_CTRL, 5, 1⟩
def SEC_CTRL_ARG : RegField := ⟨Reg.SEC_CTRL, 8, 3⟩
def SEC_ARG_ADDR : RegField := ⟨Reg.SEC_ARG, 0, 48⟩
def SEC_NONCE_BYTES (w : Nat) : RegField := ⟨Reg.SEC_NONCE w, 0, 64⟩
def SEC_EXTEND_BYTES (w : Nat) : RegField := ⟨Reg.SEC_EXTEND w, 0, 64⟩
def SEC_MEAS_BYTES (r w : Nat) : RegField := ⟨Reg.SEC_MEAS r w, 0, 64⟩
def SEC_LOG_SEL_ENTRY : RegField := ⟨Reg.SEC_LOG_SEL, 0, 12⟩
def SEC_LOG_SEL_COUNT : RegField := ⟨Reg.SEC_LOG_SEL, 16, 13⟩
def SEC_LOG_DATA_BYTES (w : Nat) : RegField := ⟨Reg.SEC_LOG_DATA w, 0, 64⟩
def SEC_CAR_RESULT (c : Nat) : RegField := ⟨Reg.SEC_CAR c, 0, 3⟩
def SEC_CAR_KEY_ID (c : Nat) : RegField := ⟨Reg.SEC_CAR c, 8, 56⟩
def NCTL_RESET_SCOPE : RegField := ⟨Reg.NCTL_RESET, 0, 4⟩
def NCTL_RESET_INSTANCE : RegField := ⟨Reg.NCTL_RESET, 16, 10⟩
def NCTL_RESET_GO : RegField := ⟨Reg.NCTL_RESET, 31, 1⟩
def NCTL_RESET_LAST_RESULT : RegField := ⟨Reg.NCTL_RESET, 32, 2⟩
def NCTL_RESET_BUSY : RegField := ⟨Reg.NCTL_RESET, 34, 1⟩
def NCTL_SEAL_CFG_PERIOD : RegField := ⟨Reg.NCTL_SEAL_CFG, 0, 32⟩
def NCTL_SEAL_CFG_CLASS : RegField := ⟨Reg.NCTL_SEAL_CFG, 32, 3⟩
def NCTL_SEAL_BUF_BASE_64K : RegField := ⟨Reg.NCTL_SEAL_BUF, 0, 32⟩
def NCTL_SEAL_BUF_HALF_MIB : RegField := ⟨Reg.NCTL_SEAL_BUF, 32, 16⟩
def NCTL_UEPOCH_OPEN : RegField := ⟨Reg.NCTL_UEPOCH, 0, 32⟩
def NCTL_UEPOCH_HELD : RegField := ⟨Reg.NCTL_UEPOCH, 32, 32⟩
def NCTL_SEAL_STATUS_STATE : RegField := ⟨Reg.NCTL_SEAL_STATUS, 0, 3⟩
def NCTL_SEAL_STATUS_OUTCOME : RegField := ⟨Reg.NCTL_SEAL_STATUS, 8, 2⟩
def NCTL_SEAL_STATUS_REASON : RegField := ⟨Reg.NCTL_SEAL_STATUS, 16, 4⟩
def NCTL_SEAL_STATUS_LAST_EPOCH : RegField := ⟨Reg.NCTL_SEAL_STATUS, 32, 32⟩
def NCTL_SEAL_FILL_PROJ_KIB : RegField := ⟨Reg.NCTL_SEAL_FILL, 0, 32⟩
def NCTL_SEAL_FILL_PAGES : RegField := ⟨Reg.NCTL_SEAL_FILL, 32, 32⟩
def NCTL_GROUP_ADDR : RegField := ⟨Reg.NCTL_GROUP, 0, 48⟩
def NCTL_GROUP_EN : RegField := ⟨Reg.NCTL_GROUP, 63, 1⟩
def NCTL_GROUP_STATUS_STATE : RegField := ⟨Reg.NCTL_GROUP_STATUS, 0, 2⟩
def NCTL_GROUP_STATUS_REASON : RegField := ⟨Reg.NCTL_GROUP_STATUS, 8, 8⟩
def NCTL_GROUP_STATUS_NEXT_STRIPE : RegField := ⟨Reg.NCTL_GROUP_STATUS, 16, 48⟩
def NCTL_REC_STATE_STATE (k : Nat) : RegField := ⟨Reg.NCTL_REC_STATE k, 0, 3⟩
def NCTL_REC_STATE_REASON (k : Nat) : RegField := ⟨Reg.NCTL_REC_STATE k, 8, 8⟩
def NCTL_REC_STATE_SRC_POS (k : Nat) : RegField := ⟨Reg.NCTL_REC_STATE k, 16, 5⟩
def NCTL_REC_STATE_LOST (k : Nat) : RegField := ⟨Reg.NCTL_REC_STATE k, 24, 32⟩
def NCTL_REC_CUR_CURSOR (k : Nat) : RegField := ⟨Reg.NCTL_REC_CUR k, 0, 32⟩
def NCTL_REC_CUR_LAST (k : Nat) : RegField := ⟨Reg.NCTL_REC_CUR k, 32, 32⟩
def EVT_STATUS_SEQ_NEXT : RegField := ⟨Reg.EVT_STATUS, 0, 32⟩
def EVT_STATUS_TX_DROP : RegField := ⟨Reg.EVT_STATUS, 32, 16⟩
def EVT_STATUS_SEND_FAIL : RegField := ⟨Reg.EVT_STATUS, 48, 16⟩
def EVT_CFG_CLASS : RegField := ⟨Reg.EVT_CFG, 0, 3⟩
def EVT_DEST_NODE (d : Nat) : RegField := ⟨Reg.EVT_DEST d, 0, 16⟩
def EVT_DEST_MIN_SEV (d : Nat) : RegField := ⟨Reg.EVT_DEST d, 16, 2⟩
def EVT_DEST_EN (d : Nat) : RegField := ⟨Reg.EVT_DEST d, 31, 1⟩
def EVT_REC_BYTES (i w : Nat) : RegField := ⟨Reg.EVT_REC i w, 0, 64⟩
def EVT_RH_CFG_KIND (s : Nat) : RegField := ⟨Reg.EVT_RH_CFG s, 0, 4⟩
def EVT_RH_CFG_COUNT (s : Nat) : RegField := ⟨Reg.EVT_RH_CFG s, 16, 16⟩
def EVT_RH_CFG_DURATION (s : Nat) : RegField := ⟨Reg.EVT_RH_CFG s, 32, 32⟩
def EVT_RH_TGT_TARGET (s : Nat) : RegField := ⟨Reg.EVT_RH_TGT s, 0, 16⟩
def EVT_RH_TGT_OBJECT (s : Nat) : RegField := ⟨Reg.EVT_RH_TGT s, 16, 8⟩
def EVT_RH_TGT_OBJ_KIND (s : Nat) : RegField := ⟨Reg.EVT_RH_TGT s, 24, 1⟩
def EVT_RH_TGT_ARG (s : Nat) : RegField := ⟨Reg.EVT_RH_TGT s, 48, 16⟩
def EVT_RH_STATUS_ACTIVE : RegField := ⟨Reg.EVT_RH_STATUS, 0, 16⟩
def EVT_RH_STATUS_INJECTED : RegField := ⟨Reg.EVT_RH_STATUS, 32, 32⟩
def NCTL_BOOT_STATE : RegField := ⟨Reg.NCTL_BOOT, 0, 3⟩
def NCTL_BOOT_STRAP : RegField := ⟨Reg.NCTL_BOOT, 4, 2⟩
def NCTL_BOOT_FROM_CARRIER : RegField := ⟨Reg.NCTL_BOOT, 6, 1⟩
def NCTL_BOOT_CARRIER : RegField := ⟨Reg.NCTL_BOOT, 8, 3⟩
def NCTL_BOOT_REASON : RegField := ⟨Reg.NCTL_BOOT, 12, 2⟩
def NCTL_BOOT_READY_MS : RegField := ⟨Reg.NCTL_BOOT, 16, 32⟩
def NCTL_BOOT_CTL_SAVE : RegField := ⟨Reg.NCTL_BOOT_CTL, 0, 1⟩
def NCTL_BOOT_CTL_CARRIER : RegField := ⟨Reg.NCTL_BOOT_CTL, 4, 3⟩
def NCTL_BOOT_CTL_SAVE_BUSY : RegField := ⟨Reg.NCTL_BOOT_CTL, 7, 1⟩
def NCTL_BOOT_CTL_LAST_RESULT : RegField := ⟨Reg.NCTL_BOOT_CTL, 8, 2⟩
def NCTL_PWR_CAP_CAP_W : RegField := ⟨Reg.NCTL_PWR_CAP, 0, 16⟩
def NCTL_PWR_CAP_HYST : RegField := ⟨Reg.NCTL_PWR_CAP, 16, 8⟩
def NCTL_PWR_CAP_PKG_W : RegField := ⟨Reg.NCTL_PWR_CAP, 32, 16⟩
def NCTL_THROTTLE_LEVEL : RegField := ⟨Reg.NCTL_THROTTLE, 0, 3⟩
def NCTL_THROTTLE_POWER : RegField := ⟨Reg.NCTL_THROTTLE, 3, 1⟩
def NCTL_THROTTLE_THERMAL : RegField := ⟨Reg.NCTL_THROTTLE, 4, 1⟩
def NCTL_THROTTLE_RAISES : RegField := ⟨Reg.NCTL_THROTTLE, 32, 32⟩
def NCTL_THERM_CFG_THROT_T : RegField := ⟨Reg.NCTL_THERM_CFG, 0, 8⟩
def NCTL_THERM_CFG_ALERT_T : RegField := ⟨Reg.NCTL_THERM_CFG, 8, 8⟩
def NCTL_THERM_CFG_STK_THROT_T : RegField := ⟨Reg.NCTL_THERM_CFG, 16, 8⟩
def NCTL_THERM_CFG_STK_ALERT_T : RegField := ⟨Reg.NCTL_THERM_CFG, 24, 8⟩
def NCTL_THERM_HOT_C : RegField := ⟨Reg.NCTL_THERM, 0, 8⟩
def NCTL_THERM_HOT_DIE : RegField := ⟨Reg.NCTL_THERM, 8, 4⟩
def NCTL_THERM_STK_HOT_C : RegField := ⟨Reg.NCTL_THERM, 16, 8⟩
def NCTL_THERM_ALERT : RegField := ⟨Reg.NCTL_THERM, 24, 1⟩
def NCTL_THERM_PEAK_C : RegField := ⟨Reg.NCTL_THERM, 32, 8⟩
def NCTL_RAIL_VOUT_MV (i : Nat) : RegField := ⟨Reg.NCTL_RAIL i, 0, 16⟩
def NCTL_RAIL_IOUT_A (i : Nat) : RegField := ⟨Reg.NCTL_RAIL i, 16, 16⟩
def NCTL_RAIL_TEMP_C (i : Nat) : RegField := ⟨Reg.NCTL_RAIL i, 32, 8⟩
def NCTL_RAIL_VALID (i : Nat) : RegField := ⟨Reg.NCTL_RAIL i, 40, 1⟩
def NCTL_RAIL_OUT_RANGE (i : Nat) : RegField := ⟨Reg.NCTL_RAIL i, 41, 1⟩

end F

/-- The registers of the NCTL_ block. -/
def regsNCTL : List RegDesc :=
  [⟨0xF00000000000, [], [⟨0, 8, .ro⟩, ⟨8, 4, .ro⟩, ⟨16, 8, .ro⟩, ⟨24, 4, .ro⟩], 0x141020C⟩,
   ⟨0xF00000000100, [], [⟨0, 4, .wo⟩, ⟨16, 10, .wo⟩, ⟨31, 1, .wo⟩, ⟨32, 2, .ro⟩, ⟨34, 1, .ro⟩], 0x0⟩,
   ⟨0xF00000000108, [], [⟨0, 32, .rw⟩, ⟨32, 3, .rw⟩], 0x600010000⟩,
   ⟨0xF00000000110, [], [⟨0, 32, .rw⟩, ⟨32, 16, .rw⟩], 0x0⟩,
   ⟨0xF00000000118, [], [⟨0, 32, .rw⟩, ⟨32, 32, .ro⟩], 0x0⟩,
   ⟨0xF00000000120, [], [⟨0, 3, .ro⟩, ⟨8, 2, .ro⟩, ⟨16, 4, .ro⟩, ⟨32, 32, .ro⟩], 0x0⟩,
   ⟨0xF00000000128, [], [⟨0, 32, .ro⟩, ⟨32, 32, .ro⟩], 0x0⟩,
   ⟨0xF00000000130, [], [⟨0, 48, .rw⟩, ⟨63, 1, .rw⟩], 0x0⟩,
   ⟨0xF00000000138, [], [⟨0, 2, .ro⟩, ⟨8, 8, .ro⟩, ⟨16, 48, .ro⟩], 0x0⟩,
   ⟨0xF00000000200, [(0x10, 8)], [⟨0, 3, .ro⟩, ⟨8, 8, .ro⟩, ⟨16, 5, .ro⟩, ⟨24, 32, .ro⟩], 0x0⟩,
   ⟨0xF00000000208, [(0x10, 8)], [⟨0, 32, .ro⟩, ⟨32, 32, .ro⟩], 0x0⟩,
   ⟨0xF00000000300, [], [⟨0, 3, .ro⟩, ⟨4, 2, .ro⟩, ⟨6, 1, .ro⟩, ⟨8, 3, .ro⟩, ⟨12, 2, .ro⟩, ⟨16, 32, .ro⟩], 0x0⟩] ++
  [⟨0xF00000000308, [], [⟨0, 1, .wo⟩, ⟨4, 3, .rw⟩, ⟨7, 1, .ro⟩, ⟨8, 2, .ro⟩], 0x0⟩,
   ⟨0xF00000000310, [], [⟨0, 16, .rw⟩, ⟨16, 8, .rw⟩, ⟨32, 16, .ro⟩], 0x80672⟩,
   ⟨0xF00000000318, [], [⟨0, 3, .ro⟩, ⟨3, 1, .ro⟩, ⟨4, 1, .ro⟩, ⟨32, 32, .rc⟩], 0x0⟩,
   ⟨0xF00000000320, [], [⟨0, 8, .rw⟩, ⟨8, 8, .rw⟩, ⟨16, 8, .rw⟩, ⟨24, 8, .rw⟩], 0x5F55695F⟩,
   ⟨0xF00000000328, [], [⟨0, 8, .ro⟩, ⟨8, 4, .ro⟩, ⟨16, 8, .ro⟩, ⟨24, 1, .ro⟩, ⟨32, 8, .rc⟩], 0x0⟩,
   ⟨0xF00000000400, [(0x8, 14)], [⟨0, 16, .ro⟩, ⟨16, 16, .ro⟩, ⟨32, 8, .ro⟩, ⟨40, 1, .ro⟩, ⟨41, 1, .w1c⟩], 0x0⟩]

/-- The registers of the BEAT_ block. -/
def regsBEAT : List RegDesc :=
  [⟨0xF00001000000, [], [⟨0, 48, .ro⟩, ⟨48, 13, .ro⟩, ⟨63, 1, .ro⟩], 0x0⟩,
   ⟨0xF00001000008, [], [⟨0, 3, .ro⟩, ⟨3, 1, .ro⟩, ⟨8, 9, .ro⟩, ⟨32, 32, .ro⟩], 0x0⟩,
   ⟨0xF00001000010, [], [⟨0, 32, .ro⟩, ⟨32, 32, .ro⟩], 0x0⟩,
   ⟨0xF00001000018, [], [⟨0, 64, .ro⟩], 0x0⟩,
   ⟨0xF00001000020, [], [⟨0, 16, .rw⟩, ⟨16, 16, .rw⟩, ⟨32, 16, .rw⟩, ⟨48, 16, .rw⟩], 0x7D0008003E800FA⟩,
   ⟨0xF00001000028, [], [⟨0, 32, .rw⟩, ⟨32, 16, .rw⟩, ⟨48, 1, .rw⟩], 0x32000003E8⟩,
   ⟨0xF00001000030, [], [⟨0, 1, .wo⟩, ⟨1, 1, .wo⟩, ⟨2, 1, .wo⟩], 0x0⟩,
   ⟨0xF00001000038, [], [⟨0, 48, .rw⟩], 0x0⟩,
   ⟨0xF00001001000, [(0x20, 256)], [⟨0, 48, .rw⟩], 0x0⟩,
   ⟨0xF00001001008, [(0x20, 256)], [⟨0, 8, .rw⟩, ⟨8, 16, .rw⟩, ⟨24, 1, .rw⟩, ⟨25, 1, .rw⟩], 0x0⟩,
   ⟨0xF00001001010, [(0x20, 256)], [⟨0, 64, .rw⟩], 0x0⟩,
   ⟨0xF00001001018, [(0x20, 256)], [⟨0, 1, .wo⟩, ⟨1, 1, .wo⟩, ⟨4, 3, .ro⟩, ⟨16, 48, .ro⟩], 0x0⟩]

/-- The registers of the IMG_ block. -/
def regsIMG : List RegDesc :=
  [⟨0xF00002000000, [], [⟨0, 48, .rw⟩], 0x0⟩,
   ⟨0xF00002000008, [], [⟨0, 35, .rw⟩], 0x0⟩,
   ⟨0xF00002000010, [], [⟨0, 1, .wo⟩, ⟨1, 1, .wo⟩, ⟨2, 1, .wo⟩, ⟨3, 1, .wo⟩], 0x0⟩,
   ⟨0xF00002000018, [], [⟨0, 3, .ro⟩, ⟨3, 1, .ro⟩, ⟨8, 8, .ro⟩, ⟨16, 48, .ro⟩], 0x0⟩,
   ⟨0xF00002000020, [], [⟨0, 64, .ro⟩], 0x0⟩,
   ⟨0xF00002000028, [], [⟨0, 64, .ro⟩], 0x0⟩,
   ⟨0xF00002000030, [], [⟨0, 32, .ro⟩, ⟨32, 32, .ro⟩], 0x0⟩,
   ⟨0xF00002000038, [], [⟨0, 1, .ro⟩, ⟨16, 48, .ro⟩], 0x0⟩,
   ⟨0xF00002000040, [], [⟨0, 16, .rw⟩], 0x100⟩,
   ⟨0xF00002001000, [(0x8, 64)], [⟨0, 3, .ro⟩, ⟨3, 1, .ro⟩, ⟨8, 8, .ro⟩, ⟨16, 10, .ro⟩, ⟨32, 32, .ro⟩], 0x0⟩]

/-- The registers of the SEC_ block. -/
def regsSEC : List RegDesc :=
  [⟨0xF00003000000, [], [⟨0, 2, .ro⟩, ⟨2, 1, .ro⟩, ⟨3, 1, .ro⟩, ⟨4, 4, .ro⟩, ⟨8, 7, .ro⟩, ⟨16, 3, .ro⟩, ⟨32, 32, .ro⟩], 0x0⟩,
   ⟨0xF00003000008, [], [⟨0, 64, .ro⟩], 0x0⟩,
   ⟨0xF00003000010, [], [⟨0, 64, .ro⟩], 0x0⟩,
   ⟨0xF00003000018, [], [⟨0, 1, .wo⟩, ⟨1, 1, .wo⟩, ⟨2, 1, .wo⟩, ⟨3, 1, .wo⟩, ⟨4, 1, .wo⟩, ⟨5, 1, .wo⟩, ⟨8, 3, .wo⟩], 0x0⟩,
   ⟨0xF00003000020, [], [⟨0, 48, .rw⟩], 0x0⟩,
   ⟨0xF00003000040, [(0x8, 4)], [⟨0, 64, .rw⟩], 0x0⟩,
   ⟨0xF00003000060, [(0x8, 4)], [⟨0, 64, .rw⟩], 0x0⟩,
   ⟨0xF00003000100, [(0x20, 8), (0x8, 4)], [⟨0, 64, .ro⟩], 0x0⟩,
   ⟨0xF00003000200, [], [⟨0, 12, .rw⟩, ⟨16, 13, .ro⟩], 0x0⟩,
   ⟨0xF00003000208, [(0x8, 6)], [⟨0, 64, .ro⟩], 0x0⟩,
   ⟨0xF00003000300, [(0x8, 8)], [⟨0, 3, .ro⟩, ⟨8, 56, .ro⟩], 0x0⟩]

/-- The registers of the STK_ block. -/
def regsSTK : List RegDesc :=
  [⟨0xF00020000000, [(0x1000000, 12)], [⟨0, 1, .ro⟩, ⟨1, 1, .ro⟩, ⟨2, 1, .ro⟩, ⟨3, 1, .ro⟩, ⟨4, 5, .ro⟩, ⟨16, 8, .ro⟩, ⟨32, 9, .ro⟩], 0x1⟩,
   ⟨0xF00020000008, [(0x1000000, 12)], [⟨0, 32, .rc⟩, ⟨32, 32, .rc⟩], 0x0⟩,
   ⟨0xF00020000010, [(0x1000000, 12)], [⟨0, 8, .ro⟩, ⟨8, 27, .ro⟩, ⟨63, 1, .w1c⟩], 0x0⟩,
   ⟨0xF00020000018, [(0x1000000, 12)], [⟨0, 16, .rw⟩], 0x18⟩,
   ⟨0xF00020000020, [(0x1000000, 12)], [⟨0, 64, .rc⟩], 0x0⟩,
   ⟨0xF00020000028, [(0x1000000, 12)], [⟨0, 64, .rc⟩], 0x0⟩,
   ⟨0xF00020000030, [(0x1000000, 12)], [⟨0, 32, .rw⟩], 0x400⟩,
   ⟨0xF00020100000, [(0x1000000, 12), (0x100, 256)], [⟨0, 3, .ro⟩, ⟨8, 8, .ro⟩, ⟨16, 9, .ro⟩, ⟨32, 16, .ro⟩], 0x1⟩,
   ⟨0xF00020100008, [(0x1000000, 12), (0x100, 256)], [⟨0, 1, .w1c⟩, ⟨1, 1, .w1c⟩, ⟨2, 1, .w1c⟩, ⟨3, 1, .w1c⟩], 0x0⟩,
   ⟨0xF00020100010, [(0x1000000, 12), (0x100, 256)], [⟨0, 1, .wo⟩], 0x0⟩]

/-- The registers of the TIER_ block. -/
def regsTIER : List RegDesc :=
  [⟨0xF00030000000, [], [⟨0, 31, .rw⟩, ⟨32, 16, .rw⟩, ⟨48, 8, .rw⟩, ⟨56, 8, .rw⟩], 0x108040000000000⟩,
   ⟨0xF00030000008, [], [⟨0, 24, .rw⟩, ⟨24, 24, .rw⟩, ⟨48, 8, .rw⟩, ⟨56, 8, .rw⟩], 0x4002000800000400⟩,
   ⟨0xF00030000010, [], [⟨0, 24, .ro⟩, ⟨24, 9, .ro⟩, ⟨40, 8, .ro⟩, ⟨48, 1, .ro⟩, ⟨49, 1, .ro⟩], 0x10000000000⟩,
   ⟨0xF00030000018, [], [⟨0, 32, .rc⟩, ⟨32, 32, .rc⟩], 0x0⟩,
   ⟨0xF00030000020, [], [⟨0, 16, .rc⟩, ⟨16, 16, .rc⟩, ⟨32, 16, .rc⟩, ⟨48, 16, .rc⟩], 0x0⟩,
   ⟨0xF00030000028, [], [⟨0, 30, .rw⟩], 0x0⟩,
   ⟨0xF00030000030, [], [⟨0, 3, .ro⟩, ⟨3, 1, .ro⟩, ⟨4, 1, .ro⟩, ⟨8, 8, .ro⟩, ⟨16, 4, .ro⟩, ⟨20, 20, .ro⟩, ⟨40, 5, .ro⟩, ⟨45, 3, .ro⟩, ⟨48, 2, .ro⟩], 0x0⟩,
   ⟨0xF00030000038, [], [⟨0, 1, .wo⟩], 0x0⟩,
   ⟨0xF00030000100, [(0x8, 12)], [⟨0, 20, .rw⟩, ⟨32, 20, .rw⟩], 0x0⟩,
   ⟨0xF00030000200, [(0x8, 16)], [⟨0, 30, .rw⟩, ⟨32, 31, .rw⟩, ⟨63, 1, .rw⟩], 0x0⟩,
   ⟨0xF00030001000, [(0x20, 16)], [⟨0, 2, .rw⟩, ⟨8, 8, .rw⟩, ⟨16, 48, .rw⟩], 0x0⟩,
   ⟨0xF00030001008, [(0x20, 16)], [⟨0, 16, .rw⟩, ⟨16, 4, .rw⟩], 0x0⟩] ++
  [⟨0xF00030001010, [(0x20, 16)], [⟨0, 1, .wo⟩, ⟨1, 1, .wo⟩, ⟨2, 1, .wo⟩, ⟨3, 1, .wo⟩, ⟨4, 1, .wo⟩, ⟨8, 3, .ro⟩, ⟨12, 4, .ro⟩, ⟨16, 48, .ro⟩], 0x0⟩]

/-- The registers of the TILE_ block. -/
def regsTILE : List RegDesc :=
  [⟨0xF000A0000400, [(0x100000, 672)], [⟨0, 1, .w1c⟩, ⟨1, 1, .w1c⟩, ⟨2, 1, .w1c⟩, ⟨3, 1, .w1c⟩, ⟨4, 1, .w1c⟩, ⟨5, 1, .w1c⟩, ⟨6, 1, .w1c⟩], 0x0⟩,
   ⟨0xF000A0000408, [(0x100000, 672)], [⟨0, 32, .rc⟩, ⟨32, 32, .rc⟩], 0x0⟩,
   ⟨0xF000A0000000, [(0x100000, 672)], [⟨0, 3, .ro⟩, ⟨8, 6, .ro⟩, ⟨16, 8, .ro⟩, ⟨24, 10, .ro⟩], 0x0⟩,
   ⟨0xF000A0000010, [(0x100000, 672)], [⟨0, 1, .w1c⟩, ⟨1, 1, .w1c⟩, ⟨2, 1, .w1c⟩, ⟨3, 1, .w1c⟩, ⟨4, 1, .w1c⟩, ⟨5, 1, .w1c⟩, ⟨6, 1, .w1c⟩], 0x0⟩,
   ⟨0xF000A0000018, [(0x100000, 672)], [⟨0, 10, .ro⟩, ⟨16, 8, .ro⟩, ⟨24, 22, .ro⟩, ⟨46, 16, .ro⟩], 0x0⟩,
   ⟨0xF000A0000020, [(0x100000, 672)], [⟨0, 32, .rw⟩, ⟨32, 32, .rw⟩], 0x100000000400⟩,
   ⟨0xF000A0000100, [(0x100000, 672), (0x8, 16)], [⟨0, 18, .ro⟩, ⟨18, 18, .ro⟩, ⟨36, 13, .ro⟩], 0x0⟩,
   ⟨0xF000A0000180, [(0x100000, 672), (0x8, 8)], [⟨0, 13, .ro⟩, ⟨13, 1, .ro⟩, ⟨16, 7, .ro⟩], 0x0⟩,
   ⟨0xF000A0000200, [(0x100000, 672)], [⟨0, 64, .rc⟩], 0x0⟩,
   ⟨0xF000A0000208, [(0x100000, 672)], [⟨0, 64, .rc⟩], 0x0⟩,
   ⟨0xF000A0000210, [(0x100000, 672)], [⟨0, 64, .rc⟩], 0x0⟩,
   ⟨0xF000A0000218, [(0x100000, 672)], [⟨0, 32, .rc⟩, ⟨32, 32, .rc⟩], 0x0⟩] ++
  [⟨0xF000A0000800, [(0x100000, 672)], [⟨0, 1, .rw⟩, ⟨1, 1, .wo⟩, ⟨2, 1, .rw⟩, ⟨16, 10, .rw⟩], 0x0⟩,
   ⟨0xF000A0000808, [(0x100000, 672)], [⟨0, 1, .ro⟩, ⟨1, 10, .ro⟩, ⟨32, 32, .ro⟩], 0x0⟩,
   ⟨0xF000A0010000, [(0x100000, 672), (0x400, 64), (0x8, 128)], [⟨0, 32, .ro⟩, ⟨32, 32, .ro⟩], 0x0⟩]

/-- The registers of the FL_ block. -/
def regsFL : List RegDesc :=
  [⟨0xF00040000000, [], [⟨0, 16, .rw⟩, ⟨16, 16, .rw⟩, ⟨32, 16, .rw⟩, ⟨48, 16, .rw⟩], 0x3E8000600180040⟩,
   ⟨0xF00040000008, [], [⟨0, 32, .rw⟩, ⟨32, 16, .rw⟩], 0x10000001E000⟩,
   ⟨0xF00040000010, [], [⟨0, 8, .ro⟩, ⟨8, 8, .ro⟩, ⟨16, 8, .ro⟩], 0x0⟩,
   ⟨0xF00040100000, [(0x1000, 8)], [⟨0, 4, .ro⟩, ⟨4, 2, .ro⟩, ⟨8, 13, .ro⟩, ⟨24, 8, .ro⟩, ⟨32, 2, .ro⟩, ⟨34, 1, .ro⟩], 0x0⟩,
   ⟨0xF00040100008, [(0x1000, 8)], [⟨0, 1, .wo⟩, ⟨1, 1, .wo⟩, ⟨2, 1, .wo⟩, ⟨3, 1, .wo⟩, ⟨4, 1, .wo⟩, ⟨8, 4, .ro⟩], 0x0⟩,
   ⟨0xF00040100010, [(0x1000, 8)], [⟨0, 36, .rw⟩], 0x0⟩,
   ⟨0xF00040100018, [(0x1000, 8)], [⟨0, 36, .ro⟩], 0x0⟩,
   ⟨0xF00040100020, [(0x1000, 8)], [⟨0, 32, .rw⟩, ⟨32, 16, .rw⟩], 0x0⟩,
   ⟨0xF00040100028, [(0x1000, 8)], [⟨0, 32, .rc⟩, ⟨32, 32, .rc⟩], 0x0⟩,
   ⟨0xF00040100030, [(0x1000, 8)], [⟨0, 16, .rc⟩, ⟨16, 16, .rc⟩, ⟨32, 16, .rc⟩, ⟨48, 16, .rc⟩], 0x0⟩,
   ⟨0xF00040100100, [(0x1000, 8), (0x8, 32)], [⟨0, 64, .ro⟩], 0x0⟩]

/-- The registers of the PORT_ block. -/
def regsPORT : List RegDesc :=
  [⟨0xF00050000000, [], [⟨0, 2, .rw⟩, ⟨2, 1, .rw⟩, ⟨3, 1, .rw⟩, ⟨4, 1, .rw⟩, ⟨5, 1, .rw⟩], 0x1C⟩,
   ⟨0xF00050000008, [], [⟨0, 3, .ro⟩, ⟨3, 2, .ro⟩, ⟨5, 1, .ro⟩, ⟨8, 8, .ro⟩, ⟨16, 14, .ro⟩], 0x0⟩,
   ⟨0xF00050000010, [], [⟨0, 48, .rw⟩], 0x0⟩,
   ⟨0xF00050000018, [], [⟨0, 12, .rw⟩, ⟨12, 1, .rw⟩, ⟨13, 1, .rw⟩, ⟨16, 3, .rw⟩], 0x2000⟩,
   ⟨0xF00050000020, [], [⟨0, 24, .rw⟩, ⟨32, 24, .rw⟩], 0xFAC68800FAC688⟩,
   ⟨0xF00050000028, [], [⟨0, 7, .rw⟩, ⟨16, 16, .rw⟩], 0xFFFF0000⟩,
   ⟨0xF00050000100, [(0x8, 7)], [⟨0, 16, .rw⟩, ⟨16, 16, .rw⟩], 0x800100⟩,
   ⟨0xF00050000030, [], [⟨0, 32, .rc⟩, ⟨32, 32, .rc⟩], 0x0⟩,
   ⟨0xF00050000038, [], [⟨0, 32, .rw⟩], 0x10⟩,
   ⟨0xF00050000040, [], [⟨0, 13, .rc⟩, ⟨13, 13, .rc⟩, ⟨26, 13, .rc⟩, ⟨39, 13, .rc⟩, ⟨52, 12, .rc⟩], 0x0⟩,
   ⟨0xF00050000050, [], [⟨0, 8, .rw⟩, ⟨8, 2, .rw⟩, ⟨10, 1, .rw⟩, ⟨11, 1, .rw⟩, ⟨12, 1, .rw⟩, ⟨13, 1, .rw⟩], 0x0⟩,
   ⟨0xF00050000058, [], [⟨0, 32, .rw⟩, ⟨32, 32, .rw⟩], 0x0⟩] ++
  [⟨0xF00050000060, [], [⟨0, 1, .rw⟩, ⟨1, 1, .rw⟩, ⟨2, 2, .rw⟩, ⟨32, 32, .rw⟩], 0x0⟩,
   ⟨0xF00050000068, [], [⟨0, 64, .rw⟩], 0x0⟩,
   ⟨0xF00050000070, [], [⟨0, 32, .rc⟩, ⟨32, 16, .rc⟩, ⟨48, 16, .rc⟩], 0x0⟩,
   ⟨0xF00050000200, [(0x100, 2), (0x40, 4)], [⟨0, 64, .hid⟩], 0⟩,
   ⟨0xF00050000208, [(0x100, 2), (0x40, 4)], [⟨0, 64, .hid⟩], 0⟩,
   ⟨0xF00050000210, [(0x100, 2), (0x40, 4)], [⟨0, 64, .hid⟩], 0⟩,
   ⟨0xF00050000218, [(0x100, 2), (0x40, 4)], [⟨0, 64, .hid⟩], 0⟩,
   ⟨0xF00050000220, [(0x100, 2), (0x40, 4)], [⟨0, 64, .rw⟩], 0⟩,
   ⟨0xF00050000228, [(0x100, 2), (0x40, 4)], [⟨0, 64, .hid⟩], 0⟩,
   ⟨0xF00050000230, [(0x100, 2), (0x40, 4)], [⟨0, 64, .hid⟩], 0⟩,
   ⟨0xF00050000400, [(0x8, 8)], [⟨0, 6, .rw⟩, ⟨6, 6, .rw⟩, ⟨12, 1, .rw⟩, ⟨13, 1, .rw⟩], 0x0⟩]

/-- The registers of the SKO_ block. -/
def regsSKO : List RegDesc :=
  [⟨0xF00051000000, [], [⟨0, 1, .ro⟩, ⟨1, 2, .ro⟩, ⟨3, 2, .ro⟩, ⟨16, 16, .ro⟩, ⟨32, 17, .ro⟩], 0x0⟩,
   ⟨0xF00051000008, [], [⟨0, 17, .ro⟩, ⟨32, 9, .ro⟩], 0x0⟩,
   ⟨0xF00051000010, [], [⟨0, 5, .rw⟩, ⟨8, 2, .rw⟩, ⟨16, 16, .rw⟩, ⟨32, 4, .rw⟩, ⟨48, 16, .rw⟩], 0x7D0000800640310⟩,
   ⟨0xF00051000018, [], [⟨0, 16, .rw⟩, ⟨16, 8, .rw⟩, ⟨32, 16, .rw⟩, ⟨48, 16, .rw⟩], 0x4000004000400014⟩,
   ⟨0xF00051000020, [], [⟨0, 4, .rw⟩, ⟨8, 8, .rw⟩, ⟨16, 16, .rw⟩, ⟨32, 16, .rw⟩, ⟨48, 16, .rw⟩], 0x1000006407D01002⟩,
   ⟨0xF00051000028, [], [⟨0, 64, .rc⟩], 0x0⟩,
   ⟨0xF00051000030, [], [⟨0, 64, .rc⟩], 0x0⟩,
   ⟨0xF00051000038, [], [⟨0, 16, .rc⟩, ⟨16, 16, .rc⟩, ⟨32, 16, .rc⟩, ⟨48, 16, .rc⟩], 0x0⟩,
   ⟨0xF00051000040, [], [⟨0, 16, .rc⟩, ⟨16, 16, .rc⟩, ⟨32, 16, .rc⟩, ⟨48, 16, .rc⟩], 0x0⟩,
   ⟨0xF00051000048, [], [⟨0, 32, .rc⟩, ⟨32, 32, .rc⟩], 0x0⟩,
   ⟨0xF00051000050, [], [⟨0, 48, .rw⟩], 0x0⟩,
   ⟨0xF00051000058, [], [⟨0, 16, .rw⟩, ⟨16, 3, .rw⟩], 0x0⟩] ++
  [⟨0xF00051000060, [], [⟨0, 2, .ro⟩, ⟨8, 16, .ro⟩, ⟨32, 32, .ro⟩], 0x0⟩]

/-- The registers of the TS_ block. -/
def regsTS : List RegDesc :=
  [⟨0xF00052000000, [], [⟨0, 16, .rw⟩], 0x64⟩,
   ⟨0xF00052000008, [], [⟨0, 1, .ro⟩, ⟨1, 1, .ro⟩, ⟨2, 6, .ro⟩, ⟨8, 8, .ro⟩, ⟨16, 8, .ro⟩], 0x0⟩,
   ⟨0xF00052000010, [], [⟨0, 32, .rw⟩, ⟨32, 32, .rw⟩], 0x1000000030D40⟩,
   ⟨0xF00052000018, [], [⟨0, 32, .ro⟩, ⟨32, 16, .rc⟩], 0x0⟩,
   ⟨0xF00052000100, [(0x8, 8)], [⟨0, 20, .rw⟩, ⟨20, 20, .rw⟩, ⟨40, 16, .rw⟩], 0x4000800004000⟩,
   ⟨0xF00052000140, [(0x8, 8)], [⟨0, 32, .ro⟩, ⟨32, 16, .ro⟩], 0x0⟩,
   ⟨0xF00052000200, [], [⟨0, 48, .rw⟩], 0x0⟩,
   ⟨0xF00052000208, [], [⟨0, 1, .rw⟩, ⟨8, 5, .rw⟩, ⟨16, 16, .rw⟩], 0x800300⟩,
   ⟨0xF00052000210, [], [⟨0, 64, .ro⟩], 0x0⟩,
   ⟨0xF00052001000, [(0x8, 2)], [⟨0, 7, .rw⟩, ⟨16, 16, .rw⟩], 0x0⟩,
   ⟨0xF00052001100, [(0x200, 2), (0x8, 64)], [⟨0, 32, .rw⟩, ⟨32, 8, .rw⟩], 0x0⟩,
   ⟨0xF00052002000, [(0x20, 256), (0x10, 2)], [⟨0, 28, .rw⟩, ⟨32, 28, .rw⟩, ⟨63, 1, .rw⟩], 0x0⟩] ++
  [⟨0xF00052002008, [(0x20, 256), (0x10, 2)], [⟨0, 32, .rw⟩, ⟨32, 32, .rw⟩], 0x0⟩]

/-- The registers of the MOV_ block. -/
def regsMOV : List RegDesc :=
  [⟨0xF00060000000, [(0x8, 16)], [⟨0, 32, .rw⟩], 0x0⟩,
   ⟨0xF00060000080, [], [⟨0, 32, .rw⟩], 0x400⟩,
   ⟨0xF00060000100, [(0x8, 128)], [⟨0, 48, .rw⟩, ⟨63, 1, .rw⟩], 0x0⟩,
   ⟨0xF00060001000, [(0x40, 64)], [⟨0, 48, .rw⟩, ⟨48, 5, .rw⟩], 0x0⟩,
   ⟨0xF00060001008, [(0x40, 64)], [⟨0, 1, .rw⟩, ⟨16, 16, .rw⟩], 0x0⟩,
   ⟨0xF00060001010, [(0x40, 64)], [⟨0, 1, .wo⟩, ⟨1, 1, .wo⟩, ⟨2, 1, .wo⟩, ⟨3, 1, .wo⟩], 0x0⟩,
   ⟨0xF00060001018, [(0x40, 64)], [⟨0, 3, .ro⟩, ⟨16, 16, .ro⟩], 0x0⟩,
   ⟨0xF00060001020, [(0x40, 64)], [⟨0, 16, .ro⟩, ⟨16, 3, .ro⟩, ⟨24, 40, .ro⟩], 0x0⟩,
   ⟨0xF00060001028, [(0x40, 64)], [⟨0, 32, .rc⟩, ⟨32, 16, .rc⟩, ⟨48, 16, .rc⟩], 0x0⟩]

/-- The registers of the CHK_ block. -/
def regsCHK : List RegDesc :=
  [⟨0xF00061000000, [(0x80, 16)], [⟨0, 7, .rw⟩, ⟨8, 1, .rw⟩, ⟨9, 1, .rw⟩], 0x20⟩,
   ⟨0xF00061000008, [(0x80, 16)], [⟨0, 64, .rw⟩], 0x0⟩,
   ⟨0xF00061000010, [(0x80, 16)], [⟨0, 64, .rw⟩], 0x0⟩,
   ⟨0xF00061000018, [(0x80, 16)], [⟨0, 64, .rw⟩], 0x0⟩,
   ⟨0xF00061000020, [(0x80, 16)], [⟨0, 64, .rw⟩], 0x0⟩,
   ⟨0xF00061000040, [(0x80, 16)], [⟨0, 64, .rw⟩], 0x0⟩,
   ⟨0xF00061000028, [(0x80, 16)], [⟨0, 64, .wo⟩], 0x0⟩,
   ⟨0xF00061000030, [(0x80, 16)], [⟨0, 56, .wo⟩, ⟨56, 3, .wo⟩], 0x0⟩,
   ⟨0xF00061000038, [(0x80, 16)], [⟨0, 64, .ro⟩], 0x0⟩,
   ⟨0xF00061000048, [(0x80, 16)], [⟨0, 1, .wo⟩, ⟨1, 1, .wo⟩, ⟨2, 1, .w1c⟩, ⟨3, 1, .ro⟩, ⟨4, 6, .ro⟩, ⟨16, 16, .rc⟩, ⟨32, 16, .rc⟩], 0x0⟩,
   ⟨0xF00061000050, [(0x80, 16)], [⟨0, 64, .rw⟩], 0x0⟩]

/-- The registers of the PAR_ block. -/
def regsPAR : List RegDesc :=
  [⟨0xF00062000000, [], [⟨0, 48, .rw⟩, ⟨48, 5, .rw⟩], 0x0⟩,
   ⟨0xF00062000008, [], [⟨0, 1, .rw⟩], 0x0⟩,
   ⟨0xF00062000010, [], [⟨0, 1, .wo⟩, ⟨1, 1, .wo⟩], 0x0⟩,
   ⟨0xF00062000018, [], [⟨0, 2, .ro⟩, ⟨2, 2, .ro⟩], 0x0⟩,
   ⟨0xF00062000020, [], [⟨0, 16, .ro⟩, ⟨16, 1, .ro⟩, ⟨24, 40, .ro⟩], 0x0⟩,
   ⟨0xF00062000028, [], [⟨0, 32, .rc⟩, ⟨32, 16, .rc⟩], 0x0⟩]

/-- The registers of the LS_ block. -/
def regsLS : List RegDesc :=
  [⟨0xF00070000000, [], [⟨0, 5, .rw⟩, ⟨16, 16, .rw⟩], 0x300001⟩,
   ⟨0xF00070000008, [], [⟨0, 16, .ro⟩, ⟨16, 7, .ro⟩], 0x0⟩,
   ⟨0xF00070000010, [], [⟨0, 32, .rc⟩, ⟨32, 32, .rc⟩], 0x0⟩,
   ⟨0xF00070000018, [], [⟨0, 16, .rc⟩, ⟨16, 16, .rc⟩, ⟨32, 16, .rc⟩, ⟨48, 16, .rc⟩], 0x0⟩,
   ⟨0xF00070000020, [], [⟨0, 16, .rw⟩, ⟨16, 3, .rw⟩, ⟨19, 1, .rw⟩, ⟨32, 16, .rw⟩], 0x0⟩,
   ⟨0xF00070000028, [], [⟨0, 32, .rc⟩, ⟨32, 32, .rc⟩], 0x0⟩,
   ⟨0xF00070000030, [], [⟨0, 32, .rc⟩], 0x0⟩,
   ⟨0xF00070001000, [(0x10, 64)], [⟨0, 48, .rw⟩], 0x0⟩,
   ⟨0xF00070001008, [(0x10, 64)], [⟨0, 1, .rw⟩, ⟨4, 2, .ro⟩, ⟨8, 8, .ro⟩], 0x0⟩]

/-- The registers of the WLK_ block. -/
def regsWLK : List RegDesc :=
  [⟨0xF00070800000, [], [⟨0, 4, .rw⟩, ⟨16, 4, .rw⟩], 0x40008⟩,
   ⟨0xF00070800008, [], [⟨0, 6, .ro⟩, ⟨8, 6, .ro⟩], 0x0⟩,
   ⟨0xF00070800010, [], [⟨0, 64, .rc⟩], 0x0⟩,
   ⟨0xF00070800018, [], [⟨0, 32, .rc⟩, ⟨32, 32, .rc⟩], 0x0⟩,
   ⟨0xF00070800020, [], [⟨0, 16, .rc⟩, ⟨16, 16, .rc⟩, ⟨32, 16, .rc⟩, ⟨48, 16, .rc⟩], 0x0⟩,
   ⟨0xF00070801000, [(0x10, 64)], [⟨0, 48, .rw⟩], 0x0⟩,
   ⟨0xF00070801008, [(0x10, 64)], [⟨0, 1, .rw⟩, ⟨4, 2, .ro⟩, ⟨8, 8, .ro⟩], 0x0⟩,
   ⟨0xF00070802000, [(0x8, 48)], [⟨0, 2, .ro⟩, ⟨8, 6, .ro⟩, ⟨16, 16, .ro⟩, ⟨32, 32, .ro⟩], 0x0⟩]

/-- The registers of the SEL_ block. -/
def regsSEL : List RegDesc :=
  [⟨0xF00071000000, [], [⟨0, 8, .rw⟩, ⟨16, 32, .rw⟩], 0x10000001⟩,
   ⟨0xF00071000008, [], [⟨0, 48, .rw⟩], 0x0⟩,
   ⟨0xF00071000010, [], [⟨0, 13, .rw⟩, ⟨16, 4, .rw⟩], 0x0⟩,
   ⟨0xF00071000018, [], [⟨0, 13, .ro⟩], 0x0⟩,
   ⟨0xF00071000020, [], [⟨0, 32, .rc⟩, ⟨32, 32, .rc⟩], 0x0⟩,
   ⟨0xF00071000028, [], [⟨0, 16, .rc⟩, ⟨16, 16, .rc⟩, ⟨32, 16, .rc⟩, ⟨48, 16, .rc⟩], 0x0⟩,
   ⟨0xF00071000030, [], [⟨0, 32, .rc⟩, ⟨32, 32, .rc⟩], 0x0⟩,
   ⟨0xF00071000038, [], [⟨0, 12, .rw⟩], 0x0⟩,
   ⟨0xF00071000040, [], [⟨0, 2, .ro⟩, ⟨16, 11, .ro⟩, ⟨32, 32, .ro⟩], 0x0⟩,
   ⟨0xF00071001000, [(0x8, 256)], [⟨0, 48, .rw⟩], 0x0⟩]

/-- The registers of the TBL_ block. -/
def regsTBL : List RegDesc :=
  [⟨0xF00072000000, [], [⟨0, 9, .ro⟩, ⟨16, 5, .ro⟩], 0x0⟩,
   ⟨0xF00072000008, [], [⟨0, 32, .rc⟩, ⟨32, 32, .rc⟩], 0x0⟩,
   ⟨0xF00072000010, [], [⟨0, 16, .rc⟩, ⟨16, 16, .rc⟩, ⟨32, 16, .rc⟩, ⟨48, 16, .rc⟩], 0x0⟩,
   ⟨0xF00072001000, [(0x20, 256)], [⟨0, 48, .rw⟩], 0x0⟩,
   ⟨0xF00072001008, [(0x20, 256)], [⟨0, 1, .rw⟩, ⟨4, 2, .ro⟩, ⟨8, 8, .ro⟩], 0x0⟩,
   ⟨0xF00072001010, [(0x20, 256)], [⟨0, 32, .ro⟩, ⟨32, 9, .ro⟩, ⟨48, 1, .ro⟩], 0x0⟩,
   ⟨0xF00072001018, [(0x20, 256)], [⟨0, 32, .ro⟩, ⟨32, 3, .ro⟩], 0x0⟩]

/-- The registers of the TXT_ block. -/
def regsTXT : List RegDesc :=
  [⟨0xF00073000000, [], [⟨0, 32, .rw⟩], 0x10000⟩,
   ⟨0xF00073000008, [], [⟨0, 13, .ro⟩, ⟨16, 13, .ro⟩], 0x0⟩,
   ⟨0xF00073000010, [], [⟨0, 32, .rc⟩, ⟨32, 32, .rc⟩], 0x0⟩,
   ⟨0xF00073000018, [], [⟨0, 16, .rc⟩, ⟨16, 16, .rc⟩, ⟨32, 16, .rc⟩, ⟨48, 16, .rc⟩], 0x0⟩,
   ⟨0xF00073000100, [(0x8, 4)], [⟨0, 64, .rw⟩], 0x0⟩,
   ⟨0xF00073001000, [(0x10, 16)], [⟨0, 48, .rw⟩], 0x0⟩,
   ⟨0xF00073001008, [(0x10, 16)], [⟨0, 1, .rw⟩, ⟨4, 2, .ro⟩, ⟨8, 8, .ro⟩], 0x0⟩,
   ⟨0xF00073008000, [(0x8, 4096)], [⟨0, 2, .ro⟩, ⟨2, 2, .ro⟩, ⟨4, 4, .ro⟩, ⟨8, 1, .ro⟩, ⟨9, 7, .ro⟩, ⟨16, 16, .ro⟩, ⟨32, 16, .ro⟩, ⟨48, 16, .ro⟩], 0x0⟩]

/-- The registers of the TEL_ block. -/
def regsTEL : List RegDesc :=
  [⟨0xF00080000000, [], [⟨0, 1, .wo⟩, ⟨1, 1, .rw⟩], 0x0⟩,
   ⟨0xF00080000008, [], [⟨0, 32, .rw⟩], 0x7D0⟩,
   ⟨0xF00080001000, [(0x80, 256), (0x8, 16)], [⟨0, 64, .ro⟩], 0x0⟩,
   ⟨0xF00080010000, [(0x20, 1024)], [⟨0, 16, .rw⟩, ⟨16, 8, .rw⟩, ⟨24, 1, .rw⟩, ⟨31, 1, .rw⟩], 0x0⟩,
   ⟨0xF00080010008, [(0x20, 1024)], [⟨0, 32, .ro⟩, ⟨32, 32, .ro⟩], 0x0⟩,
   ⟨0xF00080010010, [(0x20, 1024)], [⟨0, 64, .ro⟩], 0x0⟩,
   ⟨0xF00080010018, [(0x20, 1024)], [⟨0, 32, .rc⟩], 0x0⟩]

/-- The registers of the EVT_ block. -/
def regsEVT : List RegDesc :=
  [⟨0xF00090000000, [], [⟨0, 32, .ro⟩, ⟨32, 16, .rc⟩, ⟨48, 16, .rc⟩], 0x0⟩,
   ⟨0xF00090000008, [], [⟨0, 3, .rw⟩], 0x6⟩,
   ⟨0xF00090000010, [(0x8, 4)], [⟨0, 16, .rw⟩, ⟨16, 2, .rw⟩, ⟨31, 1, .rw⟩], 0x0⟩,
   ⟨0xF00090010000, [(0x40, 4096), (0x8, 8)], [⟨0, 64, .ro⟩], 0x0⟩,
   ⟨0xF00090000100, [(0x10, 16)], [⟨0, 4, .rw⟩, ⟨16, 16, .rw⟩, ⟨32, 32, .rw⟩], 0x0⟩,
   ⟨0xF00090000108, [(0x10, 16)], [⟨0, 16, .rw⟩, ⟨16, 8, .rw⟩, ⟨24, 1, .rw⟩, ⟨48, 16, .rw⟩], 0x0⟩,
   ⟨0xF00090000200, [], [⟨0, 16, .ro⟩, ⟨32, 32, .rc⟩], 0x0⟩]

/-- Every register that has a reset value other than 0: (first offset, strides and counts, value). -/
def resetTable : List (Nat × List (Nat × Nat) × Nat) :=
  [(0xF00000000000, [], 0x141020C),
   (0xF00001000020, [], 0x7D0008003E800FA),
   (0xF00001000028, [], 0x32000003E8),
   (0xF00002000040, [], 0x100),
   (0xF000A0000020, [(0x100000, 672)], 0x100000000400),
   (0xF00020000000, [(0x1000000, 12)], 0x1),
   (0xF00020000018, [(0x1000000, 12)], 0x18),
   (0xF00020000030, [(0x1000000, 12)], 0x400),
   (0xF00020100000, [(0x1000000, 12), (0x100, 256)], 0x1),
   (0xF00030000000, [], 0x108040000000000),
   (0xF00030000008, [], 0x4002000800000400),
   (0xF00030000010, [], 0x10000000000),
   (0xF00070000000, [], 0x300001),
   (0xF00070800000, [], 0x40008),
   (0xF00071000000, [], 0x10000001),
   (0xF00073000000, [], 0x10000),
   (0xF00040000000, [], 0x3E8000600180040),
   (0xF00040000008, [], 0x10000001E000),
   (0xF00050000000, [], 0x1C),
   (0xF00050000018, [], 0x2000),
   (0xF00050000020, [], 0xFAC68800FAC688),
   (0xF00050000028, [], 0xFFFF0000),
   (0xF00050000100, [(0x8, 7)], 0x800100),
   (0xF00050000038, [], 0x10),
   (0xF00051000010, [], 0x7D0000800640310),
   (0xF00051000018, [], 0x4000004000400014),
   (0xF00051000020, [], 0x1000006407D01002),
   (0xF00052000000, [], 0x64),
   (0xF00052000010, [], 0x1000000030D40),
   (0xF00052000100, [(0x8, 8)], 0x4000800004000),
   (0xF00052000208, [], 0x800300),
   (0xF00080000008, [], 0x7D0),
   (0xF00060000080, [], 0x400),
   (0xF00061000000, [(0x80, 16)], 0x20),
   (0xF00000000108, [], 0x600010000),
   (0xF00090000008, [], 0x6),
   (0xF00000000310, [], 0x80672),
   (0xF00000000320, [], 0x5F55695F)]

/-- Whether a distance from a register's first offset is one of its copies, largest stride first. -/
def dimsHit : List (Nat × Nat) → Nat → Bool
  | [], d => d == 0
  | (st, n) :: r, d => decide (d / st < n) && dimsHit r (d % st)

/-- Whether the offset names a copy of the register. -/
def RegDesc.hit (r : RegDesc) (off : Nat) : Bool := decide (r.base ≤ off) && dimsHit r.dims (off - r.base)

/-- The reset value of the register at an offset (R19, R475). -/
def regReset (off : Nat) : Word :=
  match resetTable.find? (fun e => decide (e.1 ≤ off) && dimsHit e.2.1 (off - e.1)) with
  | some e => BitVec.ofNat 64 e.2.2
  | none => 0

/-- The register blocks: first offset, last offset, registers. Within 0xF000_2000_0000 to 0xF000_3000_11F7 the STK_, INL_
and TIER_ registers win (R527). -/
def blockTable : List (Nat × Nat × List RegDesc) :=
  [(0xF00000000000, 0xF000000004FF, regsNCTL), (0xF00001000000, 0xF00001002FFF, regsBEAT),
   (0xF00002000000, 0xF000020011FF, regsIMG), (0xF00003000000, 0xF0000300033F, regsSEC),
   (0xF00020000000, 0xF0002BFFFFFF, regsSTK), (0xF00030000000, 0xF000300011FF, regsTIER),
   (0xF00040000000, 0xF00040107FFF, regsFL), (0xF00050000000, 0xF0005000043F, regsPORT),
   (0xF00051000000, 0xF00051000067, regsSKO), (0xF00052000000, 0xF00052003FFF, regsTS),
   (0xF00060000000, 0xF00060001FFF, regsMOV), (0xF00061000000, 0xF000610007FF, regsCHK),
   (0xF00062000000, 0xF0006200002F, regsPAR), (0xF00070000000, 0xF000700013FF, regsLS),
   (0xF00070800000, 0xF0007080217F, regsWLK), (0xF00071000000, 0xF000710017FF, regsSEL),
   (0xF00072000000, 0xF00072002FFF, regsTBL), (0xF00073000000, 0xF0007300FFFF, regsTXT),
   (0xF00080000000, 0xF00080017FFF, regsTEL), (0xF00090000000, 0xF0009004FFFF, regsEVT),
   (0xF000A0000000, 0xF000C9FFFFFF, regsTILE)]

/-- The register at an offset of the store, with its descriptor. -/
def findReg (off : Nat) : Option RegDesc :=
  blockTable.findSome? fun b =>
    if b.1 ≤ off ∧ off ≤ b.2.1 then b.2.2.find? (fun r => r.hit off) else none

/-- The listed ranges of R526 inside one instance of a block. -/
def inRanges (rs : List (Nat × Nat)) (o : Nat) : Bool := rs.any fun r => decide (r.1 ≤ o) && decide (o ≤ r.2)

/-- The offset ranges of a tile's registers (R526). -/
def tileRanges : List (Nat × Nat) :=
  [(0, 0x27), (0x100, 0x1BF), (0x200, 0x21F), (0x400, 0x40F), (0x800, 0x80F), (0x10000, 0x1FFFF)]

/-- R526: whether an offset lies in a listed range of a block: (base, instances, stride, ranges). -/
def rangeTable : List (Nat × Nat × Nat × List (Nat × Nat)) :=
  [(0xF00000000000, 1, 0, [(0, 7), (0x100, 0x13F), (0x200, 0x27F), (0x300, 0x32F), (0x400, 0x46F)]),
   (0xF00001000000, 1, 0, [(0, 0x3F), (0x1000, 0x2FFF)]),
   (0xF00002000000, 1, 0, [(0, 0x47), (0x1000, 0x11FF)]),
   (0xF00003000000, 1, 0, [(0, 0x27), (0x40, 0x7F), (0x100, 0x237), (0x300, 0x33F)]),
   (0xF00010000000, 672, 0x100000, tileRanges),
   (0xF00020000000, 12, 0x1000000, [(0, 0x37), (0x100000, 0x10FF17)]),
   (0xF00030000000, 1, 0, [(0, 0x3F), (0x100, 0x15F), (0x200, 0x27F), (0x1000, 0x11F7)]),
   (0xF00040000000, 1, 0, [(0, 0x17)]),
   (0xF00040100000, 8, 0x1000, [(0, 0x37), (0x100, 0x1FF)]),
   (0xF00050000000, 1, 0, [(0, 0x77), (0x100, 0x137), (0x200, 0x43F)]),
   (0xF00051000000, 1, 0, [(0, 0x67)]),
   (0xF00052000000, 1, 0, [(0, 0x1F), (0x100, 0x17F), (0x200, 0x217), (0x1000, 0x100F), (0x1100, 0x14FF), (0x2000, 0x3FFF)]),
   (0xF00060000000, 1, 0, [(0, 0x87), (0x100, 0x4FF), (0x1000, 0x1FFF)]),
   (0xF00061000000, 16, 0x80, [(0, 0x57)]),
   (0xF00062000000, 1, 0, [(0, 0x2F)]),
   (0xF00070000000, 1, 0, [(0, 0x37), (0x1000, 0x13FF)]),
   (0xF00070800000, 1, 0, [(0, 0x27), (0x1000, 0x13FF), (0x2000, 0x217F)]),
   (0xF00071000000, 1, 0, [(0, 0x47), (0x1000, 0x17FF)]),
   (0xF00072000000, 1, 0, [(0, 0x17), (0x1000, 0x2FFF)]),
   (0xF00073000000, 1, 0, [(0, 0x1F), (0x100, 0x11F), (0x1000, 0x10FF), (0x8000, 0xFFFF)]),
   (0xF00080000000, 1, 0, [(0, 0xF), (0x1000, 0x8FFF), (0x10000, 0x17FFF)]),
   (0xF00090000000, 1, 0, [(0, 0x2F), (0x100, 0x207), (0x10000, 0x4FFFF)]),
   (0xF000A0000000, 672, 0x100000, tileRanges)]

/-- Whether a control offset lies inside a listed range (R526). -/
def inControlRange (off : Nat) : Bool :=
  rangeTable.any fun e =>
    decide (e.1 ≤ off) &&
      (if e.2.2.1 = 0 then inRanges e.2.2.2 (off - e.1)
       else decide ((off - e.1) / e.2.2.1 < e.2.1) && inRanges e.2.2.2 ((off - e.1) % e.2.2.1))

/-- R527, R528: the offset under which the register that an access at `off` reaches is held: a direct tile offset that no
STK_, INL_ or TIER_ register takes is held at its alias. -/
def canonOff (off : Nat) : Nat :=
  if 0xF00010000000 ≤ off ∧ off < 0xF00010000000 + 672 * 0x100000 then
    match findReg off with
    | some _ => off
    | none => off + 0x90000000
  else off

end Sys2Proof.Machine
end

