-- ==== Sys2Proof/Machine/State.lean ====
section
/-! DEFINITION. The machine's state, its stops, and the state right after reset. -/

namespace Sys2Proof.Machine

/-- Why a run stops. -/
inductive Fault where
  /-- Raised by every command that names a unit, slot or index the part does not have (a term that is not well formed).
  Safe: the machine stops where the hardware could not have been given the command. -/
  | noSuchUnit
deriving DecidableEq, Repr

/-- Why a command is refused. -/
inductive Refusal where
  /-- Raised only by the dispatch, for a command that has no meaning yet. Safe. -/
  | notModelled (mnemonic : String)
deriving DecidableEq, Repr

/-- The node. Registers stand in one sparse store by offset, memory in one sparse store by node offset; what is neither stands
in a record of its unit. `ecc` marks memory words by their first byte: 1 a correctable error, 2 an uncorrectable one not yet
found, 3 poison (R124, R167, R168). -/
structure State where
  pending : List Instr
  now : Nat
  freeCtr : Nat
  mem : List Host.Cell
  regs : SMap Word
  ecc : SMap Nat
  evt : EvtSt
  beat : BeatSt
  sko : SkoSt
  ts : TsSt
  tel : TelSt
  port : PortSt
  rings : SMap RingSt
  tiles : SMap TileSt
  img : ImgSt
  inl : SMap InlSt
  stk : SMap StkSt
  tier : TierSt
  fl : SMap CarrierSt
  work : List WorkMsg
  fails : List WorkFail
  sel : SelSt
  ls : LsSt
  gw : GwSt
  tbl : TblSt
  txt : TxtSt
  sec : SecSt
  mov : MovSt
  epochs : SealSt
  ctl : CtlSt
deriving DecidableEq, Repr

/-- What a byte of memory that nothing has written reads as: memory is zeroed when the node is reset (R475, R511).
Assumption log: 10 (DESIGN CHOICE). -/
def memDefault (_ : Nat) : Byte := 0

/-- The node right after reset (R19, R475): every register at its reset value, memory zero, every queue empty.
Assumption log: 9 (DESIGN CHOICE). -/
def State.reset : State :=
  { pending := [], now := 0, freeCtr := 0, mem := [], regs := [], ecc := [],
    evt := {}, beat := {}, sko := {}, ts := {}, tel := {}, port := {}, rings := [], tiles := [], img := {},
    inl := [], stk := [], tier := {}, fl := [], work := [], fails := [],
    sel := {}, ls := {}, gw := {}, tbl := {}, txt := {}, sec := {}, mov := {}, epochs := {}, ctl := {} }

/-- What a command answers. -/
abbrev Res := Host.Outcome State Fault Refusal

end Sys2Proof.Machine
end

