-- ==== Sys2Proof/Machine/Ops.lean ====
section
/-! DEFINITION. The named operations over the state's stores: registers, memory bytes, free values, time. -/

namespace Sys2Proof.Machine

/-- A command on a unit that the part has; one that names no unit stops.
Assumption log: 4 (DESIGN CHOICE), 5 (DESIGN CHOICE). -/
def onUnit (ok : Bool) (s : State) : Res := if ok then .next s else .fault .noSuchUnit

/-- Whether the node is held in reset, or its clocks have stopped (R504, R506).
Assumption log: 160 (DEDUCED). -/
def State.dead (s : State) : Bool := s.ctl.boot.stopped || s.ctl.boot.low

/-! Registers. -/

/-- The value held in the register at an offset of the store. -/
def State.reg (s : State) (off : Nat) : Word := smGet regReset s.regs off

/-- The register at an offset of the store, replaced. -/
def State.setReg (s : State) (off : Nat) (v : Word) : State := { s with regs := smPut regReset s.regs off v }

/-- A field of a register. -/
def State.get (s : State) (f : RegField) : Nat := bitsAt (s.reg f.off).toNat f.lo f.w

/-- A field of a register, replaced (modulo its width). -/
def State.set (s : State) (f : RegField) (v : Nat) : State :=
  s.setReg f.off (BitVec.ofNat 64 (setBitsAt (s.reg f.off).toNat f.lo f.w v))

/-- A counter field, increased; it holds at its largest value. -/
def State.bump (s : State) (f : RegField) (n : Nat) : State := s.set f (satAdd f.w (s.get f) n)

/-- A one-bit field read as a Boolean. -/
def State.bit (s : State) (f : RegField) : Bool := s.get f == 1

/-- A one-bit field set or cleared. -/
def State.setBit (s : State) (f : RegField) (b : Bool) : State := s.set f (if b then 1 else 0)

/-! Free values. -/

/-- The next free value.
Assumption log: 8 (DESIGN CHOICE). -/
def State.free (s : State) : Nat := Config.freeValue s.freeCtr

/-- The state after a free value has been taken.
Assumption log: 8 (DESIGN CHOICE). -/
def State.nextFree (s : State) : State := { s with freeCtr := s.freeCtr + 1 }

/-! Memory. -/

/-- One byte of memory.
Assumption log: 10 (DESIGN CHOICE). -/
def State.byte (s : State) (a : Nat) : Byte := smGet memDefault s.mem a

/-- One byte of memory, written. -/
def State.putByte (s : State) (a : Nat) (b : Byte) : State := { s with mem := smPut memDefault s.mem a b }

/-- `n` bytes from an offset upwards. -/
def State.bytes (s : State) (a : Nat) : Nat → List Byte
  | 0 => []
  | n + 1 => s.byte a :: s.bytes (a + 1) n

/-- Bytes written from an offset upwards. -/
def State.putBytes (s : State) (a : Nat) : List Byte → State
  | [] => s
  | b :: r => (s.putByte a b).putBytes (a + 1) r

/-- A little-endian number of `n` bytes (R12). -/
def State.num (s : State) (a n : Nat) : Nat := leNat (s.bytes a n)

/-- A number of `n` bytes written in little-endian order (R12). -/
def State.putNum (s : State) (a n v : Nat) : State := s.putBytes a (leBytes n v)

/-- The stored form of a memory as a list is its canonical form.
Assumption log: 10 (DESIGN CHOICE). -/
abbrev Memory.wf (m : List Host.Cell) : Prop := smWf memDefault m = true

/-- A number of bytes written as zeros. -/
def State.zeroBytes (s : State) (a n : Nat) : State :=
  { s with mem := s.mem.filter fun c => decide (c.1 < a) || decide (a + n ≤ c.1) }

/-! Fields of byte strings. -/

/-- The number of `n` bytes at a byte offset of a string; missing bytes count as 0. -/
def at_ (b : List Byte) (off n : Nat) : Nat := leNat ((b.drop off).take n)

/-- A byte string of `n` zeros. -/
def zeros (n : Nat) : List Byte := List.replicate n 0

/-- A byte string cut or zero-padded to `n` bytes. -/
def padTo (n : Nat) (b : List Byte) : List Byte := (b ++ zeros (n - b.length)).take n

/-! Time (R37, R38, R532). -/

/-- Beats in the count (R38). -/
def beatMod : Nat := 2 ^ 48

/-- Beat `a` is after beat `b`, in serial arithmetic (R38). -/
def beatAfter (a b : Nat) : Bool :=
  let d := (a + beatMod - b % beatMod) % beatMod
  decide (1 ≤ d) && decide (d ≤ 2 ^ 47 - 1)

/-- The current beat; 0 while the beat is not valid (R56). -/
def State.beatNow (s : State) : Nat := if s.beat.valid then s.beat.beat else 0

/-- Nanoseconds into the beat (R37); 0 while the beat is not valid. -/
def State.phase (s : State) : Nat := if s.beat.valid then s.beat.t % 8192 else 0

/-- The local time of the boundary of the next beat that the count takes; while the count holds, after a step back, local time
runs on through the beats that it passes again (R38, R47). -/
def State.nextLocal (s : State) : Nat :=
  let k := s.beat.t / 8192 + 1
  (k + ((s.beat.beat + 1) % beatMod + beatMod - k % beatMod) % beatMod) * 8192

/-- Real time moves on to an instant that a completion or a time-out has reached; local time moves with it but stays below
the boundary of the next beat, which is a command of its own.
Assumption log: 2 (DESIGN CHOICE), 7 (DESIGN CHOICE). -/
def State.reach (s : State) (due : Nat) : State :=
  if due ≤ s.now then s
  else
    { s with now := due,
             beat := if s.beat.valid && !s.dead then { s.beat with t := min (s.beat.t + (due - s.now)) (s.nextLocal - 1) } else s.beat }

/-- A duration given in beats, in ns of real time (R532).
Assumption log: 7 (DESIGN CHOICE). -/
def beatsNs (n : Nat) : Nat := n * 8192

/-- Whether a deadline beat has passed; 0 is no deadline (R144). -/
def State.deadlinePassed (s : State) (d : Nat) : Bool := d != 0 && s.beat.valid && beatAfter s.beat.beat d

/-- The map epoch that is current (R83). -/
def State.mapEpoch (s : State) : Nat := s.get F.IMG_MAP_CURRENT

/-- This node's number. -/
def State.node (s : State) : Nat := s.sko.recd.node

end Sys2Proof.Machine
end

