-- ==== Sys2Proof/Machine/Transport.lean ====
section
/-! DEFINITION. The sending side that every unit uses: packets, connections and the egress queues (R376, R378, R381, R387 to
R389, R406), Haldio envelopes (R398), events (R467 to R471). -/

namespace Sys2Proof.Machine

/-! Frames. -/

/-- Data bytes that one packet carries (R378). -/
def State.pktData (s : State) : Nat := 1024 * 2 ^ s.get F.SKO_STATUS_PKT_DATA_EFF

/-- Header bytes before the Skorath header, C-tag included (R376, R364). -/
def State.headBytes (s : State) : Nat :=
  (match s.sko.recd.mode with | 0 => 62 | 1 => 42 | _ => 14) + (if s.bit F.PORT_VLAN_TAGGED then 4 else 0)

/-- SecTAG and ICV with MACsec on (R363). -/
def State.secBytes (s : State) : Nat := if s.bit F.PORT_SEC_CFG_EN then 32 else 0

/-- The wire bytes of a frame with `n` bytes of Skorath header and data (R407): headers, FCS, MACsec, 20 bytes of preamble and
gap; a frame is at least 64 bytes long (R363). -/
def State.wireOf (s : State) (n : Nat) : Nat := max 64 (s.headBytes + n + 4 + s.secBytes) + 20

/-- The bytes queued for a class (R406, R407). -/
def State.queued (s : State) (c : Nat) : Nat := ((smGet (fun _ => []) s.ts.queue c).map QFrame.wire).sum

/-- Whether the queue of a class has room for a frame (R406). -/
def State.queueRoom (s : State) (c wire : Nat) : Bool :=
  decide (s.queued c + wire ≤ s.get (F.TS_Q_CFG_LIMIT_KIB c) * 1024)

/-- A frame enters the egress queue of its class (R406); the sampler keeps the largest depth (R422). -/
def State.enqueue (s : State) (c : Nat) (body : TxBody) (wire : Nat) : State :=
  let q := smGet (fun _ => []) s.ts.queue c
  let d := s.queued c + wire
  let sm := smGet (fun _ => {}) s.ts.sample c
  { s with ts := { s.ts with
      queue := smPut (fun _ => []) s.ts.queue c (q ++ [⟨body, wire, s.now, d⟩]),
      sample := smPut (fun _ => {}) s.ts.sample c { sm with maxDepth := max sm.maxDepth d } } }

/-! Connections. -/

/-- The key of a connection: peer and class (R381). -/
def connKey (peer cls : Nat) : Nat := peer * 8 + cls

/-- The port rate in Mb/s (R389, R357). -/
def State.portRate (s : State) : Nat := if s.get F.PORT_STATUS_SPEED == 1 then 800000 else 1600000

/-- A new sending end (R381, R385, R387, R389). -/
def State.newConn (s : State) : TxConn :=
  { rate := s.portRate, rto := s.get F.SKO_CFG_RTO_US * 1000, incBeat := s.beatNow, lastAct := s.now }

/-- The sending end of a connection, new if none is held. -/
def State.txConn (s : State) (k : Nat) : TxConn :=
  match s.sko.tx.find? (fun e => e.1 == k) with
  | some e => e.2
  | none => s.newConn

/-- Connections held, both ends (R405). -/
def State.countConns (s : State) : State :=
  s.set F.SKO_STATUS_CONNS (min (s.sko.tx.length + s.sko.rx.length) 65536)

/-- A sending end stored. -/
def putConn : SMap TxConn → Nat → TxConn → SMap TxConn
  | [], k, c => [(k, c)]
  | (j, d) :: r, k, c =>
    if k < j then (k, c) :: (j, d) :: r else if k = j then (k, c) :: r else (j, d) :: putConn r k c

/-- A sending end stored in the engine. -/
def State.setConn (s : State) (k : Nat) (c : TxConn) : State :=
  { s with sko := { s.sko with tx := putConn s.sko.tx k c } }

/-- Data bytes sent and not acknowledged (R387). -/
def TxConn.inFlight (c : TxConn) : Nat := (c.unacked.map (fun p => p.pkt.data.length)).sum

/-- The next path in the rotation that is not penalised; all paths when every one is (R388). -/
def TxConn.pickPath (c : TxConn) (now paths : Nat) : Nat :=
  let cand := (rangeFrom c.path paths).map (· % paths)
  match cand.find? (fun p => decide (smGet (fun _ => 0) c.penal p ≤ now)) with
  | some p => p
  | none => c.path % paths

/-- The paths in use: one in raw mode (R388). -/
def State.paths (s : State) : Nat := if s.sko.recd.mode ≥ 2 then 1 else s.sko.paths

/-- Nanoseconds that a packet takes at a rate in Mb/s, rounded up (R389). -/
def paceNs (bytes rate : Nat) : Nat := if rate = 0 then 0 else (bytes * 8000 + rate - 1) / rate

/-- One packet of a connection handed to the traffic unit: it takes the next path, and holds the connection for the time the
packet takes at the rate R (R388, R389).
Assumption log: 191 (DESIGN CHOICE). -/
def State.releaseOne (s : State) (k : Nat) (c : TxConn) (p : Packet) (rest : List Packet) : State :=
  let path := c.pickPath s.now s.paths
  let p' := { p with path := path }
  let wire := s.wireOf (64 + p.data.length)
  let c' := { c with waiting := rest, unacked := c.unacked ++ [⟨p', s.now⟩], path := (path + 1) % s.paths,
                     nextAt := s.now + paceNs wire c.rate, lastAct := s.now }
  let s := ((s.setConn k c').enqueue p.cls (.pkt p') wire).bump F.SKO_CNT_TX_PACKETS 1
  if p.retx then s.bump F.SKO_CNT_REL_RETX 1 else s

/-- Whether the next packet of a connection may go: window (R387), rate (R389), no wait after NAK_RNR (R400), room (R406).
Assumption log: 191 (DESIGN CHOICE). -/
def State.mayRelease (s : State) (c : TxConn) (p : Packet) : Bool :=
  !c.rnrHold && decide (c.nextAt ≤ s.now) &&
    (c.unacked.isEmpty || decide (c.inFlight + p.data.length ≤ c.window)) &&
    s.queueRoom p.cls (s.wireOf (64 + p.data.length))

/-- ACKs and CNPs of a class that waited for room in its queue enter it (R406).
Assumption log: 194 (DESIGN CHOICE). -/
def State.flushCtl (s : State) (c : Nat) : List (Nat × TxBody) → State
  | [] => s
  | e :: r =>
    if e.1 = c ∧ s.queueRoom c (s.wireOf 64) then (s.enqueue c e.2 (s.wireOf 64)).flushCtl c r
    else { s with sko := { s.sko with ctl := s.sko.ctl ++ [e] } }.flushCtl c r

/-- What waits of a class is tried again, in order.
Assumption log: 194 (DESIGN CHOICE). -/
def State.pumpCtl (s : State) (c : Nat) : State :=
  if s.sko.ctl.isEmpty then s else { s with sko := { s.sko with ctl := [] } }.flushCtl c s.sko.ctl

/-- An ACK or a CNP handed to the traffic unit in a class.
Assumption log: 194 (DESIGN CHOICE). -/
def State.sendCtl (s : State) (c : Nat) (b : TxBody) : State :=
  (State.pumpCtl { s with sko := { s.sko with ctl := s.sko.ctl ++ [(c, b)] } } c).bump F.SKO_CNT_TX_PACKETS 1

/-- What a connection may send now is handed to the traffic unit (R387, R389). -/
def State.pump (s : State) (k : Nat) : State :=
  let c := s.txConn k
  match c.waiting with
  | [] => s
  | p :: rest => if s.mayRelease c p then s.releaseOne k c p rest else s

/-- The packets of an operation: data cut into PKT_DATA pieces, FIRST and LAST set (R378 to R380). -/
def cutPackets (hd : Packet) (sz : Nat) : Nat → Nat → List Byte → List Packet
  | 0, _, _ => []
  | fuel + 1, pos, d =>
    let piece := d.take sz
    let rest := d.drop sz
    { hd with data := piece, pos := pos, first := pos == 0, last := rest.isEmpty } ::
      (if rest.isEmpty then [] else cutPackets hd sz fuel (pos + sz) rest)

/-- Sequence numbers given to packets in order; the first packet of a connection carries SYN (R381, R386). -/
def numberPackets : Nat → List Packet → List Packet
  | _, [] => []
  | n, p :: r => { p with psn := n, syn := n == 0 } :: numberPackets ((n + 1) % 2 ^ 32) r

/-- The packets of an operation join their connection (R381). -/
def State.sendTo (s : State) (o : OutOp) (dst : Nat) : State :=
  let hd : Packet := { op := o.op, cls := o.cls, src := s.node, dst := dst, gten := o.gten, opId := o.opId,
                       offset := o.offset, total := o.total, sub := o.sub, operand := o.operand,
                       mcast := o.mcast, group := o.group }
  let k := connKey dst o.cls
  let c := s.txConn k
  let ps := numberPackets c.psn (cutPackets hd s.pktData (o.data.length + 1) 0 o.data)
  (((s.setConn k { c with psn := (c.psn + ps.length) % 2 ^ 32, waiting := c.waiting ++ ps }).pump k)).countConns

/-- An operation for which a WRITE_FLAG of the same unit to the same node waits (R394). -/
def OutOp.flagged (x : OutOp) : Bool :=
  x.op == OP_WRITE || x.op == OP_WRITE_FLAG || x.op == OP_ATOMIC || x.op == OP_REDUCE || x.op == OP_MERGE || x.op == OP_HALDIO

/-- Whether an operation, or a copy of it that is outstanding, goes to a node. -/
def OutOp.goesTo (x : OutOp) (d : Nat) : Bool := if x.mcast then x.copies.contains d else x.dst == d

/-- Whether an operation must wait: a WRITE_FLAG for the earlier operations of its unit to the same node (R394), any operation for
one that waits before it on the same connection (R393). -/
def State.mustWait (s : State) (before : List OutOp) (o : OutOp) : Bool :=
  before.any (fun x => x.dst == o.dst && x.cls == o.cls) ||
    (o.op == OP_WRITE_FLAG && (s.sko.ops ++ before).any fun x =>
      decide (x.opId < o.opId) && x.issuer == o.issuer && x.flagged && x.goesTo o.dst)

/-- An operation that need not wait joins its connection. -/
def State.launch (s : State) (o : OutOp) : State :=
  if o.mcast then s.sendTo o o.dst else { s with sko := { s.sko with ops := s.sko.ops ++ [o] } }.sendTo o o.dst

/-- The operations that wait are tried in order; the ones that still wait are kept. -/
def State.launchList (s : State) (kept : List OutOp) : List OutOp → State × List OutOp
  | [] => (s, kept)
  | o :: r => if s.mustWait kept o then s.launchList (kept ++ [o]) r else (s.launch o).launchList kept r

/-- Operations whose wait is over are sent (R394). -/
def State.settleFlags (s : State) : State :=
  if s.sko.flagWait.isEmpty then s
  else
    let x := s.launchList [] s.sko.flagWait
    { x.1 with sko := { x.1.sko with flagWait := x.2 } }

/-- The record of an operation's end for the unit that issued it: an EVENT message leaves its send queue and a failed one is counted
(R471); other units look for the tag they gave.
Assumption log: 135 (DEDUCED). -/
def State.tellIssuer (s : State) (o : OutOp) (code : Nat) (data : List Byte) : State :=
  if o.issuer % 256 = U_NCTL ∧ 0x1000 ≤ o.tag ∧ o.tag < 0x10000 then
    let d := o.tag - 0x1000
    let n := smGet (fun _ => 0) s.evt.outstanding d
    let s := { s with evt := { s.evt with outstanding := smPut (fun _ => 0) s.evt.outstanding d (n - 1) } }
    if code = E_NONE then s else s.bump F.EVT_STATUS_SEND_FAIL 1
  else if o.tag = 0 then s
  else { s with sko := { s.sko with done := s.sko.done ++ [(o.issuer % 256, o.tag, code, data)] } }

/-- An operation is complete (R383). -/
def State.opDone (s : State) (o : OutOp) (code : Nat) (data : List Byte) : State :=
  ({ s with sko := { s.sko with ops := s.sko.ops.filter fun (x : OutOp) => x.opId != o.opId } }.tellIssuer o code data).settleFlags

/-- One copy of a multicast store is complete; the store is when every copy is, with the code of the lowest-numbered member that
failed (R397). -/
def State.copyDone (s : State) (o : OutOp) (node code : Nat) : State :=
  let worse := code != E_NONE && (o.failCode == E_NONE || decide (node < o.failNode))
  let o := { o with copies := o.copies.filter (· != node), failNode := if worse then node else o.failNode,
                    failCode := if worse then code else o.failCode }
  if o.copies.isEmpty then s.opDone o o.failCode []
  else { s with sko := { s.sko with ops := s.sko.ops.map fun (x : OutOp) => if x.opId = o.opId then o else x } }.settleFlags

/-- An operation, or a copy of one, has ended at a node. -/
def State.endAt (s : State) (opId node code : Nat) (data : List Byte) : State :=
  match s.sko.ops.find? fun (x : OutOp) => x.opId == opId with
  | none => s
  | some o => if o.mcast then s.copyDone o node code else s.opDone o code data

/-- An operation of one destination that the node issues, under a number of its own. One to the node's own number goes to the
node's own loop and uses no connection (R381). -/
def State.issueTo (s : State) (o : OutOp) : State :=
  if o.dst = s.node then { s with sko := { s.sko with loop := s.sko.loop ++ [o] } }
  else if s.mustWait s.sko.flagWait o then { s with sko := { s.sko with flagWait := s.sko.flagWait ++ [o] } }
  else s.launch o

/-- The next number of an operation, given to it. -/
def State.numbered (s : State) (o : OutOp) : OutOp × State :=
  ({ o with opId := s.sko.nextOp }, { s with sko := { s.sko with nextOp := s.sko.nextOp + 1 } })

/-- An operation to one node. One to node 0xFFFF that is no multicast store completes with E_MALFORMED (R397). -/
def State.issueOp (s : State) (o : OutOp) : State :=
  let x := s.numbered o
  if o.dst = 0xFFFF then x.2.opDone x.1 E_MALFORMED [] else x.2.issueTo x.1

/-! Haldio messages. -/

/-- The 32-byte envelope of a Haldio message (R398). -/
def envelope (ty cls epoch reqId deadline src payLen : Nat) (rehearsal : Bool) : List Byte :=
  leBytes 1 16 ++ leBytes 1 ty ++ leBytes 1 cls ++ leBytes 1 0 ++ leBytes 4 epoch ++ leBytes 8 reqId ++
    leBytes 6 deadline ++ leBytes 2 src ++ leBytes 4 payLen ++ leBytes 1 (if rehearsal then 1 else 0) ++ zeros 3

/-- The operation that carries a Haldio message. -/
def State.haldioOp (s : State) (issuer tag dst cls gten ty reqId deadline : Nat) (rehearsal : Bool) (payload : List Byte) : OutOp :=
  let m := envelope ty cls s.mapEpoch reqId deadline s.node payload.length rehearsal ++ payload
  { op := OP_HALDIO, dst := dst, cls := cls, gten := gten, issuer := issuer, tag := tag, total := m.length, data := m,
    rehearsal := rehearsal }

/-! Events. -/

/-- The 64 bytes of an event record (R467, R468). -/
def EventRec.toBytes (e : EventRec) : List Byte :=
  leBytes 6 e.beat ++ leBytes 2 e.code ++ leBytes 1 e.severity ++ leBytes 1 e.rhTag ++ leBytes 2 e.source ++
    leBytes 1 e.tenant ++ zeros 3 ++ leBytes 8 e.reqId ++ leBytes 4 e.seq ++ leBytes 2 e.phase ++ zeros 2 ++
    padTo 32 (e.detail.flatMap (leBytes 8))

/-- A record sent to one destination, if it takes records of this severity and its send queue is not full (R471).
Assumption log: 135 (DEDUCED). -/
def State.sendEvent (s : State) (e : EventRec) (d : Nat) : State :=
  if s.bit (F.EVT_DEST_EN d) && decide (s.get (F.EVT_DEST_MIN_SEV d) ≤ e.severity) then
    let n := smGet (fun _ => 0) s.evt.outstanding d
    if n ≥ 256 then s.bump F.EVT_STATUS_TX_DROP 1
    else
      let s := { s with evt := { s.evt with outstanding := smPut (fun _ => 0) s.evt.outstanding d (n + 1) } }
      s.issueOp (s.haldioOp U_NCTL (0x1000 + d) (s.get (F.EVT_DEST_NODE d)) (s.get F.EVT_CFG_CLASS) 0 T_EVENT e.seq 0
        (e.rhTag != 0) e.toBytes)
  else s

/-- The order in which the events of one command take their serial numbers: by instant; in one nanosecond those of beat
dispatch first, as they are raised, then the others by code and by source (R470). -/
def Fresh.before (a b : Fresh) : Bool :=
  decide (a.at_ < b.at_) || (a.at_ == b.at_ && (decide (a.rank < b.rank) || (a.rank == b.rank && a.rank == 65536 &&
    decide (a.ev.code * 65536 + a.ev.source < b.ev.code * 65536 + b.ev.source))))

/-- An event put in its place behind those that it does not come before. -/
def Fresh.insert (x : Fresh) : List Fresh → List Fresh
  | [] => [x]
  | y :: r => if x.before y then x :: y :: r else y :: Fresh.insert x r

/-- An event: its record is made with the beat and the phase of this instant (R467); it takes its serial number when the
command ends, in the order of R470. An event outside dispatch ranks behind the 256 entries of the table. -/
def State.raiseAs (s : State) (rhTag code source : Nat) (detail : List Nat) (tenant reqId : Nat) : State :=
  let e : EventRec := { beat := s.beatNow, code := code, severity := severity code, rhTag := rhTag,
                        source := source, tenant := tenant, reqId := reqId, seq := 0, phase := s.phase,
                        detail := detail }
  let x : Fresh := ⟨s.now, if s.evt.inSlot then s.evt.slots else 65536, e⟩
  { s with evt := { s.evt with fresh := Fresh.insert x s.evt.fresh } }

/-- A record takes its serial number, enters the ring and is sent to each destination (R470, R471).
Assumption log: 13 (DEDUCED), 134 (DESIGN CHOICE). -/
def State.post (s : State) (x : Fresh) : State :=
  let q := s.get F.EVT_STATUS_SEQ_NEXT
  let e : EventRec := { x.ev with seq := q }
  let s := { s with evt := { s.evt with ring := smPut (fun _ => {}) s.evt.ring (q % 4096) e } }
  let s := s.set F.EVT_STATUS_SEQ_NEXT (q + 1)
  [0, 1, 2, 3].foldl (fun s d => s.sendEvent e d) s

/-- The events that a command has raised are posted.
Assumption log: 134 (DESIGN CHOICE). -/
def State.postAll (s : State) : State :=
  if s.evt.quiet then s
  else
    let t := s.evt.fresh.foldl State.post s
    { t with evt := { t.evt with fresh := [], slots := 0, inSlot := false } }

/-- An armed event comes to dispatch: what it raises comes before the other events of this nanosecond (R470). -/
def State.slotOpens (s : State) : State := { s with evt := { s.evt with slots := s.evt.slots + 1, inSlot := true } }

/-- The dispatch of an armed event is over. -/
def State.slotCloses (s : State) : State := { s with evt := { s.evt with inSlot := false } }

/-- The end of a command on `s` that leaves `t`: its events are posted, and the queue of waiting commands is as it was.
Assumption log: 13 (DEDUCED), 134 (DESIGN CHOICE). -/
def State.done (s t : State) : State := { t.postAll with pending := s.pending }

/-- What a command answers, ended. -/
def State.told (s : State) : Res → Res
  | .next t => .next (s.done t)
  | .fault f => .fault f
  | .refused r => .refused r

/-- What a command does to a node that runs; one that is held in reset or has stopped does nothing (R504, R506).
Assumption log: 4 (DESIGN CHOICE), 160 (DEDUCED). -/
def State.live (s : State) (r : Res) : Res := if s.dead then .next s else s.told r

/-- A real event with no request (R496).
Assumption log: 14 (DEDUCED), 15 (DEDUCED). -/
def State.raise (s : State) (code source : Nat) (detail : List Nat) : State := s.raiseAs 0 code source detail 0 0

/-- A real event about a request.
Assumption log: 14 (DEDUCED). -/
def State.raiseReq (s : State) (code source : Nat) (detail : List Nat) (tenant reqId : Nat) : State :=
  s.raiseAs 0 code source detail tenant reqId

/-- A signed number as an event item (R468). -/
def evInt (x : Int) : Nat := unsigned 64 x

end Sys2Proof.Machine
end

