-- ==== Sys2Proof/Machine/Beat.lean ====
section
/-! DEFINITION. The rack beat (R37 to R54): measurements, steps, synchronisation states, the armed-event table. -/

namespace Sys2Proof.Machine

/-! Registers that show the beat unit (R56). -/

/-- The code of a synchronisation state (R41). -/
def SyncState.code : SyncState → Nat
  | .unsync => 0
  | .acquiring => 1
  | .locked => 2
  | .holdover => 3
  | .degraded => 4
  | .stepHeld => 5

/-- A signed number saturated to 32 bits (R56). -/
def sat32 (x : Int) : Int := max (-(2 ^ 31)) (min (2 ^ 31 - 1) x)

/-- Nanoseconds since the last accepted measurement (R42). -/
def State.measAge (s : State) : Nat := s.now - s.beat.lastMeas

/-- The holdover error estimate, rounded up and saturated (R42); 0 outside HOLDOVER and DEGRADED. -/
def State.holdEst (s : State) : Nat :=
  match s.beat.state with
  | .holdover | .degraded =>
    min (s.beat.entryOffset + (s.get F.BEAT_CFG2_DRIFT_PPB * s.measAge + 999999999) / 1000000000) (2 ^ 32 - 1)
  | _ => 0

/-! The state changes of R41. -/

/-- A change of synchronisation state, reported with the old state, the new state, the last offset and the estimate; staying
reports nothing (R41). -/
def State.toSync (s : State) (n : SyncState) : State :=
  if s.beat.state = n then s
  else
    let old := s.beat.state
    let s := { s with beat := { s.beat with state := n } }
    s.raise EV_BEAT_STATE 0 [old.code, n.code, evInt s.beat.offset, s.holdEst]

/-- The state becomes ACQUIRING and the count towards LOCKED starts again (R41, R44). -/
def State.toAcquiring (s : State) : State :=
  { s with beat := { s.beat with lockCount := 0 } }.toSync .acquiring

/-! The armed-event table (R48 to R53). -/

/-- The state of an entry: 0 FREE, 1 ARMED, 2 FIRED, 3 CANCELLED, 4 DROPPED, 5 SKIPPED. -/
def State.entState (s : State) (n : Nat) : Nat := s.get (F.BEAT_EVT_CTL_STATE n)

/-- The state of an entry, replaced; BEAT_STATUS counts the ARMED ones. -/
def State.setEnt (s : State) (n st : Nat) : State :=
  let was := s.entState n == 1
  let is_ := st == 1
  let c := s.get F.BEAT_STATUS_ARMED
  let c' := if was == is_ then c else if is_ then c + 1 else c - 1
  (s.set (F.BEAT_EVT_CTL_STATE n) st).set F.BEAT_STATUS_ARMED c'

/-- The order of due entries: past-due ones first by armed beat, then action, then index (R50). -/
def State.dueKey (s : State) (e : Nat × Bool) : Nat :=
  (if e.2 then (s.get (F.BEAT_EVT_BEAT_BEAT e.1) + beatMod + 2 ^ 47 - s.beat.beat) % beatMod else beatMod) * 2 ^ 24 +
    s.get (F.BEAT_EVT_ACT_ACTION e.1) * 2 ^ 12 + e.1

/-- An entry inserted among the due ones in the order of R50. -/
def State.insertDue (s : State) (e : Nat × Bool) : List (Nat × Bool) → List (Nat × Bool)
  | [] => [e]
  | d :: r => if s.dueKey e < s.dueKey d then e :: d :: r else d :: s.insertDue e r

/-- An entry becomes due. -/
def State.addDue (s : State) (e : Nat × Bool) : State :=
  { s with beat := { s.beat with due := s.insertDue e s.beat.due } }

/-- The entries of the table. -/
def entries : List Nat := List.range 256

/-- Every ARMED entry whose armed beat lies after `last` and not after the current beat becomes due; the ones before the
current beat are past-due (R46, R50). -/
def State.collectDue (s : State) (last : Nat) : State :=
  (entries.filter fun n =>
    s.entState n == 1 && beatAfter (s.get (F.BEAT_EVT_BEAT_BEAT n)) last &&
      !beatAfter (s.get (F.BEAT_EVT_BEAT_BEAT n)) s.beat.beat && !(s.beat.due.any (·.1 == n))).foldl
    (fun s n => s.addDue (n, s.get (F.BEAT_EVT_BEAT_BEAT n) != s.beat.beat)) s

/-- Whether the armed beat lies more than 2^40 beats after the current beat (R49). -/
def State.beyondHorizon (s : State) (b : Nat) : Bool :=
  beatAfter b s.beat.beat && decide (2 ^ 40 < (b + beatMod - s.beat.beat) % beatMod)

/-- The past-due check that an entry armed while UNSYNC still needs, made at the first valid beat (R49, R51). -/
def State.firstDue (s : State) : State :=
  (entries.filter fun n => s.entState n == 1 && !beatAfter (s.get (F.BEAT_EVT_BEAT_BEAT n)) s.beat.beat).foldl
    (fun s n => s.addDue (n, true)) s

/-- The horizon check that an entry armed while UNSYNC still needs, made at the first valid beat (R49). -/
def State.firstHorizon (s : State) : State :=
  (entries.filter fun n => s.entState n == 1 && s.beyondHorizon (s.get (F.BEAT_EVT_BEAT_BEAT n))).foldl
    (fun s n => (s.setEnt n 0).raise EV_BEAT_ARM_REJECTED n []) s

/-- Whether an entry that comes to dispatch is skipped: SYNC_REQ outside LOCKED and HOLDOVER (R52). -/
def State.entSkips (s : State) (n : Nat) : Bool :=
  s.bit (F.BEAT_EVT_ACT_SYNC_REQ n) && s.beat.state != .locked && s.beat.state != .holdover

/-- Whether a due entry is dropped: past-due under LATE = DROP (R51). -/
def State.entDrops (s : State) (e : Nat × Bool) : Bool := e.2 && s.bit (F.BEAT_EVT_ACT_LATE e.1)

/-- The report of a past-due entry: armed beat, current beat, outcome as LATE counts it (R51). -/
def State.raisePastDue (s : State) (n outcome : Nat) : State :=
  s.raise EV_BEAT_PAST_DUE n [s.get (F.BEAT_EVT_BEAT_BEAT n), s.beat.beat, outcome]

/-- The due entries at the head that use no dispatch slot are settled: skipped (R52) or dropped (R51). -/
def State.settleDue (s : State) : Nat → State
  | 0 => s
  | fuel + 1 =>
    match s.beat.due with
    | [] => s
    | e :: r =>
      let t := { s with beat := { s.beat with due := r } }
      if s.entSkips e.1 then ((t.slotOpens.setEnt e.1 5).raise EV_BEAT_EVENT_SKIPPED e.1 []).slotCloses.settleDue fuel
      else if s.entDrops e then ((t.slotOpens.setEnt e.1 4).raisePastDue e.1 1).slotCloses.settleDue fuel
      else s

/-! Time (R38 to R40, R46, R47). -/

/-- The beat that a local time lies in (R37). -/
def beatOf (t : Nat) : Nat := t / 8192 % beatMod

/-- Local time is set forward or back. Forward, the beats passed are not started and their armed events become due at once
(R46). Back, the beat count holds until local time reaches the boundary of the next beat (R47). -/
def State.moveTime (s : State) (t : Nat) : State :=
  let b := beatOf t
  let old := s.beat.beat
  let s := { s with beat := { s.beat with t := t, slew := 0 } }
  if beatAfter b old then
    ({ s with beat := { s.beat with beat := b, frozen := false } }.collectDue old).settleDue 256
  else if b == old then { s with beat := { s.beat with frozen := false } }
  else { s with beat := { s.beat with frozen := true } }

/-- A step applied: BEAT_STEP holds its size, it is reported, and the state becomes ACQUIRING (R44, R46, R47). -/
def State.applyStep (s : State) (d : Int) : State :=
  let s := { s with beat := { s.beat with step := d, held := false, largeRun := 0 } }
  (s.moveTime ((s.beat.t : Int) + d).toNat).toAcquiring.raise EV_BEAT_STEP 0 [evInt d]

/-- The first accepted measurement: it sets t directly, the beat becomes valid, and the state ACQUIRING (R41). -/
def State.firstTime (s : State) (t : Nat) : State :=
  let s := { s with beat := { s.beat with t := t, valid := true, beat := beatOf t, slew := 0 } }
  ((s.firstDue.settleDue 256).toAcquiring).firstHorizon

/-- An accepted measurement is noted: its offset and its instant. -/
def State.noteMeas (s : State) (o : Int) : State :=
  { s with beat := { s.beat with offset := o, lastMeas := s.now } }

/-- A measurement within STEP_NS: it ends the run of large ones, is slewed, and moves the state (R39, R41, R43, R45). -/
def State.smallMeas (s : State) (o : Int) : State :=
  let s := { s with beat := { s.beat with largeRun := 0, held := false, slew := o * 10000 } }
  let near := decide (o.natAbs ≤ s.get F.BEAT_CFG_LOCK_NS)
  match s.beat.state with
  | .acquiring =>
    if near then
      let s := { s with beat := { s.beat with lockCount := s.beat.lockCount + 1 } }
      if s.beat.lockCount ≥ 8 then s.toSync .locked else s
    else { s with beat := { s.beat with lockCount := 0 } }
  | .locked => if near then s else s.toAcquiring
  | _ => s.toAcquiring

/-- A measurement above STEP_NS: the third in a row is a step; one of more than STEP_MAX beats is held, and while it is held
further ones only update BEAT_STEP (R44, R45). -/
def State.largeMeas (s : State) (o : Int) : State :=
  if s.beat.state = .stepHeld ∧ s.beat.held then { s with beat := { s.beat with step := o } }
  else
    let run := s.beat.largeRun + 1
    let s := { s with beat := { s.beat with largeRun := run } }
    if run < 3 then s
    else if o.natAbs ≤ s.get F.BEAT_CFG_STEP_MAX * 8192 then s.applyStep o
    else
      let s := { s with beat := { s.beat with step := o, held := true, largeRun := 0 } }
      (s.toSync .stepHeld).raise EV_BEAT_STEP_HELD 0 []

/-- An accepted PTP measurement: the time on the PTP timescale that the slave clock gives for this instant. Its offset is
that time minus t (R40, R44).
Assumption log: 11 (DESIGN CHOICE), 12 (DEDUCED). -/
def execPtpMeasurement (master : Nat) (s : State) : Res := s.live <|
  .next <|
    if s.bit F.BEAT_CFG2_SRC then s
    else
      let o : Int := (master : Int) - s.beat.t
      let s := s.noteMeas o
      if s.beat.state = .unsync then s.firstTime master
      else if o.natAbs ≤ s.get F.BEAT_CFG_STEP_NS then s.smallMeas o
      else s.largeMeas o

/-- A PPS rising edge (R40): nothing with SRC = 0; with SRC = 1, t is set from BEAT_PPS_SEC, which is then increased, and the
edge counts as an accepted measurement that is never a step. -/
def execPpsEdge (s : State) : Res := s.live <|
  .next <|
    if !s.bit F.BEAT_CFG2_SRC then s
    else
      let sec := s.get F.BEAT_PPS_SEC_SEC
      let t := sec * 1000000000
      let o : Int := (t : Int) - s.beat.t
      let s := (s.noteMeas o).set F.BEAT_PPS_SEC_SEC (sec + 1)
      if s.beat.state = .unsync then s.firstTime t
      else
        let s := (s.moveTime t).smallMeas o
        { s with beat := { s.beat with slew := 0 } }

/-- HOLDOVER is entered from ACQUIRING or LOCKED (R41); the offset of the last accepted measurement is the offset at entry
(R42). -/
def State.toHoldover (s : State) : State :=
  if s.beat.state = .acquiring ∨ s.beat.state = .locked then
    { s with beat := { s.beat with entryOffset := s.beat.offset.natAbs } }.toSync .holdover
  else s

/-- The PTP slave has lost its parent (R41); a beat unit that takes time from PPS ignores PTP (R40). -/
def State.parentLost (s : State) : State :=
  let t : State := { s with port := { s.port with parentKnown := false } }
  if s.bit F.BEAT_CFG2_SRC then t else t.toHoldover

/-- PTP_PARENT_LOST (R41). -/
def execPtpParentLost (s : State) : Res := s.live <| .next s.parentLost

/-- HOLD_ENTRY_MS has passed with no accepted measurement (R41). -/
def execHoldoverEntry (s : State) : Res := s.live <|
  .next <|
    if s.beat.state = .acquiring ∨ s.beat.state = .locked then
      (s.reach (s.beat.lastMeas + s.get F.BEAT_CFG_HOLD_ENTRY_MS * 1000000)).toHoldover
    else s

/-- The age at which the holdover estimate first exceeds HOLD_LIMIT_NS (R42). -/
def State.degradeAge (s : State) : Nat :=
  let lim := s.get F.BEAT_CFG2_HOLD_LIMIT_NS
  let d := s.get F.BEAT_CFG2_DRIFT_PPB
  if lim < s.beat.entryOffset then 0
  else if d = 0 then s.measAge
  else (lim - s.beat.entryOffset) * 1000000000 / d + 1

/-- The holdover estimate exceeds HOLD_LIMIT_NS: HOLDOVER becomes DEGRADED (R41, R42). -/
def execHoldoverDegrade (s : State) : Res := s.live <|
  .next <|
    if s.beat.state = .holdover then (s.reach (s.beat.lastMeas + s.degradeAge)).toSync .degraded else s

/-- BEAT_CTRL.ACCEPT_STEP: the held step is applied, whatever its size (R45). -/
def State.acceptStep (s : State) : State :=
  if s.beat.state = .stepHeld ∧ s.beat.held then s.applyStep s.beat.step else s

/-- BEAT_CTRL.REJECT_STEP: the held step is discarded; the state stays, and the next measurement is judged afresh (R45). -/
def State.rejectStep (s : State) : State :=
  if s.beat.state = .stepHeld then { s with beat := { s.beat with held := false, largeRun := 0 } } else s

/-- BEAT_CTRL.ACCEPT_STEP (R45). -/
def execAcceptStep (s : State) : Res := s.live <| .next s.acceptStep

/-- BEAT_CTRL.REJECT_STEP (R45). -/
def execRejectStep (s : State) : Res := s.live <| .next s.rejectStep

/-- An entry is disarmed if its dispatch slot has not opened (R53). -/
def State.disarm (s : State) (n : Nat) : State :=
  if s.entState n == 1 then
    { s with beat := { s.beat with due := s.beat.due.filter (·.1 != n) } }.setEnt n 3
  else s

/-- BEAT_CTRL.DISARM_ALL: every ARMED entry is disarmed (R53, R56). -/
def State.disarmAll (s : State) : State := (entries.filter fun n => s.entState n == 1).foldl State.disarm s

/-- BEAT_CTRL.DISARM_ALL (R53). -/
def execDisarmAll (s : State) : Res := s.live <| .next s.disarmAll

/-- BEAT_EVT_CTL.DISARM of an entry (R53). -/
def execDisarm (n : Nat) (s : State) : Res := s.live <| onUnit (n < 256) (s.disarm n)

/-- Arming an entry up to the past-due judgement: rejected with ACTION 0 or beyond the horizon; no effect if ARMED; while
UNSYNC it is only armed (R49, R51). A past-due entry becomes due. -/
def State.armEntry (s : State) (n : Nat) : State :=
  let b := s.get (F.BEAT_EVT_BEAT_BEAT n)
  if s.entState n == 1 then s
  else if s.get (F.BEAT_EVT_ACT_ACTION n) == 0 then s.raise EV_BEAT_ARM_REJECTED n []
  else if !s.beat.valid then s.setEnt n 1
  else if s.beyondHorizon b then s.raise EV_BEAT_ARM_REJECTED n []
  else if beatAfter b s.beat.beat then s.setEnt n 1
  else (s.setEnt n 1).addDue (n, true)

/-- The boundary of the next beat (R38): local time moves on to it, real time by as much, less what the slew of at most 100 ppm
gains on the way (R39), the beat count advances, a freeze ends (R47), and the entries armed for the beat become due. -/
def State.nextBoundary (s : State) : State :=
  let nb := (s.beat.beat + 1) % beatMod
  let target := s.nextLocal
  let d := target - s.beat.t
  let most : Int := target - s.beat.t / 8192 * 8192
  let corr : Int := max (-most) (min most s.beat.slew)
  let gain := s.beat.slewPart + corr
  let old := s.beat.beat
  let s := { s with now := s.now + ((d : Int) - gain / 10000).toNat,
                    beat := { s.beat with t := target, beat := nb, frozen := false, slew := s.beat.slew - corr,
                                          slewPart := gain % 10000 } }
  s.collectDue old

end Sys2Proof.Machine
end

