-- ==== Sys2Proof/Machine/Crc.lean ====
section
/-! DEFINITION. CRC arithmetic: CRC-32C (R185) and the general check value of R441. -/

namespace Sys2Proof.Machine

/-- The bits of a number below `n`, mirrored. -/
def mirror : Nat → Nat → Nat
  | 0, _ => 0
  | n + 1, v => (v % 2) * 2 ^ n + mirror n (v / 2)

/-- One bit of a CRC register of `w` bits, most significant bit first: shift left, and combine with the polynomial when the bit
shifted out differs from the input bit. -/
def crcBit (w poly reg bit : Nat) : Nat :=
  let top := reg / 2 ^ (w - 1) % 2
  let sh := reg * 2 % 2 ^ w
  if top = bit then sh else Nat.xor sh poly

/-- The eight bits of one byte, most significant first, or least significant first when reflected. -/
def byteBits (refl : Bool) (b : Nat) : List Nat :=
  if refl then (List.range 8).map (fun i => b / 2 ^ i % 2) else (List.range 8).map (fun i => b / 2 ^ (7 - i) % 2)

/-- Bytes fed into a CRC register. -/
def crcFeed (w poly : Nat) (refl : Bool) (reg : Nat) (bs : List Byte) : Nat :=
  bs.foldl (fun r b => (byteBits refl b.toNat).foldl (crcBit w poly) r) reg

/-- The check value of a register: output reflection and the final combination (R441). -/
def crcResult (w : Nat) (refout : Bool) (xorout reg : Nat) : Nat :=
  Nat.xor (if refout then mirror w reg else reg) xorout % 2 ^ w

/-- CRC-32C (R185): reflected polynomial 0x1EDC_6F41, initial value all ones, final value inverted. -/
def crc32c (bs : List Byte) : Nat :=
  crcResult 32 true 0xFFFFFFFF (crcFeed 32 0x1EDC6F41 true 0xFFFFFFFF bs)

end Sys2Proof.Machine
end

