-- ==== Sys2Proof/Machine/Rehearse.lean ====
section
/-! DEFINITION. Rehearsal (R494 to R497): active scripts and what they inject, and the request for which memory is being read. -/

namespace Sys2Proof.Machine

/-- Memory is read for a request from here on. -/
def State.serveFor (s : State) (r : Req) : State := { s with ctl := { s.ctl with who := some ⟨r.tenant, r.rehearsal⟩ } }

/-- Memory is no longer read for a request.
Assumption log: 150 (DESIGN CHOICE). -/
def State.serveEnd (s : State) : State := { s with ctl := { s.ctl with who := none } }

/-- A script that is active. -/
def State.script (s : State) (n : Nat) : Option Script := smGet (fun _ => none) s.ctl.scripts n

/-- Whether a script of a kind is active and has injections left (R494, R495). -/
def State.scriptLive (s : State) (n kind : Nat) : Bool :=
  match s.script n with
  | none => false
  | some c =>
    s.get (F.EVT_RH_CFG_KIND n) == kind &&
      (s.get (F.EVT_RH_CFG_COUNT n) == 0 || decide (c.made < s.get (F.EVT_RH_CFG_COUNT n)))

/-- The first live script of a kind that meets a condition. -/
def State.findScript (s : State) (kind : Nat) (ok : Nat → Bool) : Option Nat :=
  (List.range 16).find? fun n => s.scriptLive n kind && ok n

/-- An injection made is counted. -/
def State.injected (s : State) (n : Nat) : State :=
  match s.script n with
  | none => s
  | some c =>
    { s with ctl := { s.ctl with scripts := smPut (fun _ => none) s.ctl.scripts n (some { c with made := c.made + 1 }) } }.bump
      F.EVT_RH_STATUS_INJECTED 1

/-- The script that makes a flash read of a rehearsal request late (R495 LATE). -/
def State.lateScript (s : State) (r : Req) : Option Nat := if r.rehearsal then s.findScript 2 fun _ => true else none

/-- The script whose SILENT or DELAY covers a request for a shard (R495). -/
def State.shardScript (s : State) (kind objKind object shard : Nat) : Option Nat :=
  s.findScript kind fun n =>
    s.get (F.EVT_RH_TGT_OBJ_KIND n) == objKind && s.get (F.EVT_RH_TGT_OBJECT n) == object &&
      s.get (F.EVT_RH_TGT_TARGET n) == shard

/-- The script that makes a node appear lost (R495 PEER_LOST). -/
def State.peerScript (s : State) (node : Nat) : Option Nat :=
  s.findScript 3 fun n => s.get (F.EVT_RH_TGT_TARGET n) == node

/-- The script that ends a rehearsal's read of a carrier (`code` 0 to 7) or of a stack (0x100 and up) with a media error, while memory is read
for a rehearsal request (R495 MEDIA). -/
def State.mediaScript (s : State) (target : Nat) : Option Nat :=
  match s.ctl.who with
  | some w => if w.rehearsal then s.findScript 1 fun n => s.get (F.EVT_RH_TGT_TARGET n) == target else none
  | none => none

/-- A media error injected: it is counted and its event carries the script's tag (R496). -/
def State.injectMedia (s : State) (n target source : Nat) : State :=
  (s.injected n).raiseAs (n + 1) (if target < 0x100 then EV_FL_UNCORRECTABLE else EV_STACK_POISON) source [] 0 0

end Sys2Proof.Machine
end

