-- ==== Sys2Proof/Machine/Memory.lean ====
section
/-! DEFINITION. Memory as its readers and writers meet it: the windows of the node offset map (R525), ECC and poison (R124, R167,
R168), the pages of the tiered space and their homes (R173 to R187). -/

namespace Sys2Proof.Machine

/-! Windows. -/

/-- Memory stacks present (R1, R5).
Assumption log: 1 (DESIGN CHOICE). -/
def State.nStacks (s : State) : Nat := s.get F.NCTL_ID_STACKS

/-- Carriers that the variant's flash I/O dies reach (R3).
Assumption log: 1 (DESIGN CHOICE). -/
def State.nCarriers (s : State) : Nat := 4 * s.get F.NCTL_ID_FIO_DIES

/-- First offset of the tiered space (R173). -/
def tierBase : Nat := 0x100000000000

/-- First offset of a stack's window (R525). -/
def stackBase (k : Nat) : Nat := 0x001000000000 + k * 0x800000000

/-- A window of the node offset map (R525). -/
inductive Win where
  | bench
  | stack (k : Nat)
  | tier
  | control
  | none
deriving DecidableEq, Repr

/-- The window that an offset lies in; absent stacks and the ranges marked "none" are `none` (R2, R525). -/
def State.winOf (s : State) (a : Nat) : Win :=
  if a < 0xA8000000 then .bench
  else if 0x001000000000 ≤ a ∧ a < 0x007000000000 then
    let k := (a - 0x001000000000) / 0x800000000
    if k < s.nStacks then .stack k else .none
  else if tierBase ≤ a ∧ a < 0x500000000000 then
    if (a - tierBase) / 65536 < s.get F.TIER_CFG_EXTENT then .tier else .none
  else if 0xF00000000000 ≤ a ∧ a ≤ 0xF000FFFFFFFF then .control
  else .none

/-- The judgement on a range of `n` bytes (R2, R173, R392): E_ABSENT where it starts in no window or touches a page at or
above EXTENT, E_MALFORMED where it crosses out of its window. -/
def State.rangeCode (s : State) (a n : Nat) : Nat :=
  let w := s.winOf a
  let e := s.winOf (a + (n - 1))
  if w = .none then E_ABSENT
  else if w = e then E_NONE
  else if tierBase ≤ a ∧ a + (n - 1) < 0x500000000000 then E_ABSENT
  else E_MALFORMED

/-- Whether a range touches the graph region of a bench (R123). -/
def touchesGraph (a n : Nat) : Bool :=
  decide (a < 0xA8000000) &&
    (decide (0x3C0000 ≤ a % 0x400000) || decide (0x3C0000 < a % 0x400000 + n))

/-! ECC words. -/

/-- Bytes of the ECC word at an offset: 8 in a bench, 32 in a stack (R124, R167).
Assumption log: 38 (DESIGN CHOICE). -/
def eccWord (a : Nat) : Nat := if a < 0xA8000000 then 8 else 32

/-- The marked words that a range touches. -/
def State.eccHits (s : State) (a n : Nat) : List (Nat × Nat) :=
  s.ecc.filter fun e => decide (e.1 < a + n) && decide (a < e.1 + eccWord a)

/-- The mark of a word, replaced; 0 removes it. -/
def State.setEcc (s : State) (k v : Nat) : State := { s with ecc := smPut (fun _ => 0) s.ecc k v }

/-- A corrected word is counted (R124, R167). -/
def State.countCe (s : State) (k : Nat) : State :=
  if k < 0xA8000000 then s.bump (F.TILE_BENCH_ECC_CE_CNT (k / 0x400000)) 1
  else s.bump (F.STK_ECC_CE_CNT ((k - 0x001000000000) / 0x800000000)) 1

/-- The owning unit of an offset within a stack window (R149). -/
def unitOf (o : Nat) : Nat := o / 65536 % 256

/-- The unit-local offset of an offset within a stack window (R149). -/
def localOf (o : Nat) : Nat := o / 16777216 * 65536 + o % 65536

/-- The node offset of a unit-local offset (R149). -/
def unitAddr (k u loc : Nat) : Nat := stackBase k + loc / 65536 * 16777216 + u * 65536 + loc % 65536

/-- First detection of an uncorrectable word: it is poisoned and counted; in a stack the event is raised and STK_POISON
records it while VALID is 0 (R124, R168). -/
def State.poisonWord (s : State) (rhTag k : Nat) : State :=
  let s := s.setEcc k 3
  if k < 0xA8000000 then s.bump (F.TILE_BENCH_ECC_UE_CNT (k / 0x400000)) 1
  else
    let st := (k - 0x001000000000) / 0x800000000
    let o := (k - 0x001000000000) % 0x800000000
    let s := s.bump (F.STK_ECC_UE_CNT st) 1
    let s := if s.bit (F.STK_POISON_VALID st) then s
      else ((s.set (F.STK_POISON_UNIT st) (unitOf o)).set (F.STK_POISON_LOCAL_OFF st) (localOf o)).setBit
        (F.STK_POISON_VALID st) true
    s.raiseAs rhTag EV_STACK_POISON (st * 256 + unitOf o) [] 0 0

/-- Reading a marked word: a correctable error is corrected and counted, an uncorrectable one is poisoned; the Boolean says
that the read fails.
Assumption log: 38 (DESIGN CHOICE). -/
def State.readWord (s : State) (e : Nat × Nat) : State × Bool :=
  if e.2 = 1 then (s.countCe e.1, false)
  else if e.2 = 2 then (s.poisonWord 0 e.1, true)
  else (s, true)

/-- Reading every marked word that a range touches; stops nowhere, and says whether some word failed. -/
def State.readMarks (s : State) (a n : Nat) : State × Bool :=
  (s.eccHits a n).foldl (fun p e => let q := p.1.readWord e; (q.1, p.2 || q.2)) (s, false)

/-- What an access answers: a code, the bytes read, the state after. -/
structure Acc where
  code : Nat
  data : List Byte
  st : State

/-- The rehearsal script that ends a read in a stack window, if one does. -/
def State.stackScript (s : State) (a : Nat) : Option Nat :=
  if a < 0x001000000000 then none else s.mediaScript (0x100 + (a - 0x001000000000) / 0x800000000)

/-- A load of `n` bytes from a bench or a stack window (R124, R167, R168); a rehearsal script may end it (R495). -/
def State.loadPhys (s : State) (a n : Nat) : Acc :=
  match s.stackScript a with
  | some m =>
    let k := (a - 0x001000000000) / 0x800000000
    ⟨E_MEDIA, [], s.injectMedia m (0x100 + k) (k * 256 + unitOf ((a - 0x001000000000) % 0x800000000))⟩
  | none =>
    let p := s.readMarks a n
    if p.2 then ⟨E_MEDIA, [], p.1⟩ else ⟨E_NONE, s.bytes a n, p.1⟩

/-- Whether a write of `n` bytes at `a` covers the whole word at `k`. -/
def coversWord (a n k : Nat) : Bool := decide (a ≤ k) && decide (k + eccWord a ≤ a + n)

/-- The words that a write covers only in part and that cannot be corrected; each new one is poisoned (R124, R168).
Assumption log: 38 (DESIGN CHOICE). -/
def State.partMarks (s : State) (a n : Nat) : State × List Nat :=
  ((s.eccHits a n).filter fun e => !coversWord a n e.1).foldl
    (fun p e => if e.2 = 1 then ((p.1.countCe e.1).setEcc e.1 0, p.2)
                else if e.2 = 2 then (p.1.poisonWord 0 e.1, p.2 ++ [e.1]) else (p.1, p.2 ++ [e.1])) (s, [])

/-- The marks of the words that a write covers whole are cleared.
Assumption log: 38 (DESIGN CHOICE). -/
def State.clearMarks (s : State) (a n : Nat) : State :=
  ((s.eccHits a n).filter fun e => coversWord a n e.1).foldl (fun s e => s.setEcc e.1 0) s

/-- Bytes written except those of blocked words. -/
def State.putBytesBut (s : State) (a : Nat) (blocked : List Nat) (w : Nat) : List Byte → State
  | [] => s
  | b :: r =>
    let s' := if blocked.any (fun k => decide (k ≤ a) && decide (a < k + w)) then s else s.putByte a b
    s'.putBytesBut (a + 1) blocked w r

/-- A store to a bench or a stack window (R123, R124, R168). With `whole`, a store that meets a bad word in part writes
nothing, as a packet does (R392); otherwise only the bad words stay unwritten. -/
def State.storePhys (s : State) (whole : Bool) (a : Nat) (d : List Byte) : Nat × State :=
  if touchesGraph a d.length then (E_MALFORMED, s)
  else
    let p := s.partMarks a d.length
    if p.2.isEmpty then (E_NONE, (p.1.clearMarks a d.length).putBytes a d)
    else if whole then (E_MEDIA, p.1)
    else (E_MEDIA, (p.1.clearMarks a d.length).putBytesBut a p.2 (eccWord a) d)

/-! Pages of the tiered space. -/

/-- A page (R175). -/
def State.page (s : State) (p : Nat) : Page := smGet (fun _ => {}) s.tier.pages p

/-- A page, replaced. -/
def State.setPage (s : State) (p : Nat) (v : Page) : State :=
  { s with tier := { s.tier with pages := smPut (fun _ => {}) s.tier.pages p v } }

/-- The node offset of a frame. -/
def frameAddr (k f : Nat) : Nat := stackBase k + f * 65536

/-- The key of a frame among the frames in use. -/
def frameKey (k f : Nat) : Nat := k * 524288 + f

/-- Frames of the page table (R177). -/
def State.tableFrames (s : State) : Nat := (s.get F.TIER_CFG_EXTENT * 16 + 65535) / 65536

/-- The stack whose pool holds the page table: the lowest-numbered one with a pool that is not empty (R177). -/
def State.tableStack (s : State) : Option Nat :=
  (List.range s.nStacks).find? fun k => decide (0 < s.get (F.TIER_POOL_COUNT k))

/-- Whether a frame of a pool is free: in no use, and not of the page table. -/
def State.frameFree (s : State) (k f : Nat) : Bool :=
  !(smGet (fun _ => false) s.tier.used (frameKey k f)) &&
    !(s.tableStack == some k && decide (f < s.get (F.TIER_POOL_FIRST k) + s.tableFrames))

/-- Free frames of a stack's pool (R177). -/
def State.freeIn (s : State) (k : Nat) : Nat :=
  let held := (s.tier.used.filter fun e => decide (e.1 / 524288 = k)).length
  let tab := if s.tableStack == some k then s.tableFrames else 0
  s.get (F.TIER_POOL_COUNT k) - tab - held

/-- Free pool frames (TIER_STATUS.FREE_FRAMES). -/
def State.freeFrames (s : State) : Nat := ((List.range s.nStacks).map s.freeIn).sum

/-- The stack that gives the next frame: the one with the most free frames, the lowest-numbered on a tie (R177). -/
def State.frameStack (s : State) : Option Nat :=
  (List.range s.nStacks).foldl (fun b k =>
    if s.freeIn k = 0 then b
    else match b with
      | none => some k
      | some j => if s.freeIn j < s.freeIn k then some k else b) none

/-- The first free frame from a place in the pool, in cyclic order.
Assumption log: 40 (DESIGN CHOICE). -/
def State.scanFrame (s : State) (k first count : Nat) : Nat → Nat → Nat
  | 0, i => first + i % count
  | fuel + 1, i =>
    if s.frameFree k (first + i % count) then first + i % count else s.scanFrame k first count fuel (i + 1)

/-- A free frame of a stack's pool: which one is not specified (R177), so a free value names the place where it is taken.
Assumption log: 40 (DESIGN CHOICE). -/
def State.pickFrame (s : State) (k : Nat) : Nat :=
  s.scanFrame k (s.get (F.TIER_POOL_FIRST k)) (s.get (F.TIER_POOL_COUNT k))
    (s.tier.used.length + s.tableFrames) s.free

/-- A frame marked in use or free; FREE_FRAMES follows. -/
def State.markFrame (s : State) (k f : Nat) (b : Bool) : State :=
  let s := { s with tier := { s.tier with used := smPut (fun _ => false) s.tier.used (frameKey k f) b } }
  let s := s.set F.TIER_STATUS_FREE_FRAMES s.freeFrames
  if b then s else { s.setBit F.TIER_STATUS_POOL_EMPTY false with tier := { s.tier with poolEp := false } }

/-- A frame freed; one that is freed ends an episode of an empty pool (R183). -/
def State.releaseFrame (s : State) (k f : Nat) : State := s.markFrame k f false

/-- A frame written whole: any mark left in it is cleared (R177). -/
def State.fillFrame (s : State) (k f : Nat) (d : List Byte) : State :=
  let a := frameAddr k f
  let s := { s with ecc := s.ecc.filter fun e => decide (e.1 < a) || decide (a + 65536 ≤ e.1) }
  (s.zeroBytes a 65536).putBytes a d

/-- A frame taken on a stack: stack, frame and state; `none` where the pool is empty, exhausted (R183) or flash is full.
Assumption log: 40 (DESIGN CHOICE). -/
def State.takeFrame (s : State) : Option (Nat × Nat × State) :=
  match s.frameStack with
  | none => none
  | some k =>
    let f := s.pickFrame k
    some (k, f, (s.markFrame k f true).nextFree)

/-! Carriers' blocks. -/

/-- A carrier. -/
def State.car (s : State) (c : Nat) : CarrierSt := smGet (fun _ => {}) s.fl c

/-- A carrier, replaced. -/
def State.setCar (s : State) (c : Nat) (v : CarrierSt) : State := { s with fl := smPut (fun _ => {}) s.fl c v }

/-- First logical block of the TIER partition (R333). -/
def sysBlocks : Nat := 4194304

/-- Whether a carrier serves reads: ONLINE or READ_ONLY (R332). -/
def State.serving (s : State) (c : Nat) : Bool :=
  decide (c < s.nCarriers) &&
    (s.get (F.FL_CAR_STATUS_STATE c) == 7 || s.get (F.FL_CAR_STATUS_STATE c) == 8)

/-- The bytes of a logical block; one never written or discarded reads as zeros (R334). -/
def CarrierSt.block (c : CarrierSt) (b : Nat) : List Byte := padTo 4096 (smGet (fun _ => []) c.blk b)

/-- The bytes of consecutive logical blocks. -/
def CarrierSt.blockBytes (c : CarrierSt) (b : Nat) : Nat → List Byte
  | 0 => []
  | n + 1 => c.block b ++ c.blockBytes (b + 1) n

/-- Whether one of consecutive logical blocks reads as a media error.
Assumption log: 99 (DESIGN CHOICE). -/
def CarrierSt.anyBad (c : CarrierSt) (b n : Nat) : Bool :=
  c.bad.any fun e => decide (b ≤ e.1) && decide (e.1 < b + n)

/-! Extents (R184 to R187). -/

/-- The magic of a page header. -/
def pageMagic : List Byte := [0x4F, 0x54, 0x50, 0x47]

/-- The segments of a page: 256 of 256 bytes (R186). -/
def segments (d : List Byte) : Nat → List (List Byte)
  | 0 => []
  | n + 1 => d.take 256 :: segments (d.drop 256) n

/-- A byte string with every byte zero. -/
def allZero (d : List Byte) : Bool := d.all (· == 0)

/-- The bit map of a list of flags, eight to a byte, least significant first (R186). -/
def flagBytes : Nat → List Bool → List Byte
  | 0, _ => []
  | n + 1, fs =>
    BitVec.ofNat 8 (((fs.take 8).mapIdx fun i b => if b then 2 ^ i else 0).sum) :: flagBytes n (fs.drop 8)

/-- The ZSEG payload of a page (R186). -/
def zsegMake (d : List Byte) : List Byte :=
  let ss := segments d 256
  flagBytes 32 (ss.map fun g => !allZero g) ++ (ss.filter fun g => !allZero g).flatten

/-- The segments of a ZSEG payload. -/
def zsegFill (map : List Byte) (body : List Byte) : Nat → Nat → List Byte
  | 0, _ => []
  | n + 1, i =>
    if at_ map (i / 8) 1 / 2 ^ (i % 8) % 2 = 1 then body.take 256 ++ zsegFill map (body.drop 256) n (i + 1)
    else zeros 256 ++ zsegFill map body n (i + 1)

/-- The page that a payload encodes; `none` where it breaks a restriction of R186. -/
def decodePayload (fmt len : Nat) (p : List Byte) : Option (List Byte) :=
  if fmt = 1 then (if len = 65536 then some p else none)
  else if fmt = 2 then
    let d := zsegFill (p.take 32) (p.drop 32) 256 0
    if d.length = 65536 ∧ 32 ≤ len then some d else none
  else if fmt = 3 then Config.zstdOpen p
  else none

/-- An extent read back and checked (R187); `none` is a media error. -/
def decodeExtent (page : Nat) (e : List Byte) : Option (List Byte) :=
  if e.take 4 = pageMagic ∧ at_ e 60 4 = crc32c (e.take 60) ∧ at_ e 8 4 = page then
    match decodePayload (at_ e 4 1) (at_ e 12 4) ((e.drop 64).take (at_ e 12 4)) with
    | some d => if d.length = 65536 ∧ at_ e 32 4 = crc32c d then some d else none
    | none => none
  else none

/-- Blocks of an extent that holds a payload (R186). -/
def extentBlocks (stored : Nat) : Nat := (64 + stored + 4095) / 4096

/-- The encoding that a page is written in: fewest blocks, and on a tie ZSEG, then ZSTD, then RAW (R186). -/
def encodePage (d : List Byte) : Nat × List Byte :=
  let z := zsegMake d
  let t := Config.zstdMake d
  let bz := extentBlocks z.length
  let bt := extentBlocks t.length
  if bz ≤ bt ∧ bz ≤ 17 then (2, z) else if bt ≤ 17 then (3, t) else (1, d)

/-- The bytes of an extent: page header (R185), payload, zeros to the end. -/
def extentBytes (page epoch seq fmt : Nat) (d payload : List Byte) : List Byte :=
  let h := pageMagic ++ leBytes 1 fmt ++ zeros 1 ++ leBytes 2 (extentBlocks payload.length) ++ leBytes 4 page ++
    leBytes 4 payload.length ++ leBytes 4 epoch ++ zeros 4 ++ leBytes 8 seq ++ leBytes 4 (crc32c d) ++ zeros 24
  padTo (4096 * extentBlocks payload.length) (h ++ leBytes 4 (crc32c h) ++ payload)

/-- What a page's extent decodes to now: the error code where it cannot be read (R187, R190, R332). -/
def State.readExtent (s : State) (p : Nat) : Nat × List Byte :=
  let g := s.page p
  let c := s.car g.carrier
  if !s.serving g.carrier then (E_ABSENT, [])
  else if c.anyBad (sysBlocks + g.first) g.blocks then (E_MEDIA, [])
  else match decodeExtent p (c.blockBytes (sysBlocks + g.first) g.blocks) with
    | some d => (E_NONE, d)
    | none => (E_MEDIA, [])

/-- A page whose extent cannot be read becomes BAD and is reported with page, carrier and extent (R190). -/
def State.makeBad (s : State) (p : Nat) : State :=
  let g := s.page p
  (s.setPage p { g with st := 5 }).raise EV_TIER_PAGE_BAD 0 [p, g.carrier, g.first]

/-- TIER blocks of a carrier freed. -/
def State.freeExtent (s : State) (c first n : Nat) : State :=
  let car := s.car c
  let car := { car with tierUsed := car.tierUsed.filter fun e => decide (e.1 < first) || decide (first + n ≤ e.1) }
  s.setCar c car

/-- Free TIER blocks of a carrier. -/
def CarrierSt.tierFree (c : CarrierSt) : Nat := c.tierBlocks - c.tierUsed.length

/-- FLASH_FULL clears once some ONLINE carrier has 17 free TIER blocks (R183).
Assumption log: 43 (DEDUCED). -/
def State.checkFlashFull (s : State) : State :=
  if s.bit F.TIER_STATUS_FLASH_FULL &&
      (List.range s.nCarriers).any (fun c => s.get (F.FL_CAR_STATUS_STATE c) == 7 && decide (17 ≤ (s.car c).tierFree))
  then { s.setBit F.TIER_STATUS_FLASH_FULL false with tier := { s.tier with flashEp := false } }
  else s

/-- Whether a page lies in an enabled pin range (R182). -/
def State.pinned (s : State) (p : Nat) : Bool :=
  (List.range 16).any fun n =>
    s.bit (F.TIER_PIN_EN n) && decide (s.get (F.TIER_PIN_FIRST n) ≤ p) &&
      decide (p < s.get (F.TIER_PIN_FIRST n) + s.get (F.TIER_PIN_COUNT n))

/-- Heat of a page touched (R178). -/
def State.heatUp (s : State) (p : Nat) : State :=
  let g := s.page p
  s.setPage p { g with heat := min 255 (g.heat + 1) }

/-- Automatic moves in flight (R179).
Assumption log: 42 (DEDUCED). -/
def State.movesNow (s : State) : Nat := s.tier.promos.length + s.tier.demos.length

/-- Slot copies in flight, which TIER_STATUS.IN_FLIGHT counts as well. -/
def State.slotCopies (s : State) : Nat :=
  ((List.range 16).filter fun n => s.get (F.TIER_MIG_CTL_STATE n) == 1).length

/-- TIER_STATUS.IN_FLIGHT. -/
def State.countMoves (s : State) : State := s.set F.TIER_STATUS_IN_FLIGHT (s.movesNow + s.slotCopies)

/-- A promotion starts (R179): the page is PROMOTING, its flash extent still the home. -/
def State.startPromo (s : State) (p : Nat) (write : Bool) : State :=
  let s := s.setPage p { s.page p with st := 3 }
  { s with tier := { s.tier with promos := s.tier.promos ++ [(p, write)] } }.countMoves

/-- The promotion that a read of a FLASH page may start: heat at PROMOTE_T, or a pinned page, with room (R179). -/
def State.heatPromo (s : State) (p : Nat) : State :=
  let g := s.page p
  if g.st = 2 ∧ (s.get F.TIER_CFG_PROMOTE_T ≤ g.heat ∨ s.pinned p) then
    if s.movesNow < s.get F.TIER_CFG2_MOVES_MAX ∧ 0 < s.freeFrames then s.startPromo p false
    else s.bump F.TIER_CNT_EXC_PROMOTE_DEFER 1
  else s

/-- A demotion in flight ends without flipping, and is counted (R181).
Assumption log: 44 (DEDUCED). -/
def State.abortDemotion (s : State) (p : Nat) : State :=
  let s := (s.tier.demos.filter fun d => d.page == p && !d.zero).foldl
    (fun s d => s.freeExtent d.carrier d.first d.blocks) s
  let s := { s with tier := { s.tier with demos := s.tier.demos.filter fun d => d.page != p } }
  ((s.setPage p { s.page p with st := 1 }).countMoves).bump F.TIER_CNT_EXC_DEMOTE_ABORT 1

/-- A granule that a write has touched is marked in the dirty map of the slot that copies the page (R192).
Assumption log: 44 (DEDUCED). -/
def State.markDirty (s : State) (p off n : Nat) : State :=
  (List.range 16).foldl (fun s k =>
    if s.get (F.TIER_MIG_OBJ_KIND k) == 1 && s.get (F.TIER_MIG_OBJ_ID k) == p &&
        (s.get (F.TIER_MIG_CTL_STATE k) == 1 || s.get (F.TIER_MIG_CTL_STATE k) == 2) then
      let m := smGet (fun _ => {}) s.tier.mig k
      let gs := (rangeFrom (off / 64) ((off + n - 1) / 64 - off / 64 + 1)).filter (fun g => decide (g < m.copied))
      let m := { m with dirty := gs.foldl (fun d g => smPut (fun _ => false) d g true) m.dirty }
      { s with tier := { s.tier with mig := smPut (fun _ => {}) s.tier.mig k m } }
    else s) s

/-- A zero-filled frame for a ZERO page (R176); `none` where no frame can be had (R183). -/
def State.allocPage (s : State) (p : Nat) : Option State :=
  match s.takeFrame with
  | none => none
  | some (k, f, s) => some ((s.fillFrame k f []).setPage p { s.page p with st := 1, stack := k, frame := f })

/-- A FLASH page brought into a frame at once: the extent read, decoded, checked and the entry flipped (R179). -/
def State.promoteNow (s : State) (p : Nat) : Nat × State :=
  let g := s.page p
  let e := s.readExtent p
  if e.1 = E_MEDIA then (E_MEDIA, s.makeBad p)
  else if e.1 ≠ E_NONE then (e.1, s)
  else match s.takeFrame with
    | none => (E_CAPACITY, s)
    | some (k, f, s) =>
      let s := (s.fillFrame k f e.2).setPage p { s.page p with st := 1, stack := k, frame := f, blocks := 0, fmt := 0 }
      let s := { s with tier := { s.tier with promos := s.tier.promos.filter fun q => q.1 != p } }
      (E_NONE, (((s.freeExtent g.carrier g.first g.blocks).checkFlashFull).bump F.TIER_CNT_MOVES_PROMOTED 1).countMoves)

/-- 4 KiB blocks read from a carrier for a tenant's request are charged to it (R425). -/
def State.chargeFlash (s : State) (n : Nat) : State :=
  match s.ctl.who with
  | some w => s.bump (F.TEL_TEN_COUNT w.tenant 10) n
  | none => s

/-- A load inside one page (R176), its waits being over: ZERO reads zeros, FLASH and PROMOTING read the extent. -/
def State.loadPage (s : State) (p off n : Nat) : Acc :=
  let s := s.heatUp p
  let g := s.page p
  if g.st = 0 then ⟨E_NONE, zeros n, s⟩
  else if g.st = 1 ∨ g.st = 4 ∨ (g.st = 6 ∧ g.prev = 1) then s.loadPhys (frameAddr g.stack g.frame + off) n
  else if g.st = 6 ∧ g.prev = 0 then ⟨E_NONE, zeros n, s⟩
  else if g.st = 5 then ⟨E_MEDIA, [], s⟩
  else match s.mediaScript g.carrier with
  | some m => ⟨E_MEDIA, [], s.injectMedia m g.carrier g.carrier⟩
  | none =>
    let e := s.readExtent p
    let s := s.chargeFlash g.blocks
    if e.1 = E_MEDIA then ⟨E_MEDIA, [], (s.makeBad p).bump F.TIER_CNT_EXC_MEDIA 1⟩
    else if e.1 ≠ E_NONE then ⟨e.1, [], s⟩
    else ⟨E_NONE, (e.2.drop off).take n, s.heatPromo p⟩

/-- The frame that a store to a page needs, taken before any byte is written (R176, R536). -/
def State.readyPage (s : State) (p : Nat) : Nat × State :=
  let g := s.page p
  if g.st = 0 ∨ (g.st = 6 ∧ g.prev = 0) then
    match s.allocPage p with
    | some s => (E_NONE, s)
    | none => (E_CAPACITY, s)
  else if g.st = 2 ∨ g.st = 3 ∨ (g.st = 6 ∧ g.prev = 2) then s.promoteNow p
  else if g.st = 4 then (E_NONE, s.abortDemotion p)
  else if g.st = 5 then (E_MEDIA, s)
  else (E_NONE, s)

/-- A store inside one page that has its frame. -/
def State.storePage (s : State) (whole : Bool) (p off : Nat) (d : List Byte) : Nat × State :=
  let s := (s.heatUp p).markDirty p off d.length
  let g := s.page p
  s.storePhys whole (frameAddr g.stack g.frame + off) d

/-- The pieces of a range of the tiered space: page, offset within it, length. -/
def pieces : Nat → Nat → Nat → List (Nat × Nat × Nat)
  | 0, _, _ => []
  | fuel + 1, o, n =>
    if n = 0 then []
    else
      let k := min n (65536 - o % 65536)
      (o / 65536, o % 65536, k) :: pieces fuel (o + k) (n - k)

/-- The pieces of a range of node offsets in the tiered space. -/
def tierPieces (a n : Nat) : List (Nat × Nat × Nat) := pieces (n / 65536 + 2) (a - tierBase) n

/-- Loads of consecutive pieces, to the first that fails.
Assumption log: 39 (DESIGN CHOICE). -/
def State.loadPieces (s : State) : List (Nat × Nat × Nat) → Acc
  | [] => ⟨E_NONE, [], s⟩
  | (p, o, n) :: r =>
    let x := s.loadPage p o n
    if x.code ≠ E_NONE then x
    else
      let y := x.st.loadPieces r
      if y.code ≠ E_NONE then y else ⟨E_NONE, x.data ++ y.data, y.st⟩

/-- Frames for consecutive pieces, in ascending page order, to the first that fails (R536). -/
def State.readyPieces (s : State) : List (Nat × Nat × Nat) → Nat × State
  | [] => (E_NONE, s)
  | (p, _, _) :: r =>
    let x := s.readyPage p
    if x.1 ≠ E_NONE then x else x.2.readyPieces r

/-- Stores of consecutive pieces.
Assumption log: 39 (DESIGN CHOICE). -/
def State.storePieces (s : State) (whole : Bool) (code : Nat) (d : List Byte) : List (Nat × Nat × Nat) → Nat × State
  | [] => (code, s)
  | (p, o, n) :: r =>
    let x := s.storePage whole p o (d.take n)
    x.2.storePieces whole (if code = E_NONE then x.1 else code) (d.drop n) r

/-- A load by a unit of the node, all its waits being over (R176): bench, stack or tiered space; the control window is never
reached (R530). -/
def State.load (s : State) (a n : Nat) : Acc :=
  if n = 0 then ⟨E_NONE, [], s⟩
  else
    let c := s.rangeCode a n
    if c ≠ E_NONE then ⟨c, [], s⟩
    else match s.winOf a with
      | .bench | .stack _ => s.loadPhys a n
      | .tier => s.loadPieces (tierPieces a n)
      | .control => ⟨E_MALFORMED, [], s⟩
      | .none => ⟨E_ABSENT, [], s⟩

/-- The bytes of a store by a unit of the node, all its waits being over (R176, R536). -/
def State.storeRaw (s : State) (a : Nat) (d : List Byte) : Nat × State :=
  if d.isEmpty then (E_NONE, s)
  else
    let c := s.rangeCode a d.length
    if c ≠ E_NONE then (c, s)
    else match s.winOf a with
      | .bench | .stack _ => s.storePhys false a d
      | .tier =>
        let ps := tierPieces a d.length
        let x := s.readyPieces ps
        if x.1 ≠ E_NONE then x else x.2.storePieces false E_NONE d ps
      | .control => (E_MALFORMED, s)
      | .none => (E_ABSENT, s)

/-- Whether a range lies wholly in one present stack window. -/
def State.inOneStack (s : State) (a n : Nat) : Bool :=
  match s.winOf a with
  | .stack _ => s.rangeCode a n == E_NONE
  | _ => false

end Sys2Proof.Machine
end

