-- ==== Sys2Proof/Machine/Rings.lean ====
section
/-! DEFINITION. Inbound rings (R28 to R33, R138, R139): tail writes and their tokens, head advances and the credits they return,
messages in a ring, and the stores that a ring's tail word is watched for. -/

namespace Sys2Proof.Machine

/-! Rings. -/

/-- A ring by its RING_ID; size 0 where no image places it. -/
def State.ring (s : State) (r : Nat) : RingSt := smGet (fun _ => {}) s.rings r

/-- A ring, replaced. -/
def State.setRing (s : State) (r : Nat) (v : RingSt) : State := { s with rings := smPut (fun _ => {}) s.rings r v }

/-- Node offset of a ring's tail word (R138). -/
def RingSt.tailAddr (r : RingSt) : Nat := r.base + r.size

/-- Node offset of a ring's head word (R138). -/
def RingSt.headAddr (r : RingSt) : Nat := r.base + r.size + 8

/-- The tail count of a ring. -/
def State.tailOf (s : State) (r : Nat) : Nat := s.num (s.ring r).tailAddr 8

/-- The head count of a ring. -/
def State.headOf (s : State) (r : Nat) : Nat := s.num (s.ring r).headAddr 8

/-- Whether a tile owns the ring. -/
def RingSt.ofTile (r : RingSt) : Bool := r.ownerKind == 1

/-- A token joins its queue; a tile's queue of 64 that is full extends its last token (R139). -/
def pushToken (full : Bool) (ts : List Token) (t : Token) : List Token :=
  if full then
    match ts.getLast? with
    | some l => ts.dropLast ++ [{ l with to_ := t.to_ }]
    | none => [t]
  else ts ++ [t]

/-- The three conditions of a tail write that moves the tail forward (R30). -/
def State.tailValid (s : State) (r v : Nat) : Bool :=
  decide (v % 64 = 0) && decide (s.tailOf r < v) && decide (v - s.headOf r ≤ (s.ring r).size)

/-- A write to a ring's tail word: the current value does nothing, a valid one becomes exactly one token, any other is
discarded and reported (R30, R31). -/
def State.tailWrite (s : State) (r v : Nat) : State :=
  let g := s.ring r
  let t := s.tailOf r
  if v = t then s
  else if s.tailValid r v then
    let full := g.ofTile && decide (64 ≤ g.tokens.length)
    (s.putNum g.tailAddr 8 v).setRing r { g with tokens := pushToken full g.tokens { from_ := t, to_ := v, since := s.now } }
  else s.raise EV_RING_TAIL_INVALID 0 [g.base, t, v]

/-- What a head advance leaves of the tokens of a ring.
Assumption log: 29 (DESIGN CHOICE), 202 (DESIGN CHOICE). -/
def trimTokens (h now : Nat) (ts : List Token) : List Token :=
  match ts.dropWhile fun t => decide (t.to_ ≤ h) with
  | [] => []
  | t :: r => (if t.from_ < h then { t with from_ := h, since := now } else t) :: r

/-- The rings whose tail or head word a range of bytes touches, with the tail each has.
Assumption log: 203 (DESIGN CHOICE). -/
def State.tailsIn (s : State) (a n : Nat) : List (Nat × Nat) :=
  (s.rings.filter fun e => decide (0 < e.2.size) && decide (e.2.tailAddr < a + n) && decide (a < e.2.headAddr + 8)).map
    fun e => (e.1, s.tailOf e.1)

/-- After a store, a tail word that changed is judged as a tail write (R30), and a token whose messages the head word counts as
taken is none (R28).
Assumption log: 29 (DESIGN CHOICE), 203 (DESIGN CHOICE). -/
def State.settleRing (s : State) (e : Nat × Nat) : State :=
  let v := s.tailOf e.1
  let s := if v = e.2 then s else (s.putNum (s.ring e.1).tailAddr 8 e.2).tailWrite e.1 v
  let g := s.ring e.1
  let h := s.headOf e.1
  if g.tokens.any fun t => decide (t.from_ < h) then s.setRing e.1 { g with tokens := trimTokens h s.now g.tokens } else s

/-- Every ring whose words a store touches is settled.
Assumption log: 202 (DESIGN CHOICE). -/
def State.settleTails (s : State) (old : List (Nat × Nat)) : State := old.foldl State.settleRing s

/-- A store by a unit of the node (R176, R392); a tail word it touches becomes a tail write (R30).
Assumption log: 39 (DESIGN CHOICE). -/
def State.store (s : State) (a : Nat) (d : List Byte) : Nat × State :=
  let old := s.tailsIn a d.length
  let x := s.storeRaw a d
  (x.1, x.2.settleTails old)

/-! Credits (R33, R140). -/

/-- The credit class of a tile that stands for a ring, if it has one. -/
def State.classOf (s : State) (t r : Nat) : Option Nat :=
  (List.range 16).find? fun c => s.get (F.TILE_CREDIT_RING t c) == r && decide (0 < s.get (F.TILE_CREDIT_CAPACITY t c))

/-- Credits returned to a tile in a class: a return above the capacity is discarded and reported (R33).
Assumption log: 30 (DESIGN CHOICE). -/
def State.returnCredits (s : State) (t c n : Nat) : State :=
  let a := s.get (F.TILE_CREDIT_AVAIL t c)
  if s.get (F.TILE_CREDIT_CAPACITY t c) < a + n then s.raise EV_CREDIT_OVERFLOW t []
  else s.set (F.TILE_CREDIT_AVAIL t c) (a + n)

/-- Space freed in a ring goes back to its registered producer as credits of 64 bytes (R33, R140). -/
def State.creditRing (s : State) (r n : Nat) : State :=
  let g := s.ring r
  if g.prodKind = 1 then
    match s.classOf g.producer r with
    | some c => s.returnCredits g.producer c n
    | none => s
  else s

/-- A consumer advances its head word and returns the credits of the space (R33). A value that is no forward granule count up
to the tail is none that a consumer writes, and does nothing. -/
def State.headAdvance (s : State) (r h : Nat) : State :=
  let g := s.ring r
  let o := s.headOf r
  if h % 64 = 0 ∧ o < h ∧ h ≤ s.tailOf r then
    ((s.putNum g.headAddr 8 h).setRing r { g with tokens := trimTokens h s.now g.tokens }).creditRing r ((h - o) / 64)
  else s

/-- A producer's write to a ring's tail word (R30). -/
def execTailWrite (ring value : Nat) (s : State) : Res := s.live <|
  onUnit (ring < 8192) (if 0 < (s.ring ring).size then s.tailWrite ring (value % 2 ^ 64) else s)

/-- A consumer's head advance returns credits to the registered producer (R33).
Assumption log: 30 (DESIGN CHOICE). -/
def execCreditReturn (ring head : Nat) (s : State) : Res := s.live <|
  onUnit (ring < 8192) (if 0 < (s.ring ring).size then s.headAdvance ring head else s)

/-! Messages. -/

/-- `n` bytes of a ring from a byte count on; positions are counts modulo the ring size (R28). -/
def State.ringBytes (s : State) (g : RingSt) (pos : Nat) : Nat → List Byte
  | 0 => []
  | n + 1 => s.byte (g.base + pos % g.size) :: s.ringBytes g (pos + 1) n

/-- Bytes placed in a ring from a byte count on. -/
def State.ringPut (s : State) (g : RingSt) (pos : Nat) : List Byte → State
  | [] => s
  | b :: r => (s.putByte (g.base + pos % g.size) b).ringPut g (pos + 1) r

/-- The free bytes of a ring. -/
def State.ringRoom (s : State) (r : Nat) : Nat := (s.ring r).size - (s.tailOf r - s.headOf r)

/-- A message with its granules filled up: the body first, then the tail (R29). -/
def State.ringSend (s : State) (r : Nat) (m : List Byte) : State :=
  let t := s.tailOf r
  let n := roundUp m.length 64
  (s.ringPut (s.ring r) t (padTo n m)).tailWrite r (t + n)

/-- The global tenant under which a request in flight came. -/
def State.gtenOf (s : State) (src reqId : Nat) : Nat :=
  match s.sko.inflight.find? fun e => e.src == src && e.reqId == reqId with
  | some e => e.gten
  | none => 0

/-- The request that a message's bytes spell. -/
def State.reqOf (s : State) (m : List Byte) : Req :=
  { ty := at_ m 1 1, cls := at_ m 2 1 % 8, tenant := at_ m 3 1, gten := s.gtenOf (at_ m 22 2) (at_ m 8 8),
    epoch := at_ m 4 4, reqId := at_ m 8 8, deadline := at_ m 16 6, src := at_ m 22 2,
    rehearsal := at_ m 28 1 % 2 == 1, payload := (m.drop 32).take (at_ m 24 4) }

/-- The message at a byte count of a ring: its bytes, envelope and payload. -/
def State.ringMsg (s : State) (r pos : Nat) : List Byte :=
  let g := s.ring r
  s.ringBytes g pos (32 + leNat (s.ringBytes g (pos + 24) 4))

/-- The message at the head of a ring; `none` on an empty or absent ring. -/
def State.headMsg (s : State) (r : Nat) : Option (List Byte) :=
  if 0 < (s.ring r).size ∧ s.headOf r < s.tailOf r then some (s.ringMsg r (s.headOf r)) else none

/-- The count at which a message that begins at a count ends: whole granules, never past the tail. -/
def State.msgEnd (s : State) (r pos len : Nat) : Nat := min (pos + roundUp len 64) (s.tailOf r)

/-- The message at the head of a ring is freed. -/
def State.popMsg (s : State) (r : Nat) (m : List Byte) : State := s.headAdvance r (s.msgEnd r (s.headOf r) m.length)

/-- The request of a given TYPE at the head of a ring that a subsystem's engine owns. -/
def State.headReq (s : State) (r unit ty : Nat) : Option (List Byte × Req) :=
  match s.headMsg r with
  | none => none
  | some m =>
    let q := s.reqOf m
    if (s.ring r).ownerKind = 2 ∧ (s.ring r).owner = unit ∧ q.ty = ty then some (m, q) else none

end Sys2Proof.Machine
end

