-- ==== Sys2Proof/Machine/Carrier.lean ====
section
/-! DEFINITION. What stands under every use of a carrier: its states (R329), where programs go, reclamation (R344, R345), health (R350). -/

namespace Sys2Proof.Machine

def CS_ABSENT : Nat := 0
def CS_IDENTIFYING : Nat := 1
def CS_REFUSED : Nat := 2
def CS_BLANK : Nat := 3
def CS_FOREIGN : Nat := 4
def CS_WAIT_CACHE : Nat := 5
def CS_MOUNTING : Nat := 6
def CS_ONLINE : Nat := 7
def CS_READ_ONLY : Nat := 8
def CS_DETACHING : Nat := 9
def CS_DETACHED : Nat := 10
def CS_FAILED : Nat := 11

/-- State of a carrier (R329). -/
def State.carState (s : State) (c : Nat) : Nat := s.get (F.FL_CAR_STATUS_STATE c)

/-! Figures of the models (R325). -/

/-- Logical blocks of a model. -/
def modelBlocks (m : Nat) : Nat := if m = 1 then 3750000000 else if m = 2 then 7500000000 else 0
/-- Blocks of one erase block: 32 or 64 MiB. -/
def eraseBlocks (m : Nat) : Nat := if m = 1 then 8192 else 16384
/-- Blocks that a superblock holds with the erase blocks it has left. -/
def superRoom (m retired : Nat) : Nat := (128 - retired) * eraseBlocks m

/-- Blocks of the STORE partition (R333). -/
def CarrierSt.storeBlocks (c : CarrierSt) : Nat := modelBlocks c.model - sysBlocks - c.tierBlocks

/-- First logical block of the STORE partition. -/
def CarrierSt.storeFirst (c : CarrierSt) : Nat := sysBlocks + c.tierBlocks

/-! Superblocks. -/

/-- A superblock. -/
def CarrierSt.sb (c : CarrierSt) (n : Nat) : SuperBlk := smGet (fun _ => {}) c.supers n

/-- A superblock, replaced. -/
def CarrierSt.setSb (c : CarrierSt) (n : Nat) (v : SuperBlk) : CarrierSt := { c with supers := smPut (fun _ => {}) c.supers n v }

/-- Whether a superblock is free. -/
def CarrierSt.sbFree (c : CarrierSt) (n : Nat) : Bool := !(c.sb n).closed && c.openSb != some n

/-- F, the free superblocks (R344). -/
def CarrierSt.freeSb (c : CarrierSt) : Nat :=
  4096 - (c.supers.filter fun e => e.2.closed).length - (if c.openSb.isSome then 1 else 0)

/-- The blocks of a superblock that are still valid. -/
def CarrierSt.valid (c : CarrierSt) (n : Nat) : List Nat := ((c.sb n).blocks.filter fun b => smGet (fun _ => none) c.place b == some n).dedup

/-- A free superblock to open, in cyclic order from a place that the manual leaves open.
Assumption log: 97 (DESIGN CHOICE). -/
def CarrierSt.pickSb (c : CarrierSt) (at0 : Nat) : Option Nat :=
  let n := c.supers.length + 2
  ((List.range n).map fun i => (at0 + i) % 4096).find? c.sbFree

/-- One block programmed: it goes to the open superblock, which closes when it is full (R337, R344).
Assumption log: 96 (DESIGN CHOICE). -/
def CarrierSt.program (c : CarrierSt) (at0 b : Nat) : CarrierSt :=
  let c := match c.openSb with
    | some _ => c
    | none => { c with openSb := c.pickSb at0 }
  let c := { c with health := { c.health with nandWritten := satAdd 64 c.health.nandWritten 1 } }
  match c.openSb with
  | none => c
  | some n =>
    let v := c.sb n
    let v := { v with blocks := v.blocks ++ [b] }
    let full := decide (superRoom c.model v.retired ≤ v.blocks.length)
    let c := c.setSb n { v with closed := full }
    { c with place := smPut (fun _ => none) c.place b (some n), openSb := if full then none else some n }

/-- The contents of one block written; a block that read as a media error reads well again (R340, R341).
Assumption log: 96 (DESIGN CHOICE). -/
def CarrierSt.putBlock (c : CarrierSt) (b : Nat) (v : List Byte) : CarrierSt :=
  { c with blk := smPut (fun _ => []) c.blk b (if allZero v then [] else v), bad := smPut (fun _ => false) c.bad b false }

/-- One block unmapped: it reads as zeros (R334, R347). -/
def CarrierSt.unmap (c : CarrierSt) (b : Nat) : CarrierSt :=
  let c := c.putBlock b []
  { c with place := smPut (fun _ => none) c.place b none }

/-- Consecutive blocks unmapped. -/
def CarrierSt.unmapRange (c : CarrierSt) (b n : Nat) : CarrierSt := (rangeFrom b n).foldl CarrierSt.unmap c

/-- Consecutive blocks programmed with new contents. -/
def CarrierSt.writeRange (c : CarrierSt) (at0 b : Nat) : Nat → List Byte → CarrierSt
  | 0, _ => c
  | n + 1, d =>
    let c := (c.program at0 b).putBlock b (padTo 4096 d)
    ({ c with health := { c.health with hostWritten := satAdd 64 c.health.hostWritten 1 } }).writeRange at0 (b + 1) n (d.drop 4096)

/-- A superblock erased: its blocks are free again, its erase count rises. -/
def CarrierSt.erase (c : CarrierSt) (n : Nat) : CarrierSt :=
  let v := c.sb n
  let c := { c with openSb := if c.openSb = some n then none else c.openSb }
  c.setSb n { erases := v.erases + 1, retired := v.retired }

/-- Valid blocks of a superblock programmed anew elsewhere (R341, R348).
Assumption log: 96 (DESIGN CHOICE). -/
def CarrierSt.relocate (c : CarrierSt) (at0 n : Nat) : CarrierSt :=
  let vs := c.valid n
  let c := { c with openSb := if c.openSb = some n then none else c.openSb }
  let c := c.setSb n { c.sb n with closed := true }
  vs.foldl (fun c b => c.program at0 b) c

/-! Health (R350). -/

/-- Retired erase blocks. -/
def CarrierSt.retired (c : CarrierSt) : Nat := (c.supers.map fun e => e.2.retired).sum

/-- SPARE_LEFT in units of 0.01 %. -/
def CarrierSt.spareLeft (c : CarrierSt) : Nat :=
  let made := Config.spareMade c.model
  (made - c.retired * eraseBlocks c.model) * 10000 / max 1 made

/-- ERASE_AVG over the good erase blocks. -/
def CarrierSt.eraseAvg (c : CarrierSt) : Nat :=
  let good := 4096 * 128 - c.retired
  (c.eraseBase * good + (c.supers.map fun e => e.2.erases * (128 - e.2.retired)).sum) / max 1 good

/-- ERASE_MAX. -/
def CarrierSt.eraseMax (c : CarrierSt) : Nat := c.eraseBase + (c.supers.map fun e => e.2.erases).foldl max 0

/-- WEAR_USED. -/
def CarrierSt.wear (c : CarrierSt) : Nat := min 65535 (c.eraseAvg * 10000 / 3000)

/-- A count of `n` bytes that holds at its largest value. -/
def heldBytes (n v : Nat) : List Byte := leBytes n (min v (256 ^ n - 1))

/-- The 256 bytes of the health record; `temp` is the last reading (R350). -/
def CarrierSt.record (c : CarrierSt) (temp : Nat) : List Byte :=
  let h := c.health
  let flag (b : Bool) (w : Nat) : Nat := if b then w else 0
  let b : List Byte := ([0x4F, 0x48, 0x4C, 0x54] : List Byte) ++ leBytes 2 1 ++ zeros 2 ++ heldBytes 2 c.spareLeft ++ leBytes 2 c.wear ++ heldBytes 4 c.eraseAvg ++
    heldBytes 4 c.eraseMax ++ leBytes 4 3000 ++ heldBytes 8 h.hostWritten ++ heldBytes 8 h.nandWritten ++ heldBytes 8 h.hostRead ++
    heldBytes 4 h.corrected ++ heldBytes 4 h.retries ++ heldBytes 4 h.uncorr ++ heldBytes 4 h.programFail ++ heldBytes 4 h.eraseFail ++
    heldBytes 4 c.retired ++ heldBytes 4 h.hours ++ heldBytes 4 h.mounts ++ leBytes 1 temp ++ leBytes 1 (unsigned 8 (h.tempMax.getD (signed 8 temp))) ++
    leBytes 1 (flag h.spareLow 1 + flag (decide (10000 ≤ c.wear)) 2 + flag h.readOnly 4 + flag h.hot 8) ++ zeros 1 ++
    (h.hist.flatMap (heldBytes 4)) ++ zeros 136
  b ++ leBytes 4 (crc32c b)

/-! States (R329, R330). -/

/-- FL_STATUS follows the carriers (R356). -/
def State.flShow (s : State) : State :=
  let w (f : Nat → Bool) : Nat := ((List.range 8).map fun c => if f c then 2 ^ c else 0).sum
  let s := s.set F.FL_STATUS_PRESENT (w fun c => s.carState c != CS_ABSENT)
  let s := s.set F.FL_STATUS_SERVING (w fun c => s.carState c == CS_ONLINE || s.carState c == CS_READ_ONLY)
  s.set F.FL_STATUS_METERED (w fun c => decide (2 ≤ s.get (F.FL_CAR_STATUS_MODE c)))

/-- Whether a carrier is mounted. -/
def State.mounted (s : State) (c : Nat) : Bool :=
  s.carState c == CS_ONLINE || s.carState c == CS_READ_ONLY || s.carState c == CS_DETACHING

/-- A change of state, with its event (R329). -/
def State.setCarState (s : State) (c st : Nat) : State :=
  let old := s.carState c
  if old = st then s
  else
    let s := (s.set (F.FL_CAR_STATUS_STATE c) st).flShow
    let s := s.set (F.FL_CAR_STORE_STORE_BLOCKS c) (if s.mounted c then (s.car c).storeBlocks else 0)
    s.raise EV_FL_CARRIER_STATE c [old, st]

/-! Reclamation (R344, R345). -/

/-- The mode that F gives (R344). -/
def State.flMode (s : State) (f : Nat) : Nat :=
  if s.get F.FL_CFG_BG_START ≤ f then 0
  else if s.get F.FL_CFG_FG_START ≤ f then 1
  else if s.get F.FL_CFG_FG_FLOOR ≤ f then 2
  else 3

/-- SPARE_LOW, and READ_ONLY where no spare remains to hold F (R350). -/
def State.judgeSpare (s : State) (c : Nat) : State :=
  let x := s.car c
  let s := if x.spareLeft < s.get F.FL_CFG_SPARE_WARN ∧ !x.health.spareLow then
      (s.setCar c { x with health := { x.health with spareLow := true } }).raise EV_FL_SPARE_LOW c []
    else s
  let x := s.car c
  if s.get (F.FL_CAR_STATUS_MODE c) = 3 ∧ x.spareLeft = 0 ∧ s.carState c = CS_ONLINE then
    ((s.setCar c { x with health := { x.health with readOnly := true } }).setCarState c CS_READ_ONLY).raise EV_FL_READ_ONLY c []
  else s

/-- Free superblocks and mode judged again, after a superblock has been opened or freed (R344). -/
def State.flJudge (s : State) (c : Nat) : State :=
  let f := (s.car c).freeSb
  let old := s.get (F.FL_CAR_STATUS_MODE c)
  let m := s.flMode f
  let s := (((s.set (F.FL_CAR_STATUS_FREE_SB c) f).set (F.FL_CAR_STATUS_MODE c) m).flShow)
  let s := if old < m ∧ 2 ≤ m then s.raise EV_FL_RECLAIM_FOREGROUND c [] else s
  s.judgeSpare c

/-- Blocks written to a carrier by a writer (R337).
Assumption log: 97 (DESIGN CHOICE). -/
def State.flWrite (s : State) (c b n : Nat) (d : List Byte) : State :=
  let x := s.car c
  let y := x.writeRange s.free b n d
  let s := (s.setCar c y).nextFree
  let s := s.bump (F.FL_CAR_CNT_IO_WRITES c) n
  if y.openSb = x.openSb then s else s.flJudge c

/-- The victim: the closed superblock with the fewest valid blocks, the lowest-numbered on a tie; every 64th is the one with the lowest erase
count where the gap of erase counts is above 200 (R345). -/
def CarrierSt.victim (c : CarrierSt) : Option Nat :=
  let cl := (c.supers.filter fun e => e.2.closed).map Prod.fst
  let er (n : Nat) : Nat := (c.sb n).erases
  let hi := (c.supers.map fun e => e.2.erases).foldl max 0
  let lo := cl.foldl (fun a n => min a (er n)) hi
  let least (f : Nat → Nat) : Option Nat := cl.foldl (fun b n => match b with
    | none => some n
    | some m => if f n < f m then some n else b) none
  if (c.victims + 1) % 64 = 0 ∧ 200 < hi - lo then least er else least fun n => (c.valid n).length

/-- Valid blocks of the victim: V (R345). -/
def CarrierSt.victimV (c : CarrierSt) : Nat :=
  match c.victim with
  | some n => (c.valid n).length
  | none => 0

/-- Whether a writer of `n` blocks may begin now, and the credit it takes (R344, R345).
Assumption log: 106 (DESIGN CHOICE). -/
def State.flAdmit (s : State) (c n : Nat) : Option State :=
  let m := s.get (F.FL_CAR_STATUS_MODE c)
  let x := s.car c
  if m ≤ 1 then some s
  else if m = 3 then none
  else if n * x.victimV ≤ x.credit then some (s.setCar c { x with credit := x.credit - n * x.victimV })
  else none

/-- Whether programs and erases are suspended (R351). -/
def State.flHeld (s : State) (c : Nat) : Bool := s.bit (F.FL_CAR_STATUS_THERMAL c)

end Sys2Proof.Machine
end

