-- ==== Sys2Proof/Machine/Identity.lean ====
section
/-! DEFINITION. Identity and attestation (R452 to R465): the device secret and the keys derived from it, ownership, the rollback floor, image
signatures, measurements, quotes. -/

namespace Sys2Proof.Machine

/-- The ASCII bytes of a label. -/
def ascii (x : String) : List Byte := x.toList.map fun c => BitVec.ofNat 8 c.toNat

def SR_OK : Nat := 0
def SR_BUSY : Nat := 1
def SR_DENIED : Nat := 2
def SR_ADDRESS : Nat := 3

/-! Keys (R453, R455, R456). -/

/-- Whether the node is in NO_IDENTITY (R454). -/
def State.noIdentity (s : State) : Bool := s.get F.SEC_STATUS_OWN == 2

/-- The device identity key's private part. -/
def dikOf (sec : List Byte) : List Byte := Config.shake256 (sec ++ ascii "OK9 DIK") 57

/-- DEVICE_ID; zeros in NO_IDENTITY (R453, R454). -/
def State.deviceId (s : State) : List Byte :=
  match s.sec.secret with
  | some x => Config.shake256 (Config.ed448Public (dikOf x)) 16
  | none => zeros 16

/-- MAC of an ownership record (R453, R456). -/
def ownerMac (sec rec : List Byte) : List Byte :=
  (Config.shake256 (Config.shake256 (sec ++ ascii "OK9 REC") 32 ++ rec.take 448) 32).take 32

/-- OWN_DIGEST (R453). -/
def State.ownDigest (s : State) : List Byte :=
  match s.sec.inForce with
  | some r => if s.get F.SEC_STATUS_OWN = 1 then (Config.shake256 (r.take 448) 32).take 32 else zeros 32
  | none => zeros 32

/-- The attestation key's private part. -/
def State.akOf (s : State) (sec : List Byte) : List Byte := Config.shake256 (sec ++ ascii "OK9 AK" ++ s.ownDigest) 57

/-- A key ID: the first 8 bytes of SHAKE256 of the public key. -/
def keyId (pub : List Byte) : Nat := leNat (Config.shake256 pub 8)

/-- The owner keys of the record in force. -/
def State.ownerKeys (s : State) : List (List Byte) :=
  match s.sec.inForce with
  | some r => if s.get F.SEC_STATUS_OWN = 1 then (List.range (at_ r 7 1)).map fun i => (r.drop (64 + 64 * i)).take 57 else []
  | none => []

/-- The vendor slots whose key ID, mask and revoke fuse let them be used (R455). -/
def State.vendorSlots (s : State) (id use : Nat) : List (Nat × VendorSlot) :=
  (s.sec.slots.mapIdx fun i v => (i, v)).filter fun e =>
    !e.2.revoked && e.2.mask / use % 2 == 1 && keyId e.2.key == id

/-- The nodes from which control-window operations are accepted while no image is active; `none` for any node (R460). -/
def State.bootCtrlNodes (s : State) : Option (List Nat) :=
  match s.sec.inForce with
  | some r => if s.get F.SEC_STATUS_OWN = 1 then some ((List.range 4).map fun i => at_ r (32 + 2 * i) 2) else none
  | none => none

/-! Measurements (R461). -/

/-- A measurement register. -/
def State.measure (s : State) (r : Nat) : List Byte := smGet (fun _ => zeros 32) s.sec.meas r

/-- A register is extended, and the log records it while it has room; the event of a full log is raised once. -/
def State.extend (s : State) (reg row : Nat) (tag d : List Byte) : State :=
  let m := (Config.shake256 (s.measure reg ++ d) 32).take 32
  let s := { s with sec := { s.sec with meas := smPut (fun _ => zeros 32) s.sec.meas reg m } }
  if s.sec.log.length < 4096 then
    let e := leBytes 1 reg ++ leBytes 1 row ++ leBytes 6 s.beatNow ++ padTo 8 tag ++ d
    ({ s with sec := { s.sec with log := s.sec.log ++ [e] } }).set F.SEC_LOG_SEL_COUNT (s.sec.log.length + 1)
  else
    let s := s.setBit F.SEC_STATUS_LOG_FULL true
    if s.sec.fullRaised then s else { s with sec := { s.sec with fullRaised := true } }.raise EV_SEC_LOG_FULL 0 []

/-- The digest of the vendor slots with their masks, revoke fuses and F.
Assumption log: 128 (DEDUCED). -/
def State.fuseDigest (s : State) : List Byte :=
  Config.shake256 (Config.fuseImage (s.sec.slots.map fun v => (v.key, v.mask, v.revoked)) s.sec.floor) 32

/-- M0 is extended by the boot ROM and by the fuses.
Assumption log: 128 (DEDUCED). -/
def State.extendM0 (s : State) : State :=
  let s := s.extend 0 0 [] (Config.shake256 Config.bootRom 32)
  s.extend 0 0 [] s.fuseDigest

/-- M1 is extended by OWN_DIGEST. -/
def State.extendM1 (s : State) : State := s.extend 1 1 [] s.ownDigest

/-- SEC_STATUS follows the fuses. -/
def State.showFuses (s : State) : State :=
  let r := ((s.sec.slots.mapIdx fun i v => if v.revoked then 2 ^ i else 0).sum)
  (s.set F.SEC_STATUS_REVOKED r).set F.SEC_STATUS_FLOOR s.sec.floor

/-! The identity state (R452, R454, R456). -/

/-- The secret that a helper record reconstructs, checked against CHECK (R452). -/
def secretOf (helper : List Byte) : Option (List Byte) :=
  if helper.take 4 = [0x4F, 0x50, 0x55, 0x46] ∧ at_ helper 4 2 = 1 ∧ helper.length = 4152 then
    match Config.pufSecret helper with
    | some x => if Config.shake256 (x ++ ascii "OK9 CHECK") 32 = helper.drop 4120 then some x else none
    | none => none
  else none

/-- Whether an ownership copy is valid (R456). -/
def ownerValid (sec dev rec : List Byte) : Bool :=
  rec.length == 512 && rec.take 4 == [0x4F, 0x4F, 0x57, 0x4E] && at_ rec 4 2 == 1 && (rec.drop 16).take 16 == dev &&
    (rec.drop 448).take 32 == ownerMac sec rec && decide (at_ rec 6 1 ≤ 2) && decide (at_ rec 7 1 ≤ 4)

/-- Whether a copy is present: not 512 bytes of all zeros or all ones; one that cannot be read is present (R456). -/
def ownerPresent (rec : List Byte) : Bool := !(rec.length == 512 && (rec.all (· == 0) || rec.all (· == 0xFF)))

/-- A record comes into force. -/
def State.ownBy (s : State) (rec : Option (List Byte)) (b : Bool) : State :=
  let s := { s with sec := { s.sec with inForce := rec, forceB := b } }
  match rec with
  | none => (s.set F.SEC_STATUS_OWN 0).set F.SEC_STATUS_SEQ 0
  | some r => (s.set F.SEC_STATUS_OWN (if at_ r 7 1 = 0 then 0 else 1)).set F.SEC_STATUS_SEQ (at_ r 8 4)

/-- DEVICE_ID in its registers. -/
def State.showDevice (s : State) : State :=
  (s.set F.SEC_DEVID_LO_ID (leNat (s.deviceId.take 8))).set F.SEC_DEVID_HI_ID (leNat (s.deviceId.drop 8))

/-- The board identity module has been read: the secret is reconstructed and the record in force is chosen. -/
def State.identify (s : State) (helper a b : List Byte) : State :=
  let s := { s with sec := { s.sec with helper := helper, copyA := a, copyB := b, secret := secretOf helper } }
  match s.sec.secret with
  | none => ((s.ownBy none false).set F.SEC_STATUS_OWN 2).showDevice.raise EV_SEC_NO_IDENTITY 0 []
  | some x =>
    let va := ownerValid x s.deviceId a
    let vb := ownerValid x s.deviceId b
    let s := s.showDevice
    let s := if (ownerPresent a && !va) || (ownerPresent b && !vb) then s.raise EV_SEC_OWNER_INVALID 0 [] else s
    if va ∧ (!vb ∨ at_ b 8 4 ≤ at_ a 8 4) then s.ownBy (some a) false
    else if vb then s.ownBy (some b) true
    else s.ownBy none false

/-! Image signatures (R62, R459). -/

/-- The signature entries of a block. -/
def sigEntries (blk : List Byte) : List (List Byte) := (List.range (at_ blk 0 2)).map fun i => (blk.drop (8 + 136 * i)).take 136

/-- The vendor slots under which an entry is valid. -/
def State.vendorSigs (s : State) (msg e : List Byte) : List Nat :=
  if at_ e 0 1 = 1 then
    ((s.vendorSlots (at_ e 8 8) 1).filter fun v => Config.ed448Verify v.2.key (ascii "Odlith OK9 image") msg ((e.drop 16).take 114)).map Prod.fst
  else []

/-- Whether an entry is valid under an owner key. -/
def State.ownerSig (s : State) (msg e : List Byte) : Bool :=
  at_ e 0 1 == 2 && s.ownerKeys.any fun k =>
    keyId k == at_ e 8 8 && Config.ed448Verify k (ascii "Odlith OK9 image") msg ((e.drop 16).take 114)

/-- The vendor slots that have validly signed. -/
def State.signedBy (s : State) (msg blk : List Byte) : List Nat := ((sigEntries blk).flatMap fun e => s.vendorSigs msg e).dedup

/-- Whether the valid entries meet the ownership state's requirement (R459). -/
def State.signedOk (s : State) (msg blk : List Byte) : Bool :=
  let v := !(s.signedBy msg blk).isEmpty
  let o := (sigEntries blk).any fun e => s.ownerSig msg e
  match s.sec.inForce with
  | some r =>
    if s.get F.SEC_STATUS_OWN ≠ 1 then v
    else if at_ r 6 1 = 0 then v || o
    else if at_ r 6 1 = 1 then o
    else v && o
  | none => v

/-! Commands (R455 to R463). -/

/-- LAST_RESULT of SEC_STATUS. -/
def State.secResult (s : State) (r : Nat) : State := s.set F.SEC_STATUS_LAST_RESULT r

/-- Whether a command runs that turns others away (R465). -/
def State.secRuns (s : State) : Bool := s.sec.claim.isSome || s.sec.raising.isSome

/-- A command that is not turned away. -/
def State.secDo (s : State) (f : State → State) : State := if s.secRuns then s.secResult SR_BUSY else f s

/-- Whether a range may be read or written by the identity block.
Assumption log: 132 (DEDUCED). -/
def State.secAddrOk (s : State) (a n : Nat) : Bool :=
  a % 64 == 0 && s.rangeCode a n == E_NONE && s.winOf a != .control

/-- Whether a claim's own fields are in range and name this device (R457). -/
def State.claimOk (s : State) (c : List Byte) : Bool :=
  c.take 4 == [0x4F, 0x4F, 0x57, 0x4E] && at_ c 4 2 == 1 && decide (at_ c 6 1 ≤ 2) && decide (at_ c 7 1 ≤ 4) &&
    (c.drop 16).take 16 == s.deviceId

/-- Whether a claim is signed as the ownership state asks. -/
def State.claimSigned (s : State) (c : List Byte) : Bool :=
  s.get F.SEC_STATUS_OWN != 1 ||
    s.ownerKeys.any fun k => Config.ed448Verify k (ascii "Odlith OK9 owner") (c.take 448) ((c.drop 512).take 114)

/-- CLAIM (R457): the new record is formed and its write to the copy not in force begins.
Assumption log: 133 (DEDUCED). -/
def State.claim (s : State) : State :=
  let a := s.get F.SEC_ARG_ADDR
  if s.noIdentity then s.secResult SR_DENIED
  else if !s.secAddrOk a 626 then s.secResult SR_ADDRESS
  else
    let x := s.load a 626
    let s := x.st
    match s.sec.secret with
    | none => s.secResult SR_DENIED
    | some k =>
      if x.code ≠ E_NONE then s.secResult SR_ADDRESS
      else if !s.claimOk x.data ∨ !s.claimSigned x.data then s.secResult SR_DENIED
      else
        let seq := match s.sec.inForce with
          | some r => at_ r 8 4 + 1
          | none => 1
        let r := x.data.take 8 ++ leBytes 4 seq ++ (x.data.drop 12).take 436
        let r := r ++ ownerMac k r ++ (x.data.drop 480).take 32
        let b := s.sec.inForce.isSome && !s.sec.forceB
        ({ s with sec := { s.sec with claim := some ⟨r, b⟩ } }).secResult SR_OK

/-- CLAIM (R457). -/
def execClaim (s : State) : Res := s.live <| .next (s.secDo State.claim)

/-- CLAIM_READBACK: the written copy reads back; the new record governs where it matches (R457). -/
def State.claimReadback (s : State) (got : List Byte) : State :=
  match s.sec.claim with
  | none => s
  | some c =>
    let s := { s with sec := { s.sec with claim := none, copyA := if c.copyB then s.sec.copyA else got,
                                          copyB := if c.copyB then got else s.sec.copyB } }
    if got = c.rcd then ((s.ownBy (some c.rcd) c.copyB).extendM1).raise EV_SEC_OWNER_CHANGED 0 []
    else s.secResult SR_DENIED

/-- CLAIM_READBACK (R457).
Assumption log: 129 (DESIGN CHOICE). -/
def execClaimReadback (data : List Byte) (s : State) : Res := s.live <| .next (s.claimReadback data)

/-- Four registers of 8 bytes each. -/
def State.words4 (s : State) (f : Nat → RegField) : List Byte := (List.range 4).flatMap fun w => leBytes 8 (s.get (f w))

/-- The first 416 bytes of a quote (R462). -/
def State.quoteBody (s : State) (ak : List Byte) : List Byte :=
  ([0x4F, 0x51, 0x54, 0x45] : List Byte) ++ leBytes 2 1 ++ leBytes 1 (s.get F.SEC_STATUS_OWN) ++ leBytes 1 (s.get F.SEC_STATUS_LOG_FULL) ++ s.deviceId ++
    s.words4 F.SEC_NONCE_BYTES ++ leBytes 6 s.beatNow ++ zeros 2 ++ leBytes 8 (s.get F.IMG_ACTIVE_ID_ID) ++
    leBytes 4 (match s.img.active with | some i => i.svn | none => 0) ++ leBytes 4 s.sec.floor ++ leBytes 4 s.mapEpoch ++
    leBytes 4 s.sec.log.length ++ s.ownDigest.take 8 ++ (List.range 8).flatMap s.measure ++ Config.ed448Public ak ++ zeros 7

/-- A quote or certificate is formed and its write begins, under the rules of busy and address (R462). -/
def State.beginQuote (s : State) (n : Nat) (f : List Byte → List Byte) : State :=
  let a := s.get F.SEC_ARG_ADDR
  if s.bit F.SEC_STATUS_QUOTE_BUSY then s.secResult SR_BUSY
  else match s.sec.secret with
    | none => s.secResult SR_DENIED
    | some k =>
      if !s.secAddrOk a n ∨ touchesGraph a n then s.secResult SR_ADDRESS
      else
        (({ s with sec := { s.sec with quote := some ⟨a, f k⟩ } }).setBit F.SEC_STATUS_QUOTE_BUSY true).secResult SR_OK

/-- QUOTE (R462). -/
def State.quote (s : State) : State :=
  s.beginQuote 544 fun k =>
    let b := s.quoteBody (s.akOf k)
    b ++ padTo 114 (Config.ed448Sign (s.akOf k) (ascii "Odlith OK9 quote") b) ++ zeros 14

/-- QUOTE (R462). -/
def execQuote (s : State) : Res := s.live <| .next (s.secDo State.quote)

/-- AK_CERT (R463). -/
def State.akCert (s : State) : State :=
  s.beginQuote 288 fun k =>
    let b := ([0x4F, 0x41, 0x4B, 0x43] : List Byte) ++ s.deviceId ++ s.ownDigest ++ Config.ed448Public (s.akOf k) ++ Config.ed448Public (dikOf k)
    b ++ padTo 114 (Config.ed448Sign (dikOf k) (ascii "Odlith OK9 AK") b) ++ zeros 8

/-- AK_CERT (R463). -/
def execAkCert (s : State) : Res := s.live <| .next (s.secDo State.akCert)

/-- QUOTE_DONE: the bytes are written at SEC_ARG and QUOTE_BUSY clears; a store that fails sets ADDRESS (R462).
Assumption log: 132 (DEDUCED). -/
def State.quoteDone (s : State) : State :=
  match s.sec.quote with
  | none => s
  | some q =>
    let x := s.store q.addr q.bytes
    let s := ({ x.2 with sec := { x.2.sec with quote := none } }).setBit F.SEC_STATUS_QUOTE_BUSY false
    if x.1 = E_NONE then s else s.secResult SR_ADDRESS

/-- QUOTE_DONE (R462). -/
def execQuoteDone (s : State) : Res := s.live <| .next s.quoteDone

/-- EXTEND of M5 to M7 by SEC_EXTEND (R461, R465). -/
def State.extendBy (s : State) (arg : Nat) : State :=
  if 5 ≤ arg ∧ arg ≤ 7 then (s.extend arg 5 [] (s.words4 F.SEC_EXTEND_BYTES)).secResult SR_OK else s.secResult SR_DENIED

/-- EXTEND (R461). -/
def execExtend (arg : Nat) (s : State) : Res := s.live <| onUnit (arg < 8) (s.secDo fun s => s.extendBy arg)

/-- RAISE_FLOOR (R458). -/
def State.raiseFloor (s : State) : State :=
  match s.img.active with
  | none => s.secResult SR_DENIED
  | some i =>
    let f := min 64 i.svn
    if f ≤ s.sec.floor then s else { s with sec := { s.sec with raising := some f } }.secResult SR_OK

/-- RAISE_FLOOR (R458). -/
def execRaiseFloor (s : State) : Res := s.live <| .next (s.secDo State.raiseFloor)

/-- FLOOR_RAISED: the fuses are blown, M0 is extended again and the event is raised (R458, R461). -/
def State.floorRaised (s : State) : State :=
  match s.sec.raising with
  | none => s
  | some f =>
    ({ s with sec := { s.sec with floor := f, raising := none } }.showFuses).extendM0.raise EV_SEC_FLOOR_RAISED 0 []

/-- FLOOR_RAISED (R458). -/
def execFloorRaised (s : State) : Res := s.live <| .next s.floorRaised

/-- REVOKE_VKEY of a slot (R455).
Assumption log: 133 (DEDUCED). -/
def State.revoke (s : State) (k : Nat) : State :=
  let ok := decide (k < 4) && match s.img.active with
    | some i => i.vendor.any fun j => j != k && (match s.sec.slots[j]? with
        | some v => !v.revoked
        | none => false)
    | none => false
  if ok then
    let slots := s.sec.slots.mapIdx fun i v => if i = k then { v with revoked := true } else v
    (({ s with sec := { s.sec with slots := slots } }.showFuses).extendM0).secResult SR_OK
  else s.secResult SR_DENIED

/-- REVOKE_VKEY (R455). -/
def execRevokeVkey (slot : Nat) (s : State) : Res := s.live <| onUnit (slot < 8) (s.secDo fun s => s.revoke slot)

/-- What a node reset does to the identity block (R458, R461, R475): the secret and everything derived from it are gone; an interrupted raise
leaves F at a value from the old to the target.
Assumption log: 131 (DESIGN CHOICE). -/
def State.secReset (s : State) : State :=
  let f := match s.sec.raising with
    | some t => s.sec.floor + s.free % (t - s.sec.floor + 1)
    | none => s.sec.floor
  let b : SecSt := { slots := s.sec.slots, floor := f, helper := s.sec.helper, copyA := s.sec.copyA, copyB := s.sec.copyB }
  { s with sec := b, freeCtr := s.freeCtr + 1 }

end Sys2Proof.Machine
end

