-- ==== Sys2Proof/Machine/Issue.lean ====
section
/-! DEFINITION. What the units of the node issue: operations, Haldio messages, multicast stores (R394, R397, R495). -/

namespace Sys2Proof.Machine

/-- The script that makes the destination of an operation appear lost, where it serves a rehearsal request (R495).
Assumption log: 153 (DEDUCED). -/
def State.lostScript (s : State) (o : OutOp) : Option Nat := if o.rehearsal ∧ o.dst ≠ s.node then s.peerScript o.dst else none

/-- A peer's loss injected: counted, and reported once by the script (R495, R496).
Assumption log: 153 (DEDUCED). -/
def State.injectLost (s : State) (n : Nat) : State :=
  let s := s.injected n
  match s.script n with
  | some c =>
    if c.raised then s
    else
      let s := { s with ctl := { s.ctl with scripts := smPut (fun _ => none) s.ctl.scripts n (some { c with raised := true }) } }
      s.raiseAs (n + 1) EV_SKO_PEER_LOST 0 [] 0 0
  | none => s

/-- The members of a multicast group, if its descriptor and list are usable (R397). -/
def State.members (s : State) (g : Nat) : Option (List Nat) × State :=
  let x := s.load (s.get F.SKO_MCAST_BASE_ADDR + 8 * (g % 256)) 8
  let n := at_ x.data 6 2
  if x.code ≠ E_NONE ∨ n = 0 ∨ 1024 < n then (none, x.st)
  else
    let y := x.st.load (at_ x.data 0 6) (2 * n)
    let ms := (List.range n).map fun i => at_ y.data (2 * i) 2
    if y.code ≠ E_NONE ∨ ms.contains 0xFFFF ∨ !decide ms.Nodup then (none, y.st) else (some ms, y.st)

/-- A multicast store: one copy to each member; a group that is not usable ends it with nothing sent (R397). -/
def State.issueMcast (s : State) (o : OutOp) : State :=
  let x := s.members o.group
  let y := x.2.numbered o
  match x.1 with
  | none => (y.2.opDone y.1 E_MALFORMED []).raise EV_SKO_MCAST_INVALID 0 []
  | some ms =>
    let o := { y.1 with mcast := true, copies := ms }
    let s := { y.2 with sko := { y.2.sko with ops := y.2.sko.ops ++ [o] } }
    ms.foldl (fun s m => s.issueTo { o with dst := m, copies := [m] }) s

/-- An operation that a unit of the node issues. -/
def State.issue (s : State) (o : OutOp) : State :=
  if o.dst = 0xFFFF ∧ (o.op = OP_WRITE ∨ o.op = OP_WRITE_FLAG) then s.issueMcast o
  else
    match s.lostScript o with
    | some n => let x := s.numbered o; (x.2.opDone x.1 E_ABSENT []).injectLost n
    | none => s.issueOp o

/-- A Haldio message handed to the Skorath engine. -/
def State.sendHaldio (s : State) (issuer tag dst cls gten ty reqId deadline : Nat) (rehearsal : Bool)
    (payload : List Byte) : State :=
  s.issue (s.haldioOp issuer tag dst cls gten ty reqId deadline rehearsal payload)

end Sys2Proof.Machine
end

