-- ==== Sys2Proof/Machine/Reply.lean ====
section
/-! DEFINITION. Answers: the RESULT body (R271, R272), REDIRECT (R401), the in-flight table (R399), the accounts of tenants and
shards (R423 to R425), and the work that engines send to panel tiles (R209, R211). -/

namespace Sys2Proof.Machine

/-! Accounts (R423, R425). -/

/-- Counter i of a node tenant (R425). -/
def State.charge (s : State) (tenant i n : Nat) : State := s.bump (F.TEL_TEN_COUNT tenant i) n

/-- The slots of the delay telemetry that track a shard (R423). -/
def State.shardSlots (s : State) (kind object shard : Nat) : List Nat :=
  ((s.regs.filter fun e => decide (Reg.TEL_SHARD_KEY 0 ≤ e.1) && decide (e.1 < Reg.TEL_SHARD_KEY 1024) &&
      decide ((e.1 - Reg.TEL_SHARD_KEY 0) % 0x20 = 0)).map fun e => (e.1 - Reg.TEL_SHARD_KEY 0) / 0x20).filter fun n =>
    s.bit (F.TEL_SHARD_KEY_EN n) && s.get (F.TEL_SHARD_KEY_KIND n) == kind &&
      s.get (F.TEL_SHARD_KEY_OBJECT n) == object && s.get (F.TEL_SHARD_KEY_SHARD n) == shard

/-- One residence in a slot (R423). -/
def State.residence (s : State) (n ns : Nat) : State :=
  let s := (s.bump (F.TEL_SHARD_CNT_COUNT n) 1).bump (F.TEL_SHARD_SUM_SUM_NS n) ns
  let s := s.set (F.TEL_SHARD_MAX_MAX_NS n) (min (max (s.get (F.TEL_SHARD_MAX_MAX_NS n)) ns) (2 ^ 32 - 1))
  if s.get F.TEL_CFG_SLOW_US * 1000 < ns then s.bump (F.TEL_SHARD_CNT_SLOW n) 1 else s

/-! The in-flight table (R399). -/

/-- A request in flight by its name. -/
def State.flight (s : State) (src reqId : Nat) : Option InFlight :=
  s.sko.inflight.find? fun e => e.src == src && e.reqId == reqId

/-- SKO_LOAD.REQS follows the table; a table below its limit ends an episode of a full one. -/
def State.countFlights (s : State) : State :=
  let n := s.sko.inflight.length
  let s := s.set F.SKO_LOAD_REQS n
  if n < 65536 then { s with sko := { s.sko with tableFull := false } } else s

/-- A type whose residence is measured (R423). -/
def timedType (ty : Nat) : Bool := ty == T_QUERY_LS || ty == T_QUERY_GW || ty == T_QUERY_TEXT || ty == T_LOOKUP

/-- An answer has been handed over: residence is measured and the request leaves the table (R399, R423). -/
def State.leave (s : State) (src reqId : Nat) : State :=
  match s.flight src reqId with
  | none => s
  | some e =>
    let s := if timedType e.ty then
        (s.shardSlots e.kind e.object e.shard).foldl (fun s n => s.residence n (s.now - e.landed)) s
      else s
    ({ s with sko := { s.sko with inflight := s.sko.inflight.filter fun x => !(x.src == src && x.reqId == reqId) } }).countFlights

/-- A request that a reset ends with no answer leaves the table (R476). -/
def State.forget (s : State) (src reqId : Nat) : State :=
  ({ s with sko := { s.sko with inflight := s.sko.inflight.filter fun x => !(x.src == src && x.reqId == reqId) } }).countFlights

/-- Whether a CANCEL has reached a request (R403). -/
def State.cancelled (s : State) (src reqId : Nat) : Bool :=
  match s.flight src reqId with
  | some e => e.cancelled
  | none => false

/-- Whether a request was admitted against an OLD_COPY shard (R218). -/
def State.oldCopy (s : State) (src reqId : Nat) : Bool :=
  match s.flight src reqId with
  | some e => e.oldCopy
  | none => false

/-- Whether a rehearsal keeps a request from ever being answered (R495).
Assumption log: 152 (DEDUCED). -/
def State.silenced (s : State) (src reqId : Nat) : Bool :=
  match s.flight src reqId with
  | some e => e.silent
  | none => false

/-- The status flags that the request itself brings to an answer: EPOCH_OLD_SERVED, which an answer of E_EPOCH does not carry,
since the request was then not served (R86), and REHEARSAL (R496).
Assumption log: 200 (DEDUCED). -/
def State.reqFlags (s : State) (r : Req) (code : Nat) : Nat :=
  (match s.flight r.src r.reqId with
    | some e => if e.oldServed && code != E_EPOCH then SF_EPOCH_OLD_SERVED else 0
    | none => 0) + (if r.rehearsal then SF_REHEARSAL else 0)

/-! The RESULT (R271). -/

/-- The fixed 32 bytes of a RESULT body. -/
def resultHead (status k n tieOut partsIn partsMissing partsFailed dups payUnits : Nat) : List Byte :=
  leBytes 4 status ++ leBytes 2 k ++ leBytes 2 n ++ leBytes 4 tieOut ++ leBytes 2 partsIn ++ leBytes 2 partsMissing ++
    leBytes 2 partsFailed ++ leBytes 2 dups ++ leBytes 1 payUnits ++ zeros 11

/-- The accounts of one answer (R425).
Assumption log: 200 (DEDUCED). -/
def State.accountAnswer (s : State) (tenant flags code : Nat) (reply : Bool) : State :=
  let s := if reply then s.charge tenant 2 1 else s
  let s := if code ≠ E_NONE then s.charge tenant 6 1 else s
  if code = E_DEADLINE ∨ hasFlag flags SF_DEADLINE_PARTIAL then s.charge tenant 15 1 else s

/-- A RESULT message leaves for the requester of a request (R35, R271).
Assumption log: 76 (DEDUCED). -/
def State.sendResult (s : State) (unit : Nat) (r : Req) (body : List Byte) : State :=
  (s.bump F.SEL_CNT_MERGE_RESULTS 1).sendHaldio unit 0 r.src r.cls r.gten T_RESULT r.reqId 0 r.rehearsal body

/-- A RESULT with given flags, code and entry part; the request's own flags are added, and the request leaves the table.
A silenced request is never answered.
Assumption log: 200 (DEDUCED). -/
def State.answerWith (s : State) (unit : Nat) (r : Req) (flags code : Nat) (k n tieOut : Nat) (entries : List Byte) : State :=
  if s.silenced r.src r.reqId then s
  else
    let fl := orFlags flags (s.reqFlags r code)
    let pin := if code = E_NONE then 1 else 0
    let body := resultHead (statusWord fl code) k n tieOut pin 0 (1 - pin) 0 0 ++ entries
    (((s.sendResult unit r body).accountAnswer r.tenant fl code true).leave r.src r.reqId)

/-- A RESULT with no entries (R35, R271). -/
def State.answer (s : State) (unit : Nat) (r : Req) (code : Nat) : State := s.answerWith unit r 0 code 0 0 0 []

/-- A REDIRECT, the whole answer to a request (R401). -/
def State.redirect (s : State) (unit : Nat) (r : Req) (kind object shard home row : Nat) : State :=
  if s.silenced r.src r.reqId then s
  else
    let body := leBytes 1 kind ++ leBytes 1 object ++ leBytes 2 shard ++ leBytes 2 home ++ leBytes 1 r.ty ++ zeros 1 ++
      leBytes 4 row ++ zeros 4
    ((s.sendHaldio unit 0 r.src r.cls r.gten T_REDIRECT r.reqId 0 r.rehearsal body).charge r.tenant 2 1).leave r.src r.reqId

/-! Work for panel tiles. -/

/-- Tiles of the panels of a role that take tokens, in ascending order (R64, R78). -/
def State.roleTiles (s : State) (role : Nat) : List Nat :=
  (s.img.panels.filter fun e => s.get (F.IMG_PANEL_STATE_STATE e.1) == 1).flatMap fun e =>
    match e.2.run with
    | some d => if d.role = role then d.tiles.filter (fun t => s.get (F.TILE_STATUS_STATE t) != 5) else []
    | none => []

/-- Whether some panel of a role can serve work. -/
def State.served (s : State) (role : Nat) : Bool := !(s.roleTiles role).isEmpty

/-- The rings through which an engine feeds the tiles of a role: owned by such a tile, produced by an engine.
Assumption log: 56 (DESIGN CHOICE). -/
def State.roleRings (s : State) (role : Nat) : List Nat :=
  let ts := s.roleTiles role
  (s.rings.filter fun e => decide (0 < e.2.size) && e.2.ofTile && e.2.prodKind == 2 && ts.contains e.2.owner).map Prod.fst

/-- The ring of the tile with the most credits, the lowest tile number on a tie (R209); credits are the free granules.
Assumption log: 57 (DEDUCED). -/
def State.bestRing (s : State) (role : Nat) : Option Nat :=
  (s.roleRings role).foldl (fun b r =>
    match b with
    | none => some r
    | some q =>
      if s.ringRoom q < s.ringRoom r ∨ (s.ringRoom q = s.ringRoom r ∧ (s.ring r).owner < (s.ring q).owner) then some r else b)
    none

/-- The bytes of a local message: a Haldio envelope with the request's fields and a local TYPE, then the payload. -/
def State.workBytes (s : State) (w : WorkMsg) : List Byte :=
  leBytes 1 16 ++ leBytes 1 w.ty ++ leBytes 1 w.cls ++ leBytes 1 w.tenant ++ leBytes 4 s.mapEpoch ++ leBytes 8 w.reqId ++
    leBytes 6 w.deadline ++ leBytes 2 w.src ++ leBytes 4 w.payload.length ++ leBytes 1 (if w.rehearsal then 1 else 0) ++
    zeros 3 ++ w.payload

/-- Where a waiting message goes now: its own ring, or the best one of its role.
Assumption log: 57 (DEDUCED). -/
def State.workRing (s : State) (w : WorkMsg) : Option Nat :=
  match w.ring with
  | some g => some g
  | none => s.bestRing w.role

/-- The waiting messages that find room now are sent, the others stay in order; none overtakes an earlier one for the same named ring. -/
def State.flushList (s : State) (shut : List Nat) : List WorkMsg → State × List WorkMsg
  | [] => (s, [])
  | w :: r =>
    let m := s.workBytes w
    match s.workRing w with
    | some g =>
      if roundUp m.length 64 ≤ s.ringRoom g ∧ !(w.ring.isSome && shut.contains g) then (s.ringSend g m).flushList shut r
      else let x := s.flushList (if w.ring.isSome then g :: shut else shut) r; (x.1, w :: x.2)
    | none => let x := s.flushList shut r; (x.1, w :: x.2)

/-- The engines' waiting messages are tried again.
Assumption log: 56 (DESIGN CHOICE), 202 (DESIGN CHOICE). -/
def State.flushWork (s : State) : State :=
  if s.work.isEmpty then s
  else let x := s.flushList [] s.work; { x.1 with work := x.2 }

/-- An engine sends work to a panel by its role.
Assumption log: 56 (DESIGN CHOICE). -/
def State.sendWork (s : State) (role ty : Nat) (r : Req) (payload : List Byte) : State :=
  let w : WorkMsg :=
    { role := role, ty := ty, cls := r.cls, tenant := r.tenant, reqId := r.reqId, src := r.src, deadline := r.deadline,
      rehearsal := r.rehearsal, payload := payload }
  State.flushWork { s with work := s.work ++ [w] }

/-- An engine sends work to one ring, behind what it has already sent there.
Assumption log: 56 (DESIGN CHOICE). -/
def State.sendToRing (s : State) (ring ty : Nat) (r : Req) (payload : List Byte) : State :=
  let w : WorkMsg :=
    { role := 0, ty := ty, cls := r.cls, tenant := r.tenant, reqId := r.reqId, src := r.src, deadline := r.deadline,
      rehearsal := r.rehearsal, payload := payload, ring := some ring }
  State.flushWork { s with work := s.work ++ [w] }

/-- The failure that a tile has reported for a request's work, if any (R145). -/
def State.workFail (s : State) (ty src reqId : Nat) : Option Nat :=
  (s.fails.find? fun f => f.ty == ty && f.src == src && f.reqId == reqId).map WorkFail.code

/-- The reports on a request are dropped, and its messages not yet sent with them. -/
def State.dropWork (s : State) (src reqId : Nat) : State :=
  { s with fails := s.fails.filter (fun f => !(f.src == src && f.reqId == reqId)),
           work := s.work.filter (fun w => !(w.src == src && w.reqId == reqId)) }

/-! Operations of the node's own units (R383). -/

/-- A tag for an operation that a unit of the node issues and waits for. -/
def State.newTag (s : State) : Nat × State :=
  let q := s.sko.askNext
  (q, { s with sko := { s.sko with askNext := q + 1 } })

/-- How an operation of a unit ended, once it has: its code and the bytes of its response. -/
def State.finished (s : State) (unit tag : Nat) : Option (Nat × List Byte) :=
  (s.sko.done.find? fun d => d.1 == unit && d.2.1 == tag).map fun d => (d.2.2.1, d.2.2.2)

/-- The record of an operation's end is dropped. -/
def State.dropFinished (s : State) (unit tag : Nat) : State :=
  { s with sko := { s.sko with done := s.sko.done.filter fun d => !(d.1 == unit && d.2.1 == tag) } }

/-- Bytes stored at a node offset of another node, or of this one through its own loop; `tag` 0 where nobody waits for it. -/
def State.storeAt (s : State) (unit tag : Nat) (r : Req) (off : Nat) (d : List Byte) : State :=
  s.issue { op := OP_WRITE, dst := r.src, cls := r.cls, gten := r.gten, issuer := unit, tag := tag, offset := off, total := d.length, data := d,
            rehearsal := r.rehearsal }

end Sys2Proof.Machine
end

