-- ==== Sys2Proof/Machine/Flash.lean ====
section
/-! DEFINITION. The flash subsystem (R325 to R356): carrier states and controls, STORAGE requests in arrival order, programming, reads and
their decoding, calibration, discard, temperature. -/

namespace Sys2Proof.Machine

/-! Admitted requests (R336). -/

/-- A carrier's request, replaced where it stands. -/
def State.setOp (s : State) (c : Nat) (o : FlOp) : State :=
  let x := s.car c
  s.setCar c { x with ops := x.ops.map fun p => if p.r.src = o.r.src ∧ p.r.reqId = o.r.reqId then o else p }

/-- A request leaves its carrier. -/
def State.dropOp (s : State) (c : Nat) (o : FlOp) : State :=
  let x := s.car c
  let s := s.setCar c { x with ops := x.ops.filter fun p => !(p.r.src == o.r.src && p.r.reqId == o.r.reqId) }
  match o.ask with
  | some q => s.dropFinished U_FLASH q
  | none => s

/-- Whether two requests name a common block.
Assumption log: 101 (DEDUCED). -/
def FlOp.overlaps (a b : FlOp) : Bool := decide (a.first < b.first + b.count) && decide (b.first < a.first + a.count)

/-- Whether a request must wait for an earlier one on a common block; two reads need not (R336).
Assumption log: 101 (DEDUCED). -/
def flBlocked (before : List FlOp) (o : FlOp) : Bool := before.any fun p => p.overlaps o && !(p.op == 1 && o.op == 1)

/-- The requests admitted before one.
Assumption log: 101 (DEDUCED). -/
def opsBefore (o : FlOp) (l : List FlOp) : List FlOp := l.takeWhile fun p => !(p.r.src == o.r.src && p.r.reqId == o.r.reqId)

/-- Whether a request may proceed.
Assumption log: 101 (DEDUCED). -/
def CarrierSt.opFree (c : CarrierSt) (o : FlOp) : Bool := !flBlocked (opsBefore o c.ops) o

/-- A request ends with a code. -/
def State.endOp (s : State) (c : Nat) (o : FlOp) (code : Nat) : State := (s.dropOp c o).answer U_FLASH o.r code

/-- Whether the boundary of a write's deadline beat has come (R346). -/
def State.writeLate (s : State) (o : FlOp) : Bool := o.r.deadline != 0 && s.beat.valid && !beatAfter o.r.deadline s.beat.beat

/-- A pulled write takes its data once the load has ended; a failed load ends it with the load's code (R354). -/
def State.opPull (s : State) (c : Nat) (o : FlOp) : State :=
  match o.ask, o.data with
  | some q, none =>
    (match s.finished U_FLASH q with
      | some (code, d) =>
        if code = E_NONE then (s.dropFinished U_FLASH q).setOp c { o with data := some d, ask := none } else s.endOp c o code
      | none => s)
  | _, _ => s

/-- A waiting write is counted once (R345). -/
def State.opWaits (s : State) (c : Nat) (o : FlOp) : State :=
  if o.waited then s else (s.setOp c { o with waited := true }).bump (F.FL_CAR_CNT_EXC_THROTTLED c) 1

/-- The superblocks that hold a copy of a named block (R348). -/
def CarrierSt.copies (c : CarrierSt) (b n : Nat) : List Nat :=
  (c.supers.filter fun e => e.2.blocks.any fun k => decide (b ≤ k) && decide (k < b + n)).map Prod.fst

/-- A request that may proceed begins: a discard takes effect, a secure discard unmaps, a write is admitted to programming. The Boolean says
whether later writers are held back behind it (R345). -/
def State.opBegin (s : State) (c : Nat) (o : FlOp) (shut : Bool) : State × Bool :=
  let x := s.car c
  if !x.opFree o ∨ o.begun then (s, shut)
  else if o.op = 3 then ((s.setCar c (x.unmapRange o.first o.count)).endOp c o E_NONE, shut)
  else if o.op = 4 then
    if s.flHeld c then (s, shut)
    else ((s.setCar c (x.unmapRange o.first o.count)).setOp c { o with begun := true, supers := x.copies o.first o.count }, shut)
  else if o.op = 2 then
    if s.writeLate o then (s.endOp c o E_DEADLINE, shut)
    else if o.data.isNone then (s, shut)
    else if s.flHeld c then (s, shut)
    else if shut then (s.opWaits c o, true)
    else match s.flAdmit c o.count with
      | some s => (s.setOp c { o with begun := true }, false)
      | none => (s.opWaits c o, true)
  else (s, shut)

/-- Every admitted request is looked at in arrival order. -/
def State.flBegin (s : State) (c : Nat) : State :=
  ((s.car c).ops.foldl (fun (x : State × Bool) (o : FlOp) =>
    let s := x.1.opPull c o
    match (s.car c).ops.find? fun p => p.r.src == o.r.src && p.r.reqId == o.r.reqId with
    | some o => s.opBegin c o x.2
    | none => (s, x.2)) (s, false)).1

/-- What has not completed when work is broken off: each block of a write being programmed is old or new, an ATOMIC write whole (R338).
Assumption log: 100 (DESIGN CHOICE). -/
def State.breakWrite (s : State) (c : Nat) (o : FlOp) : State :=
  if o.op = 2 ∧ o.begun then
    let d := o.data.getD []
    let pick (i : Nat) : Bool := Config.freeValue (s.freeCtr + (if o.atomic then 0 else i)) % 2 == 1
    let x := (List.range o.count).foldl (fun (x : CarrierSt) i =>
      if pick i then (x.program (Config.freeValue s.freeCtr) (o.first + i)).putBlock (o.first + i) (padTo 4096 (d.drop (4096 * i))) else x) (s.car c)
    { s.setCar c x with freeCtr := s.freeCtr + o.count }
  else s

/-- Every admitted request of a carrier ends with a code, or in silence where a reset covers the node (R331, R338, R349, R355). -/
def State.endOps (s : State) (c : Nat) (code : Option Nat) : State :=
  (s.car c).ops.foldl (fun s o =>
    let s := s.breakWrite c o
    match code with
    | some e => s.endOp c o e
    | none => (s.dropOp c o).forget o.r.src o.r.reqId) s

/-! STORAGE messages (R352 to R354). -/

/-- The head of a ring that is a STORAGE of a given OP. -/
def State.headStorage (s : State) (ring : Nat) (op : Nat → Bool) : Option (List Byte × Req) :=
  match s.headReq ring U_FLASH T_STORAGE with
  | some (m, r) => if op (at_ r.payload 0 1) then some (m, r) else none
  | none => none

/-- Whether a STORAGE body's fields and length are in range for a carrier.
Assumption log: 102 (DEDUCED). -/
def storageOk (x : CarrierSt) (b : List Byte) : Bool :=
  let op := at_ b 0 1
  let n := at_ b 4 2
  let pull := op == 2 && at_ b 2 1 % 2 == 1
  let atomic := op == 2 && at_ b 2 1 / 2 % 2 == 1
  decide (32 ≤ b.length) && decide (1 ≤ op) && decide (op ≤ 5) &&
    (if op == 5 then n == 0 else decide (1 ≤ n) && decide (n ≤ 256)) && (!(op == 2 && !pull) || decide (n ≤ 16)) &&
    (!atomic || decide (n ≤ 64)) && (op == 5 || decide (at_ b 8 8 + n ≤ x.storeBlocks)) && at_ b 16 6 % 8 == 0 &&
    b.length == (if op == 2 && !pull then 32 + 4096 * n else 32)

/-- The request is checked in the order of R354: its code.
Assumption log: 102 (DEDUCED). -/
def State.storageCode (s : State) (r : Req) : Nat :=
  let b := r.payload
  let c := at_ b 1 1
  let op := at_ b 0 1
  if 8 ≤ c then E_MALFORMED
  else if !s.serving c ∨ (s.car c).running ≠ 0 then E_ABSENT
  else if !storageOk (s.car c) b then E_MALFORMED
  else if (op = 2 ∨ op = 4) ∧ s.carState c = CS_READ_ONLY then E_CAPACITY
  else if s.deadlinePassed r.deadline then E_DEADLINE
  else if s.cancelled r.src r.reqId then E_CANCELLED
  else E_NONE

/-- A request is admitted behind those that stand. -/
def State.admitOp (s : State) (c : Nat) (o : FlOp) : State :=
  let x := s.car c
  (s.setCar c { x with ops := x.ops ++ [o] }).flBegin c

/-- An accepted STORAGE request. -/
def State.storageDo (s : State) (r : Req) : State :=
  let b := r.payload
  let c := at_ b 1 1
  let x := s.car c
  let o : FlOp := { op := at_ b 0 1, r := { r with payload := [] }, first := x.storeFirst + at_ b 8 8, count := at_ b 4 2, off := at_ b 16 6 }
  if o.op = 5 then (s.storeAt U_FLASH 0 r o.off (x.record (s.get (F.FL_CAR_STATUS_TEMP_C c)))).answer U_FLASH r E_NONE
  else if o.op = 2 then
    let o := { o with atomic := at_ b 2 1 / 2 % 2 == 1 }
    if at_ b 2 1 % 2 = 1 then
      let t := s.newTag
      let s := t.2.issue { op := OP_READ, dst := r.src, cls := r.cls, gten := r.gten, issuer := U_FLASH, tag := t.1, offset := o.off, total := 4096 * o.count,
                             rehearsal := r.rehearsal }
      s.admitOp c { o with ask := some t.1 }
    else s.admitOp c { o with data := some (b.drop 32) }
  else s.admitOp c o

/-- A STORAGE message at the head of a ring is freed, checked and served. -/
def State.storage (s : State) (ring : Nat) (op : Nat → Bool) : State :=
  match s.headStorage ring op with
  | none => s
  | some (m, r) =>
    let s := s.popMsg ring m
    let code := s.storageCode r
    if code = E_NONE then s.storageDo r else s.answer U_FLASH r code

/-- STORAGE_READ (R353); a message whose OP is reserved is rejected here too (R354). -/
def execStorageRead (ring : Nat) (s : State) : Res := s.live <| onUnit (ring < 8192) (s.storage ring fun o => !([2, 3, 4, 5].contains o))
/-- STORAGE_WRITE (R337). -/
def execStorageWrite (ring : Nat) (s : State) : Res := s.live <| onUnit (ring < 8192) (s.storage ring (· == 2))
/-- STORAGE_DISCARD (R347). -/
def execStorageDiscard (ring : Nat) (s : State) : Res := s.live <| onUnit (ring < 8192) (s.storage ring (· == 3))
/-- SECURE_DISCARD (R348). -/
def execSecureDiscard (ring : Nat) (s : State) : Res := s.live <| onUnit (ring < 8192) (s.storage ring (· == 4))
/-- HEALTH (R353). -/
def execHealth (ring : Nat) (s : State) : Res := s.live <| onUnit (ring < 8192) (s.storage ring (· == 5))

/-! Programming (R337, R346). -/

/-- A program that fails: the erase block is retired and the data goes to another (R337). -/
def State.programFail (s : State) (c : Nat) : State :=
  let x := s.car c
  let x := { x with health := { x.health with programFail := satAdd 32 x.health.programFail 1 } }
  let x := match x.openSb with
    | some n => x.setSb n { x.sb n with retired := (x.sb n).retired + 1 }
    | none => x
  (s.setCar c x).judgeSpare c

/-- PROGRAM_DONE: a write that is being programmed is in NAND and in the map log, after `fails` program failures (R337). -/
def State.programDone (s : State) (c src reqId fails : Nat) : State :=
  let s := s.flBegin c
  match (s.car c).ops.find? fun o => o.r.src == src && o.r.reqId == reqId with
  | none => s
  | some o =>
    if o.op ≠ 2 ∨ !o.begun ∨ s.flHeld c then s
    else
      let s := (List.range fails).foldl (fun s _ => s.programFail c) s
      let s := s.flWrite c o.first o.count (o.data.getD [])
      ((s.charge o.r.tenant 11 o.count).endOp c o E_NONE).flBegin c

/-- PROGRAM_DONE (R337).
Assumption log: 98 (DESIGN CHOICE). -/
def execProgramDone (carrier src reqId fails : Nat) (s : State) : Res := s.live <| onUnit (carrier < 8) (s.programDone carrier src reqId fails)

/-- WRITE_DEADLINE: writes whose programming has not begun at the boundary of their deadline beat end (R346). -/
def State.writeDeadline (s : State) (c : Nat) : State :=
  let s := (s.car c).ops.foldl (fun s o => if o.op = 2 ∧ !o.begun ∧ s.writeLate o then s.endOp c o E_DEADLINE else s) s
  s.flBegin c

/-- WRITE_DEADLINE (R346). -/
def execWriteDeadline (carrier : Nat) (s : State) : Res := s.live <| onUnit (carrier < 8) (s.writeDeadline carrier)

/-! Reads (R339 to R342). -/

/-- A decoded live read adds its corrected bits to its class (R342).
Assumption log: 99 (DESIGN CHOICE). -/
def State.classRead (s : State) (c cls bits : Nat) : State :=
  let x := s.car c
  let k := smGet (fun _ => {}) x.classes cls
  let h := (bits :: k.hist).take (s.get F.FL_CAL_CAL_WINDOW)
  let k := { k with hist := h, mark := k.mark || decide (s.get F.FL_CAL_CAL_TRIGGER < h.sum) }
  s.setCar c { x with classes := smPut (fun _ => {}) x.classes cls k }

/-- Health counts of a read. -/
def State.countRead (s : State) (c retries : Nat) (bad : Bool) : State :=
  let x := s.car c
  let h := x.health
  let h := { h with hostRead := satAdd 64 h.hostRead 1, corrected := if retries = 0 then h.corrected else satAdd 32 h.corrected 1,
                    retries := satAdd 32 h.retries retries, uncorr := if bad then satAdd 32 h.uncorr 1 else h.uncorr }
  let s := (s.setCar c { x with health := h }).bump (F.FL_CAR_CNT_IO_READS c) 1
  let s := if retries = 0 then s else s.bump (F.FL_CAR_CNT_EXC_RETRIES c) 1
  if bad then s.bump (F.FL_CAR_CNT_EXC_UNCORR c) 1 else s

/-- The bit map of the reply record (R353). -/
def badMap (bad : List Nat) : List Byte :=
  (List.range 32).map fun i => BitVec.ofNat 8 (((List.range 8).map fun j => if bad.contains (8 * i + j) then 2 ^ j else 0).sum)

/-- A READ has read its last block: reply record, blocks, RESULT behind them (R353). -/
def State.readReply (s : State) (c : Nat) (o : FlOp) : State :=
  let s := s.storeAt U_FLASH 0 o.r o.off (badMap o.bad)
  let s := s.storeAt U_FLASH 0 o.r (o.off + 32) o.got.flatten
  (s.endOp c o (if o.bad.isEmpty then E_NONE else E_MEDIA)).flBegin c

/-- A block that a READ has read, or has found uncorrectable. -/
def State.readBlock (s : State) (c : Nat) (o : FlOp) (bad : Bool) : State :=
  let i := o.got.length
  let o := { o with got := o.got ++ [if bad then zeros 4096 else (s.car c).block (o.first + i)], bad := if bad then o.bad ++ [i] else o.bad }
  let s := (s.setOp c o).charge o.r.tenant 10 1
  if o.count ≤ i + 1 then s.readReply c o else s

/-- The READ whose next block is a given one. -/
def CarrierSt.reader (x : CarrierSt) (b : Nat) : Option FlOp :=
  x.ops.find? fun o => o.op == 1 && o.first + o.got.length == b && x.opFree o

/-- The outcome of one block's read: a block marked as a media error stays one, an uncorrectable one is marked and reported (R339 to R341).
Assumption log: 99 (DESIGN CHOICE). -/
def State.blockRead (s : State) (c b cls bits retries : Nat) (uncorr : Bool) : State :=
  let x := s.car c
  let marked := smGet (fun _ => false) x.bad b
  let o := x.reader b
  let script := match o with
    | some o => (s.serveFor o.r).mediaScript c
    | none => none
  match o, script with
  | some o, some m => (s.injectMedia m c c).readBlock c o true
  | _, _ =>
    let bad := uncorr || marked
    let s := if bad then s else s.classRead c cls bits
    let s := s.countRead c (if marked then 0 else min 9 retries) uncorr
    let s := if uncorr then
        let x := s.car c
        (s.setCar c { x with bad := smPut (fun _ => false) x.bad b true }).raise EV_FL_UNCORRECTABLE c [c, b, cls / 16]
      else s
    match o with
    | some o => s.readBlock c o bad
    | none => s

/-- FLASH_READ_DONE: the read of a logical block ends, for the READ that needs it next or for a tier extent or relocation. `readClass` is die × 16 +
class, `bits` the corrected bits, `retries` the retries and soft decodes it took (R339). -/
def State.flashRead (s : State) (c b cls bits retries : Nat) (uncorr : Bool) : State :=
  if s.serving c ∧ b < modelBlocks (s.car c).model then s.blockRead c b cls bits retries uncorr else s

/-- FLASH_READ_DONE (R339).
Assumption log: 98 (DESIGN CHOICE). -/
def execFlashReadDone (carrier block readClass bits retries : Nat) (uncorr : Bool) (s : State) : Res := s.live <|
  onUnit (carrier < 8 && readClass < 2048) (s.flashRead carrier block readClass bits retries uncorr)

/-- Whether the open shim window selects a kind of work (R498). -/
def State.shimFor (s : State) (bit : Nat) : Bool :=
  match s.ctl.shim with
  | some w => w.target / 2 ^ bit % 2 == 1
  | none => false

/-- CLASS_CALIBRATION_DONE: a marked class has been calibrated in a window that covers the carrier; better offsets are kept, worse ones dropped with
an event (R342, R343). -/
def State.classDone (s : State) (c cls : Nat) (offsets : List Nat) (better : Bool) : State :=
  let x := s.car c
  let k := smGet (fun _ => {}) x.classes cls
  if s.serving c ∧ k.mark ∧ s.shimFor 2 then
    let off := (List.range 7).map fun i => offsets.getD i 0 % 256
    let k := { k with offsets := if better then off else k.offsets, mark := false }
    let s := (s.setCar c { x with classes := smPut (fun _ => {}) x.classes cls k }).bump (F.FL_CAR_CNT_EXC_CAL_RUNS c) 1
    if better then s else s.raise EV_FL_CAL_FAIL c []
  else s

/-- CLASS_CALIBRATION_DONE (R343).
Assumption log: 98 (DESIGN CHOICE). -/
def execClassCalibrationDone (carrier readClass : Nat) (offsets : List Nat) (better : Bool) (s : State) : Res := s.live <|
  onUnit (carrier < 8 && readClass < 2048) (s.classDone carrier readClass offsets better)

/-! Reclamation and secure discard (R344, R345, R348). -/

/-- RECLAIM_VICTIM_FREED: the victim's valid blocks have been relocated, earning credit for waiting writers, and it is erased (R345).
Assumption log: 106 (DESIGN CHOICE). -/
def State.victimFreed (s : State) (c : Nat) : State :=
  let x := s.car c
  match x.victim with
  | none => s
  | some n =>
    if s.get (F.FL_CAR_STATUS_MODE c) = 0 ∨ s.flHeld c ∨ !s.serving c then s
    else
      let v := (x.valid n).length
      let b := superRoom x.model (x.sb n).retired
      let s := (s.setCar c { x with credit := x.credit + v * (b - v) }).flBegin c
      let x := s.car c
      let y := (x.relocate s.free n).erase n
      let s := (s.setCar c { y with credit := 0, victims := x.victims + 1 }).nextFree
      (s.flJudge c).flBegin c

/-- RECLAIM_VICTIM_FREED (R345). -/
def execReclaimVictimFreed (carrier : Nat) (s : State) : Res := s.live <| onUnit (carrier < 8) (s.victimFreed carrier)

/-- SECURE_DISCARD_DONE: every superblock that held a copy has been erased, its other valid blocks relocated first; `residue` erase blocks resisted
(R348). -/
def State.secureDone (s : State) (c residue : Nat) : State :=
  match (s.car c).ops.find? fun o => o.op == 4 && o.begun with
  | none => s
  | some o =>
    if s.flHeld c then s
    else
      let x := o.supers.foldl (fun (x : CarrierSt) n => (x.relocate s.free n).erase n) (s.car c)
      let x := { x with health := { x.health with eraseFail := satAdd 32 x.health.eraseFail residue } }
      let s := (s.setCar c x).nextFree.flJudge c
      let s := if residue = 0 then s else s.raise EV_FL_SECURE_RESIDUE c []
      let s := s.storeAt U_FLASH 0 o.r o.off (leBytes 4 residue ++ zeros 28)
      (s.endOp c o (if residue = 0 then E_NONE else E_MEDIA)).flBegin c

/-- SECURE_DISCARD_DONE (R348).
Assumption log: 98 (DESIGN CHOICE). -/
def execSecureDiscardDone (carrier residue : Nat) (s : State) : Res := s.live <| onUnit (carrier < 8) (s.secureDone carrier residue)

/-! Carrier states (R330, R331, R334, R349). -/

/-- Whether the map cache region of a carrier is valid (R335). -/
def State.mapcOk (s : State) (c : Nat) : Bool :=
  let reg (k : Nat) : Nat × Nat := (s.get (F.FL_CAR_MAPC_BASE_64K k) * 65536, s.get (F.FL_CAR_MAPC_SIZE_MIB k) * 1048576)
  let a := (reg c).1
  let n := (reg c).2
  let apart (b m : Nat) : Bool := decide (a + n ≤ b) || decide (b + m ≤ a) || m == 0
  decide (64 * 1048576 ≤ n) && s.inOneStack a n &&
    (List.range s.nStacks).all (fun k => apart (frameAddr k (s.get (F.TIER_POOL_FIRST k))) (65536 * s.get (F.TIER_POOL_COUNT k))) &&
    (List.range 8).all fun k => k == c || apart (reg k).1 (reg k).2

/-- An owned carrier goes on: MOUNTING where its map cache region is valid, else WAIT_CACHE. -/
def State.carGo (s : State) (c : Nat) : State := s.setCarState c (if s.mapcOk c then CS_MOUNTING else CS_WAIT_CACHE)

/-- CARRIER_INSERT: PRSNT_N has been low for 100 ms. The carrier that last left the socket comes back, or another one with the given owner, TIER
partition, model and blocks (R330). Before CARRIERS of startup, carriers stay unpowered (R511). -/
def State.carInsert (s : State) (c : Nat) (kept : Bool) (model : Nat) (owner : List Byte) (tier : Nat) (blocks : List (Nat × List Byte)) : State :=
  if s.carState c ≠ CS_ABSENT ∨ s.nCarriers ≤ c then s
  else
    let x := s.car c
    let y : CarrierSt :=
      if kept then x
      else
      { model := model, sysValid := !owner.isEmpty, owner := owner, tierBlocks := tier,
        blk := blocks.foldl (fun m e => smPut (fun _ => []) m e.1 (padTo 4096 e.2)) [] }
    let s := s.setCar c { y with present := true, ops := [], running := 0, alert := false }
    if 3 ≤ s.get F.NCTL_BOOT_STATE ∧ s.get F.NCTL_BOOT_STATE ≤ 6 then s.setCarState c CS_IDENTIFYING else s

/-- What happens to a carrier while the node has stopped changes nothing but the carrier (R504, R506).
Assumption log: 160 (DEDUCED). -/
def State.carPhysical (s t : State) : State := if s.dead then { s with fl := t.fl, freeCtr := t.freeCtr } else t

/-- CARRIER_INSERT (R330).
Assumption log: 107 (DESIGN CHOICE). -/
def execCarrierInsert (carrier : Nat) (kept : Bool) (model : Nat) (owner : List Byte) (tierBlocks : Nat) (blocks : List (Nat × List Byte))
    (s : State) : Res :=
  s.told (onUnit (carrier < 8) (s.carPhysical (s.carInsert carrier kept model owner tierBlocks blocks)))

/-- CARRIER_REMOVED: PRSNT_N rises (R330, R331, R338). -/
def State.carRemoved (s : State) (c : Nat) : State :=
  let x := s.car c
  if !x.present then s
  else
    let s := s.endOps c (some E_ABSENT)
    let y := s.car c
    let s := s.setCar c { y with present := false, running := 0, credit := 0 }
    if s.carState c = CS_ABSENT then s
    else
      let s := s.setCarState c CS_ABSENT
      let s := ((s.setBit (F.FL_CAR_STATUS_THERMAL c) false).set (F.FL_CAR_STATUS_MODE c) 0).set (F.FL_CAR_STATUS_FREE_SB c) 0
      ((s.set (F.FL_CAR_STATUS_MODEL c) 0).flShow).raise EV_FL_CARRIER_LOST c []

/-- CARRIER_REMOVED (R330). -/
def execCarrierRemoved (carrier : Nat) (s : State) : Res := s.told (onUnit (carrier < 8) (s.carPhysical (s.carRemoved carrier)))

/-- The checks of a carrier certificate and its response to a challenge, in order: the code of R464. `cert` is empty where the element does not answer,
`nand` the model that the NAND identifies.
Assumption log: 107 (DESIGN CHOICE). -/
def State.carCheck (s : State) (cert response : List Byte) (nand : Nat) : Nat :=
  if cert.length ≠ 256 then 2
  else if cert.take 4 ≠ [0x4F, 0x43, 0x52, 0x54] ∨ !([1, 2].contains (at_ cert 4 1)) then 3
  else
    let ks := s.vendorSlots (at_ cert 88 8) 2
    let pub := (cert.drop 28).take 57
    let ch := (Config.shake256 (leBytes 32 s.free ++ s.deviceId) 32).take 32
    if ks.isEmpty then 4
    else if !(ks.any fun k => Config.ed448Verify k.2.key (ascii "Odlith OC4 cert") (cert.take 96) ((cert.drop 96).take 114)) then 5
    else if at_ cert 4 1 ≠ nand then 6
    else if !Config.ed448Verify pub (ascii "Odlith OC4 challenge") ch response then 7
    else 1

/-- CARRIER_IDENTIFIED: the challenge ends, and the system area decides (R330, R454, R461, R464).
Assumption log: 107 (DESIGN CHOICE). -/
def State.carIdentified (s : State) (c : Nat) (cert response : List Byte) (nand : Nat) : State :=
  if s.carState c ≠ CS_IDENTIFYING then s
  else
    let code := s.carCheck cert response nand
    let s := s.nextFree.set (F.SEC_CAR_RESULT c) code
    let s := if code = 2 then s else s.set (F.SEC_CAR_KEY_ID c) (at_ cert 88 7)
    if code ≠ 1 then
      ((s.setCarState c CS_REFUSED).raise EV_SEC_CARRIER_AUTH_FAIL c [c, code]).raise EV_FL_CARRIER_REFUSED c []
    else
      let serial := (cert.drop 8).take 16
      let s := s.extend 4 4 serial (Config.shake256 ((cert.drop 28).take 57 ++ serial) 32)
      let x := s.car c
      let s := (s.setCar c { x with model := nand }).set (F.FL_CAR_STATUS_MODEL c) nand
      if !x.sysValid then s.setCarState c CS_BLANK
      else if s.noIdentity ∨ x.owner ≠ s.deviceId then s.setCarState c CS_FOREIGN
      else s.carGo c

/-- CARRIER_IDENTIFIED (R464). -/
def execCarrierIdentified (carrier : Nat) (cert response : List Byte) (nand : Nat) (s : State) : Res := s.live <|
  onUnit (carrier < 8) (s.carIdentified carrier cert response nand)

/-- A carrier comes into service (R330, R350). -/
def State.carOnline (s : State) (c : Nat) : State :=
  let x := s.car c
  let s := s.setCar c { x with health := { x.health with mounts := satAdd 32 x.health.mounts 1 } }
  let s := s.setCarState c (if x.health.readOnly then CS_READ_ONLY else CS_ONLINE)
  (s.flJudge c).checkFlashFull

/-- The end of a mount: in service, or FAILED; a carrier in service whose channels or whose system area can no longer be read is FAILED too, and
its requests end (R330). -/
def State.mountDone (s : State) (c : Nat) (ok : Bool) : State :=
  if s.carState c = CS_MOUNTING then (if ok then s.carOnline c else s.setCarState c CS_FAILED)
  else if (s.carState c = CS_ONLINE ∨ s.carState c = CS_READ_ONLY) ∧ !ok then (s.endOps c (some E_ABSENT)).setCarState c CS_FAILED
  else s

def FR_OK : Nat := 0
def FR_STATE : Nat := 1
def FR_BUSY : Nat := 2
def FR_FIELD : Nat := 3

/-- LAST_RESULT of FL_CAR_CTRL. -/
def State.carResult (s : State) (c r : Nat) : State := s.set (F.FL_CAR_CTRL_LAST_RESULT c) r

/-- A control of FL_CAR_CTRL in the states that have a row for it (R330, R356). -/
def State.carCtrl (s : State) (c : Nat) (states : List Nat) (f : State → State) : State :=
  if (s.car c).running ≠ 0 then s.carResult c FR_BUSY
  else if states.contains (s.carState c) then f (s.carResult c FR_OK)
  else s.carResult c FR_STATE

/-- A control that runs is noted. -/
def State.carRun (s : State) (c k : Nat) : State :=
  let x := s.car c
  s.setCar c { x with running := k }

/-- FORMAT (R334). -/
def State.carFormat (s : State) (c : Nat) : State :=
  s.carCtrl c [CS_BLANK, CS_FOREIGN] fun s =>
    if s.noIdentity then s.carResult c FR_STATE
    else if modelBlocks (s.car c).model < sysBlocks + s.get (F.FL_CAR_PART_TIER_BLOCKS c) then s.carResult c FR_FIELD
    else s.carRun c 1

/-- FORMAT (R334). -/
def execFormat (carrier : Nat) (s : State) : Res := s.live <| onUnit (carrier < 8) (s.carFormat carrier)

/-- FORMAT_DONE: the carrier is this node's, empty, ONLINE (R330, R334).
Assumption log: 104 (DESIGN CHOICE). -/
def State.formatDone (s : State) (c : Nat) : State :=
  let x := s.car c
  if x.running ≠ 1 then s
  else
    let y : CarrierSt :=
      { present := true, model := x.model, sysValid := true, owner := s.deviceId, tierBlocks := s.get (F.FL_CAR_PART_TIER_BLOCKS c),
        eraseBase := x.eraseBase + 1, alert := x.alert, classes := x.classes, health := x.health, mirror := x.mirror,
        supers := x.supers.map (fun e => (e.1, ({ erases := e.2.erases, retired := e.2.retired } : SuperBlk))) }
    (s.setCar c y).carOnline c

/-- FORMAT_DONE (R330). -/
def execFormatDone (carrier : Nat) (s : State) : Res := s.live <| onUnit (carrier < 8) (s.formatDone carrier)

/-- ADOPT: the owner is rewritten and the contents kept (R330).
Assumption log: 103 (DEDUCED). -/
def State.carAdopt (s : State) (c : Nat) : State :=
  s.carCtrl c [CS_FOREIGN] fun s =>
    if s.noIdentity then s.carResult c FR_STATE
    else
      let x := s.car c
      (s.setCar c { x with owner := s.deviceId }).carGo c

/-- ADOPT (R330). -/
def execAdopt (carrier : Nat) (s : State) : Res := s.live <| onUnit (carrier < 8) (s.carAdopt carrier)

/-- DETACH (R331). -/
def State.carDetach (s : State) (c : Nat) : State :=
  s.carCtrl c [CS_ONLINE, CS_READ_ONLY] fun s => (s.carRun c 3).setCarState c CS_DETACHING

/-- DETACH (R331). -/
def execDetach (carrier : Nat) (s : State) : Res := s.live <| onUnit (carrier < 8) (s.carDetach carrier)

/-- The health record is mirrored to the identity element (R350). -/
def State.mirrorHealth (s : State) (c : Nat) : State :=
  let x := s.car c
  s.setCar c { x with mirror := x.record (s.get (F.FL_CAR_STATUS_TEMP_C c)) }

/-- DETACH_DONE: admitted work has completed, the records are written, power is released (R331). -/
def State.detachDone (s : State) (c : Nat) : State :=
  if s.carState c ≠ CS_DETACHING ∨ !(s.car c).ops.isEmpty then s
  else ((s.mirrorHealth c).carRun c 0).setCarState c CS_DETACHED

/-- DETACH_DONE (R331). -/
def execDetachDone (carrier : Nat) (s : State) : Res := s.live <| onUnit (carrier < 8) (s.detachDone carrier)

/-- ATTACH (R330). -/
def State.carAttach (s : State) (c : Nat) : State :=
  s.carCtrl c [CS_DETACHED, CS_REFUSED, CS_FAILED] fun s => s.setCarState c CS_IDENTIFYING

/-- ATTACH (R330). -/
def execAttach (carrier : Nat) (s : State) : Res := s.live <| onUnit (carrier < 8) (s.carAttach carrier)

/-- SANITISE (R349). -/
def State.carSanitise (s : State) (c : Nat) : State :=
  s.carCtrl c [CS_ONLINE, CS_READ_ONLY] fun s => (s.endOps c (some E_CANCELLED)).carRun c 2

/-- SANITISE (R349). -/
def execSanitise (carrier : Nat) (s : State) : Res := s.live <| onUnit (carrier < 8) (s.carSanitise carrier)

/-- SANITISE_DONE: every erase block is erased; owner, partitions and health record stay (R349).
Assumption log: 104 (DESIGN CHOICE). -/
def State.sanitiseDone (s : State) (c residue : Nat) : State :=
  let x := s.car c
  if x.running ≠ 2 then s
  else
    let y := { x with blk := [], bad := [], place := [], openSb := none, credit := 0, running := 0, eraseBase := x.eraseBase + 1, sys := [],
                      supers := x.supers.map (fun e => (e.1, ({ erases := e.2.erases, retired := e.2.retired } : SuperBlk))),
                      health := { x.health with eraseFail := satAdd 32 x.health.eraseFail residue } }
    let s := (s.setCar c y).setCarState c CS_ONLINE
    let s := s.flJudge c
    if residue = 0 then s else s.raise EV_FL_SECURE_RESIDUE c []

/-- SANITISE_DONE (R349).
Assumption log: 98 (DESIGN CHOICE). -/
def execSanitiseDone (carrier residue : Nat) (s : State) : Res := s.live <| onUnit (carrier < 8) (s.sanitiseDone carrier residue)

/-! Temperature (R327, R351) and the health mirror (R350). -/

/-- Whether the node powers a carrier (R330). -/
def State.carPowered (s : State) (c : Nat) : Bool :=
  !([CS_ABSENT, CS_REFUSED, CS_DETACHED].contains (s.carState c))

/-- Programs and erases are suspended.
Assumption log: 105 (DESIGN CHOICE). -/
def State.carHot (s : State) (c : Nat) : State :=
  if s.flHeld c then s else (s.setBit (F.FL_CAR_STATUS_THERMAL c) true).raise EV_FL_THERMAL c []

/-- They resume where the reading is below 80 °C and ALERT_N is high. -/
def State.carCool (s : State) (c : Nat) : State :=
  if s.flHeld c ∧ signed 8 (s.get (F.FL_CAR_STATUS_TEMP_C c)) < 80 ∧ !(s.car c).alert then
    (s.setBit (F.FL_CAR_STATUS_THERMAL c) false).flBegin c
  else s

/-- CARRIER_TEMP_POLL: the reading as an 8-bit code (R327, R351). -/
def State.carTemp (s : State) (c t : Nat) : State :=
  if !s.carPowered c then s
  else
    let v := signed 8 t
    let x := s.car c
    let h := { x.health with tempMax := some (max v (x.health.tempMax.getD v)), hot := x.health.hot || decide (85 ≤ v) }
    let s := (s.setCar c { x with health := h }).set (F.FL_CAR_STATUS_TEMP_C c) (unsigned 8 v)
    if 85 ≤ v then s.carHot c else s.carCool c

/-- CARRIER_TEMP_POLL (R327). -/
def execCarrierTempPoll (carrier temp : Nat) (s : State) : Res := s.live <| onUnit (carrier < 8) (s.carTemp carrier temp)

/-- CARRIER_ALERT: CARc_ALERT_N goes low (R351).
Assumption log: 105 (DESIGN CHOICE). -/
def State.carAlert (s : State) (c : Nat) : State :=
  if !s.carPowered c then s
  else
    let x := s.car c
    (s.setCar c { x with alert := true }).carHot c

/-- CARRIER_ALERT (R351). -/
def execCarrierAlert (carrier : Nat) (s : State) : Res := s.live <| onUnit (carrier < 8) (s.carAlert carrier)

/-- CARRIER_ALERT_RELEASE: CARc_ALERT_N rises (R351). -/
def State.carAlertEnd (s : State) (c : Nat) : State :=
  let x := s.car c
  (s.setCar c { x with alert := false }).carCool c

/-- CARRIER_ALERT_RELEASE (R351). -/
def execCarrierAlertRelease (carrier : Nat) (s : State) : Res := s.live <| onUnit (carrier < 8) (s.carAlertEnd carrier)

/-- The band of TEMP_HIST that a temperature falls in (R350). -/
def tempBand (v : Int) : Nat :=
  if v < 0 then 0 else if v < 25 then 1 else if v < 45 then 2 else if v < 60 then 3 else if v < 70 then 4 else if v < 80 then 5
  else if v < 85 then 6 else 7

/-- HEALTH_MIRROR: one more hour of power, and the record is mirrored (R350).
Assumption log: 105 (DESIGN CHOICE). -/
def State.healthHour (s : State) (c : Nat) : State :=
  if !s.carPowered c ∨ !s.mounted c then s
  else
    let x := s.car c
    let k := tempBand (signed 8 (s.get (F.FL_CAR_STATUS_TEMP_C c)))
    let h := { x.health with hours := satAdd 32 x.health.hours 1, hist := x.health.hist.mapIdx (fun i n => if i = k then satAdd 32 n 1 else n) }
    (s.setCar c { x with health := h }).mirrorHealth c

/-- HEALTH_MIRROR (R350). -/
def execHealthMirror (carrier : Nat) (s : State) : Res := s.live <| onUnit (carrier < 8) (s.healthHour carrier)

/-! What other happenings do. -/

/-- A CANCEL: a READ stops at a block boundary, a WRITE before its programming begins (R354). -/
def State.flCancel (s : State) (src reqId : Nat) : State :=
  (List.range 8).foldl (fun s c =>
    match (s.car c).ops.find? fun o => o.r.src == src && o.r.reqId == reqId with
    | some o => if o.op = 1 ∨ (o.op = 2 ∧ !o.begun) then (s.endOp c o E_CANCELLED).flBegin c else s
    | none => s) s

/-- A reset of the flash subsystem of one die: requests end, present carriers are identified again (R355). -/
def State.flReset (s : State) (die : Nat) (silent : Bool) : State :=
  ((List.range 8).filter fun c => c / 4 == die).foldl (fun s c =>
    let s := s.endOps c (if silent then none else some E_CANCELLED)
    let x := s.car c
    let s := s.setCar c { x with running := 0, credit := 0 }
    if x.present ∧ s.carState c ≠ CS_ABSENT then s.setCarState c CS_IDENTIFYING else s) s

end Sys2Proof.Machine
end

