-- ==== Sys2Proof/Machine/Journal.lean ====
section
/-! DEFINITION. The journal of the open update epoch (R478, R480): the projection that an update is held against, and the record of
an applied one. -/

namespace Sys2Proof.Machine

/-- Journal bytes of the open epoch.
Assumption log: 47 (DESIGN CHOICE). -/
def State.journalBytes (s : State) : Nat := (s.epochs.journal.map List.length).sum

/-- The projected size of the open epoch's stream (R480).
Assumption log: 47 (DESIGN CHOICE). -/
def State.projected (s : State) : Nat := 4096 + s.journalBytes + 65600 * s.epochs.changed.length

/-- Whether an update may be applied (R480). -/
def State.journalRoom (s : State) : Bool :=
  decide ((s.projected : Int) ≤ (s.get F.NCTL_SEAL_BUF_HALF_MIB : Int) * 1048576 - 8388608)

/-- NCTL_SEAL_FILL follows the journal. -/
def State.countFill (s : State) : State :=
  (s.set F.NCTL_SEAL_FILL_PROJ_KIB ((s.projected + 1023) / 1024)).set F.NCTL_SEAL_FILL_PAGES s.epochs.changed.length

/-- The 64 KiB pages of stack windows and of the tiered space that a range touches.
Assumption log: 47 (DESIGN CHOICE). -/
def journalPages (a n : Nat) : List Nat :=
  if a < 0x001000000000 ∨ n = 0 then [] else rangeFrom (a / 65536) ((a + n - 1) / 65536 - a / 65536 + 1)

/-- An applied update is journalled: its message, and the pages that it has changed. -/
def State.journal (s : State) (msg : List Byte) (ranges : List (Nat × Nat)) : State :=
  let ps := ranges.flatMap fun r => journalPages r.1 r.2
  let m := padTo (roundUp msg.length 64) msg
  let e := s.epochs
  let changed := ps.foldl (fun c p => smPut (fun _ => false) c p true) e.changed
  State.countFill { s with epochs := { e with journal := e.journal ++ [m], changed := changed } }

/-! SYS records (R487). -/

/-- The lowest-numbered ONLINE carrier. -/
def State.sysCarrier (s : State) : Option Nat :=
  (List.range s.nCarriers).find? fun c => s.get (F.FL_CAR_STATUS_STATE c) == 7

/-- A record is written there, in place of the object's last one; without such a carrier the write fails.
Assumption log: 146 (DESIGN CHOICE). -/
def State.writeSys (s : State) (kind key : Nat) (vals : List Nat) : Bool × State :=
  match s.sysCarrier with
  | none => (false, s)
  | some c =>
    let x := s.car c
    let r : SysRec := ⟨kind, key, s.ctl.sysSeq, vals⟩
    let s := s.setCar c { x with sys := (x.sys.filter fun y => !(y.kind == kind && y.key == key)) ++ [r] }
    (true, { s with ctl := { s.ctl with sysSeq := s.ctl.sysSeq + 1 } })

/-- An object's record with the highest sequence number over every carrier that can be read.
Assumption log: 146 (DESIGN CHOICE). -/
def State.readSys (s : State) (kind key : Nat) : Option SysRec :=
  ((List.range s.nCarriers).flatMap fun c => if s.serving c then (s.car c).sys.filter fun y => y.kind == kind && y.key == key else []).foldl
    (fun b r => match b with
      | none => some r
      | some q => if q.seq < r.seq then some r else b) none

end Sys2Proof.Machine
end

