-- ==== Sys2Proof/Machine/Num.lean ====
section
/-! DEFINITION. Tile arithmetic (R90 to R122): exact values, the element formats, the one rounding, special values and their
flags, group sums and scales, conversions, the vector functions, the rotation, quantisation. -/

namespace Sys2Proof.Machine

/-! Exact values. -/

/-- A value: a sign with an exact magnitude `m × 2^e` (zeros keep their sign), an infinity, or NaN. -/
inductive Fp where
  | num (s : Bool) (m : Nat) (e : Int)
  | inf (s : Bool)
  | nan
deriving DecidableEq, Repr

/-! The flags of TILE_ARITH_FLAGS, as weights (R105). -/

def AF_NAN_IN : Nat := 1
def AF_NAN_MADE : Nat := 2
def AF_INF_IN : Nat := 4
def AF_OVERFLOW : Nat := 8
def AF_SAT_OUT : Nat := 16
def AF_NAN_DROPPED : Nat := 32
def AF_OPT_SKIP : Nat := 64

/-- A value with the flags that its computation has set (R105). -/
structure FV where
  v : Fp
  fl : Nat := 0
deriving DecidableEq, Repr

/-- +0. -/
def Fp.zero : Fp := .num false 0 0
/-- 1.0. -/
def Fp.one : Fp := .num false 1 0
/-- −∞. -/
def Fp.negInf : Fp := .inf true
/-- A value with no flags. -/
def Fp.fv (x : Fp) : FV := ⟨x, 0⟩

/-- The sign of a value; NaN has none. -/
def Fp.sign : Fp → Bool
  | .num s _ _ => s
  | .inf s => s
  | .nan => false

/-- The value with its sign inverted; exact (R112). -/
def Fp.neg : Fp → Fp
  | .num s m e => .num (!s) m e
  | .inf s => .inf (!s)
  | .nan => .nan

/-- Whether a value is a zero of either sign. -/
def Fp.isZero : Fp → Bool
  | .num _ m _ => m == 0
  | _ => false

/-- Whether a value is finite. -/
def Fp.isFinite : Fp → Bool
  | .num _ _ _ => true
  | _ => false

/-- The signed mantissa of a finite value at a weight not above its own. -/
def alignTo (s : Bool) (m : Nat) (e q : Int) : Int :=
  let v : Int := (m * 2 ^ (e - q).toNat : Nat)
  if s then -v else v

/-- Exact order of two values, neither NaN: `x < y`. Zeros are equal. -/
def Fp.lt (x y : Fp) : Bool :=
  match x, y with
  | .nan, _ => false
  | _, .nan => false
  | .inf a, .inf b => a && !b
  | .inf a, .num _ _ _ => a
  | .num _ _ _, .inf b => !b
  | .num a m e, .num b n f => decide (alignTo a m e (min e f) < alignTo b n f (min e f))

/-- Exact `x × y + z`, unrounded, by the rules for infinities and NaN of R102, R103; the Boolean says that it made a NaN from
operands that are none. An exact zero sum is +0 unless product and addend are both −0. -/
def Fp.fmaE (x y z : Fp) : Fp × Bool :=
  match x, y, z with
  | .nan, _, _ => (.nan, false)
  | _, .nan, _ => (.nan, false)
  | _, _, .nan => (.nan, false)
  | .num a m e, .num b n f, .num c p g =>
    let q := min (e + f) g
    let v := alignTo (a != b) (m * n) (e + f) q + alignTo c p g q
    if v = 0 then
      (.num (m * n == 0 && p == 0 && (a != b) && c) 0 0, false)
    else (.num (decide (v < 0)) v.natAbs q, false)
  | .num _ _ _, .num _ _ _, .inf c => (.inf c, false)
  | x, y, z =>
    if x.isZero || y.isZero then (.nan, true)
    else
      let s := x.sign != y.sign
      match z with
      | .inf c => if c = s then (.inf s, false) else (.nan, true)
      | _ => (.inf s, false)

/-! Floating-point formats (R90) and rounding (R101). -/

/-- A floating-point format: fraction bits, exponent bits, bias, the magnitude code of the largest finite value, that of the
canonical NaN (R102), whether the format has infinities. -/
structure FloatFmt where
  mb : Nat
  eb : Nat
  bias : Nat
  maxCode : Nat
  nanCode : Nat
  hasInf : Bool

def fmtE2M1 : FloatFmt := ⟨1, 2, 1, 7, 8, false⟩
def fmtE4M3 : FloatFmt := ⟨3, 4, 7, 0x7E, 0x7F, false⟩
def fmtE5M2 : FloatFmt := ⟨2, 5, 15, 0x7B, 0x7E, true⟩
def fmtFP16 : FloatFmt := ⟨10, 5, 15, 0x7BFF, 0x7E00, true⟩
def fmtBF16 : FloatFmt := ⟨7, 8, 127, 0x7F7F, 0x7FC0, true⟩
def fmtFP32 : FloatFmt := ⟨23, 8, 127, 0x7F7FFFFF, 0x7FC00000, true⟩

/-- The weight of the last bit of the format's subnormals. -/
def FloatFmt.emin (f : FloatFmt) : Int := 1 - f.bias - f.mb

/-- Round to nearest, ties to even, to `p` significant bits on a grid no finer than `2^emin`; `sticky` says that the exact
magnitude lies strictly between `m × 2^e` and `(m + 1) × 2^e`. -/
def roundMag (p : Nat) (emin : Int) (m : Nat) (e : Int) (sticky : Bool) : Nat × Int :=
  if m = 0 then (0, emin)
  else
    let q := max (e + (Nat.log2 m + 1 : Nat) - p) emin
    if q ≤ e then (m * 2 ^ (e - q).toNat, q)
    else
      let k := (q - e).toNat
      let keep := m / 2 ^ k
      let rest := m % 2 ^ k
      let half := 2 ^ (k - 1)
      let up := decide (half < rest) || (rest == half && (sticky || keep % 2 == 1))
      (keep + (if up then 1 else 0), q)

/-- The magnitude code of a rounded magnitude, as though the exponent range were unbounded upwards (R101). -/
def FloatFmt.roundCode (f : FloatFmt) (m : Nat) (e : Int) (sticky : Bool) : Nat :=
  let r := roundMag (f.mb + 1) f.emin m e sticky
  if r.1 = 0 then 0 else (r.2 - f.emin).toNat * 2 ^ f.mb + r.1

/-- The value of a code of the format (R90). -/
def FloatFmt.decode (f : FloatFmt) (c : Nat) : Fp :=
  let s := c / 2 ^ (f.mb + f.eb) % 2 == 1
  let mag := c % 2 ^ (f.mb + f.eb)
  let x := mag / 2 ^ f.mb
  let y := mag % 2 ^ f.mb
  if mag ≤ f.maxCode then
    (if x = 0 then .num s y f.emin else .num s (2 ^ f.mb + y) (f.emin + (x - 1 : Nat)))
  else if f.hasInf ∧ y = 0 then .inf s
  else .nan

/-- The sign bit of a code. -/
def FloatFmt.signBit (f : FloatFmt) (s : Bool) : Nat := if s then 2 ^ (f.mb + f.eb) else 0

/-- The code of a value that the format holds; NaN is canonical (R102). -/
def FloatFmt.encode (f : FloatFmt) : Fp → Nat
  | .num s m e => f.signBit s + f.roundCode m e false
  | .inf s => f.signBit s + (2 ^ f.eb - 1) * 2 ^ f.mb
  | .nan => f.nanCode

/-- rne32 of an exact magnitude: a magnitude beyond the largest finite value becomes an infinity and sets OVERFLOW (R101). -/
def rne32Mag (s : Bool) (m : Nat) (e : Int) (sticky : Bool) (fl : Nat) : FV :=
  let c := fmtFP32.roundCode m e sticky
  if fmtFP32.maxCode < c then ⟨.inf s, Nat.lor fl AF_OVERFLOW⟩
  else ⟨fmtFP32.decode (fmtFP32.signBit s + c), fl⟩

/-- rne32 of an exact value (R101). -/
def rne32 (x : Fp) (fl : Nat) : FV :=
  match x with
  | .num s m e => rne32Mag s m e false fl
  | y => ⟨y, fl⟩

/-- fma32: `x × y + z` rounded once (R100, R108).
Assumption log: 33 (PRESUMED). -/
def fFma (x y z : FV) : FV :=
  let r := Fp.fmaE x.v y.v z.v
  rne32 r.1 (Nat.lor (Nat.lor (Nat.lor x.fl y.fl) z.fl) (if r.2 then AF_NAN_MADE else 0))

/-- Rounded product.
Assumption log: 33 (PRESUMED). -/
def fMul (x y : FV) : FV := fFma x y ⟨.num true 0 0, 0⟩

/-- Rounded sum.
Assumption log: 33 (PRESUMED). -/
def fAdd (x y : FV) : FV := fFma x ⟨.one, 0⟩ y

/-- Negation. -/
def fNeg (x : FV) : FV := ⟨x.v.neg, x.fl⟩

/-- Rounded difference. -/
def fSub (x y : FV) : FV := fAdd x (fNeg y)

/-- A quotient of finite magnitudes with at least 64 good bits and its sticky bit. -/
def divMag (m n : Nat) : Nat × Int × Bool :=
  let k := 66 + Nat.log2 n
  (m * 2 ^ k / n, -(k : Int), decide (m * 2 ^ k % n ≠ 0))

/-- Exact quotient as magnitude, weight and sticky bit, for finite operands and a divisor that is not zero. -/
def quot (m : Nat) (e : Int) (n : Nat) (f : Int) : Nat × Int × Bool :=
  let r := divMag m n
  (r.1, r.2.1 + e - f, r.2.2)

/-- div_rn (R101, R102). The manual states no result for a non-zero value over zero: a free value stands there.
Assumption log: 32 (DESIGN CHOICE). -/
def fDiv (x y : FV) : FV :=
  let fl := Nat.lor x.fl y.fl
  match x.v, y.v with
  | .nan, _ => ⟨.nan, fl⟩
  | _, .nan => ⟨.nan, fl⟩
  | .inf _, .inf _ => ⟨.nan, Nat.lor fl AF_NAN_MADE⟩
  | .inf a, .num b n _ =>
    if n = 0 then ⟨fmtFP32.decode (Config.overZero (fmtFP32.encode x.v + 2 ^ 32 * fmtFP32.encode y.v)), fl⟩
    else ⟨.inf (a != b), fl⟩
  | .num a _ _, .inf b => ⟨.num (a != b) 0 0, fl⟩
  | .num a m e, .num b n f =>
    if n = 0 then
      (if m = 0 then ⟨.nan, Nat.lor fl AF_NAN_MADE⟩
       else ⟨fmtFP32.decode (Config.overZero (fmtFP32.encode x.v + 2 ^ 32 * fmtFP32.encode y.v)), fl⟩)
    else
      let q := quot m e n f
      rne32Mag (a != b) q.1 q.2.1 q.2.2 fl

/-- The integer square root by bits: `fuel` bits are tried from the highest down. -/
def isqrtBits : Nat → Nat → Nat → Nat
  | 0, _, r => r
  | k + 1, n, r => let t := r + 2 ^ k; isqrtBits k n (if t * t ≤ n then t else r)

/-- The integer square root. -/
def isqrt (n : Nat) : Nat := isqrtBits (Nat.log2 n / 2 + 1) n 0

/-- sqrt_rn (R102): NaN for a negative non-zero value; a zero keeps its sign. -/
def fSqrt (x : FV) : FV :=
  match x.v with
  | .nan => x
  | .inf s => if s then ⟨.nan, Nat.lor x.fl AF_NAN_MADE⟩ else x
  | .num s m e =>
    if m = 0 then x
    else if s then ⟨.nan, Nat.lor x.fl AF_NAN_MADE⟩
    else
      let m2 := if e % 2 = 0 then m else 2 * m
      let e2 := if e % 2 = 0 then e else e - 1
      let n := m2 * 2 ^ 128
      let r := isqrt n
      rne32Mag false r (e2 / 2 - 64) (decide (r * r ≠ n)) x.fl

/-- rsqrt_rn: the reciprocal of the square root, correctly rounded (R108). The manual states no result for zero.
Assumption log: 32 (DESIGN CHOICE). -/
def fRsqrt (x : FV) : FV :=
  match x.v with
  | .nan => x
  | .inf s => if s then ⟨.nan, Nat.lor x.fl AF_NAN_MADE⟩ else ⟨.zero, x.fl⟩
  | .num s m e =>
    if m = 0 then ⟨fmtFP32.decode (Config.overZero (fmtFP32.encode x.v)), x.fl⟩
    else if s then ⟨.nan, Nat.lor x.fl AF_NAN_MADE⟩
    else
      let m2 := if e % 2 = 0 then m else 2 * m
      let e2 := if e % 2 = 0 then e else e - 1
      let k := 66 + Nat.log2 m2
      let r := isqrt (2 ^ (2 * k) / m2)
      rne32Mag false r (-(k : Int) - e2 / 2) (decide (r * r * m2 ≠ 2 ^ (2 * k))) x.fl

/-- max (R108): NaN with a NaN operand; +0 above −0. -/
def fMax (x y : FV) : FV :=
  let fl := Nat.lor x.fl y.fl
  match x.v, y.v with
  | .nan, _ => ⟨.nan, fl⟩
  | _, .nan => ⟨.nan, fl⟩
  | a, b => if a.isZero && b.isZero then ⟨if a.sign then b else a, fl⟩ else if a.lt b then ⟨b, fl⟩ else ⟨a, fl⟩

/-- min (R108): NaN with a NaN operand; −0 below +0. -/
def fMin (x y : FV) : FV :=
  let fl := Nat.lor x.fl y.fl
  match x.v, y.v with
  | .nan, _ => ⟨.nan, fl⟩
  | _, .nan => ⟨.nan, fl⟩
  | a, b => if a.isZero && b.isZero then ⟨if a.sign then a else b, fl⟩ else if b.lt a then ⟨b, fl⟩ else ⟨a, fl⟩

/-! Correctly rounded exp, exp2, log, log2 and tanh (R108), from fixed-point values with 256 fraction bits. -/

/-- ln 2 × 2^256, rounded down. -/
def ln2Fix : Nat := 80260960185991308862233904206310070533990667611589946606122867505419956976171

/-- e^r × 2^256 for r × 2^256 below ln 2 × 2^256, by its series. -/
def expSeries : Nat → Nat → Nat → Nat → Nat
  | 0, _, _, _ => 0
  | fuel + 1, k, term, r => term + expSeries fuel (k + 1) (term * r / 2 ^ 256 / (k + 1)) r

/-- e^x for a fixed-point x: a mantissa with 256 fraction bits and a power of two. -/
def expFix (x : Int) : Nat × Int :=
  let n := x / (ln2Fix : Int)
  let r := (x - n * ln2Fix).toNat
  (expSeries 80 0 (2 ^ 256) r, n - 256)

/-- A finite value as a fixed-point number with 256 fraction bits. -/
def toFix (s : Bool) (m : Nat) (e : Int) : Int :=
  let v : Int := if 0 ≤ e + 256 then (m * 2 ^ (e + 256).toNat : Nat) else (m / 2 ^ (-(e + 256)).toNat : Nat)
  if s then -v else v

/-- exp. -/
def fExp (x : FV) : FV :=
  match x.v with
  | .nan => x
  | .inf s => if s then ⟨.zero, x.fl⟩ else x
  | .num s m e =>
    if m = 0 then ⟨.one, x.fl⟩
    else if Fp.lt (.num false 128 0) x.v then ⟨.inf false, Nat.lor x.fl AF_OVERFLOW⟩
    else if Fp.lt x.v (.num true 128 0) then ⟨.zero, x.fl⟩
    else
      let r := expFix (toFix s m e)
      rne32Mag false r.1 r.2 true x.fl

/-- Whether a finite value is an integer, and which. -/
def intOf (s : Bool) (m : Nat) (e : Int) : Option Int :=
  if 0 ≤ e then some (alignTo s m e 0)
  else if m % 2 ^ (-e).toNat = 0 then some (alignTo s (m / 2 ^ (-e).toNat) 0 0) else none

/-- exp2. -/
def fExp2 (x : FV) : FV :=
  match x.v with
  | .nan => x
  | .inf s => if s then ⟨.zero, x.fl⟩ else x
  | .num s m e =>
    if Fp.lt (.num false 200 0) x.v then ⟨.inf false, Nat.lor x.fl AF_OVERFLOW⟩
    else if Fp.lt x.v (.num true 200 0) then ⟨.zero, x.fl⟩
    else match intOf s m e with
      | some k => rne32Mag false 1 k false x.fl
      | none =>
        let v := toFix s m e
        let n := v / (2 ^ 256 : Int)
        let r := (v - n * 2 ^ 256).toNat
        rne32Mag false (expSeries 80 0 (2 ^ 256) (r * ln2Fix / 2 ^ 256)) (n - 256) true x.fl

/-- The series of atanh: z + z³/3 + z⁵/5 + … in fixed point. -/
def atanhSeries : Nat → Nat → Nat → Nat → Nat
  | 0, _, _, _ => 0
  | fuel + 1, k, term, z2 => term / (2 * k + 1) + atanhSeries fuel (k + 1) (term * z2 / 2 ^ 256) z2

/-- ln of a positive finite value in fixed point. -/
def lnFix (m : Nat) (e : Int) : Int :=
  let l := Nat.log2 m
  let z := (m - 2 ^ l) * 2 ^ 256 / (m + 2 ^ l)
  (e + l) * ln2Fix + (2 * atanhSeries 90 0 z (z * z / 2 ^ 256) : Nat)

/-- log, and log2 with `two`; `none` for a zero, whose result the manual does not state.
Assumption log: 32 (DESIGN CHOICE). -/
def fLog (two : Bool) (x : FV) : Option FV :=
  match x.v with
  | .nan => some x
  | .inf s => if s then some ⟨.nan, Nat.lor x.fl AF_NAN_MADE⟩ else some x
  | .num s m e =>
    if m = 0 then none
    else if s then some ⟨.nan, Nat.lor x.fl AF_NAN_MADE⟩
    else if m = 2 ^ Nat.log2 m ∧ (two ∨ e + (Nat.log2 m : Nat) = 0) then
      let k : Int := e + (Nat.log2 m : Nat)
      some (rne32Mag (decide (k < 0)) k.natAbs 0 false x.fl)
    else
      let v := lnFix m e
      if two then
        let q := v.natAbs * 2 ^ 256 / ln2Fix
        some (rne32Mag (decide (v < 0)) q (-256) true x.fl)
      else some (rne32Mag (decide (v < 0)) v.natAbs (-256) true x.fl)

/-- tanh. Up to 2^-13 the result rounds to x, from 16 upwards to 1. -/
def fTanh (x : FV) : FV :=
  match x.v with
  | .nan => x
  | .inf s => ⟨.num s 1 0, x.fl⟩
  | .num s m e =>
    if !Fp.lt (.num false 1 (-13)) (.num false m e) then x
    else if Fp.lt (.num false 16 0) (.num false m e) then ⟨.num s 1 0, x.fl⟩
    else
      let r := expFix (-2 * toFix false m e)
      let w := r.1 / 2 ^ (-(r.2 + 256)).toNat
      rne32Mag s ((2 ^ 256 - w) * 2 ^ 256 / (2 ^ 256 + w)) (-256) true x.fl

/-! Reductions over a vector register (R109). -/

/-- One level of the tree: entry i with entry i + h. -/
def treeLevel (f : FV → FV → FV) (h : Nat) (x : List FV) : List FV := List.zipWith f (x.take h) (x.drop h)

/-- The tree over one register of 256 elements.
Assumption log: 34 (DEDUCED). -/
def regTree (f : FV → FV → FV) (fill : FV) (x : List FV) : FV :=
  let v := (x ++ List.replicate (256 - x.length) fill).take 256
  (([128, 64, 32, 16, 8, 4, 2, 1].foldl (fun x h => treeLevel f h x) v).head?).getD fill

/-- The registers of a longer run: pieces of 256 elements. -/
def regRuns : Nat → List FV → List (List FV)
  | 0, _ => []
  | n + 1, x => if x.isEmpty then [] else x.take 256 :: regRuns n (x.drop 256)

/-- A reduction: each register by the tree, the results in ascending register order (R109). -/
def treeOver (f : FV → FV → FV) (fill : FV) (x : List FV) : FV :=
  match (regRuns (x.length / 256 + 1) x).map (regTree f fill) with
  | [] => fill
  | a :: r => r.foldl f a

/-- sum_tree (R109).
Assumption log: 34 (DEDUCED). -/
def sumTree (x : List FV) : FV := treeOver fAdd (Fp.fv .zero) x

/-- max_tree (R109). -/
def maxTree (x : List FV) : FV := treeOver fMax (Fp.fv .negInf) x

/-! Element formats by their FMT codes (R131). -/

/-- Bits of an element. -/
def fmtBits (f : Nat) : Nat :=
  match f with
  | 0x01 | 0x04 | 0x07 => 4
  | 0x0A | 0x0B => 16
  | 0x0C => 32
  | 0x0E => 128
  | _ => 8

/-- The code of element i of an array (R91). -/
def elemCode (f : Nat) (b : List Byte) (i : Nat) : Nat :=
  match fmtBits f with
  | 4 => leNat ((b.drop (i / 2)).take 1) / 16 ^ (i % 2) % 16
  | 16 => leNat ((b.drop (2 * i)).take 2)
  | 32 => leNat ((b.drop (4 * i)).take 4)
  | _ => leNat ((b.drop i).take 1)

/-- An integer as a value. -/
def Fp.ofInt (x : Int) : Fp := .num (decide (x < 0)) x.natAbs 0

/-- The value of an element code (R90, R92). GRAD8 elements are E5M2 (R118). -/
def elemVal (f c : Nat) : Fp :=
  match f with
  | 0x01 => .ofInt (signed 4 c)
  | 0x02 => .ofInt (signed 8 c)
  | 0x03 => .num false c 0
  | 0x04 | 0x07 => fmtE2M1.decode c
  | 0x05 | 0x08 => fmtE4M3.decode c
  | 0x06 | 0x09 | 0x0D => fmtE5M2.decode c
  | 0x0A => fmtFP16.decode c
  | 0x0B => fmtBF16.decode c
  | _ => fmtFP32.decode c

/-- The flags of reading an element or a scale (R102, R105). -/
def readFlags (x : Fp) : Nat :=
  match x with
  | .nan => AF_NAN_IN
  | .inf _ => AF_INF_IN
  | _ => 0

/-- An element read. -/
def elemFV (f : Nat) (b : List Byte) (i : Nat) : FV :=
  let x := elemVal f (elemCode f b i)
  ⟨x, readFlags x⟩

/-- The value of an E8M0 scale (R90). -/
def e8m0Val (x : Nat) : Fp := if x = 255 then .nan else .num false 1 ((x : Int) - 127)

/-- Entry i of a scale array (R93): kind 1 BF16, 2 E8M0; no scale is 1.0. -/
def scaleFV (kind : Nat) (b : List Byte) (i : Nat) : FV :=
  let x := match kind with
    | 1 => fmtBF16.decode (leNat ((b.drop (2 * i)).take 2))
    | 2 => e8m0Val (leNat ((b.drop i).take 1))
    | _ => .one
  ⟨x, readFlags x⟩

/-! Group sums and scales (R96 to R99, R103). -/

/-- The value of a group whose products include an infinity or a NaN (R103): flags of NaN making included. -/
def specialGroup (ps : List (Fp × Fp)) : FV :=
  let infs := ps.filter fun p => !p.1.isFinite || !p.2.isFinite
  if infs.any fun p => p.1 == .nan || p.2 == .nan then ⟨.nan, 0⟩
  else if infs.any fun p => p.1.isZero || p.2.isZero then ⟨.nan, AF_NAN_MADE⟩
  else
    let ss := infs.map fun p => p.1.sign != p.2.sign
    if ss.all id then ⟨.inf true, 0⟩ else if ss.any id then ⟨.nan, AF_NAN_MADE⟩ else ⟨.inf false, 0⟩

/-- The exact sum of exact products (R96).
Assumption log: 34 (DEDUCED). -/
def exactSum (ps : List (Fp × Fp)) : Fp :=
  ps.foldl (fun acc p => (Fp.fmaE p.1 p.2 acc).1) .zero

/-- Sign, magnitude and weight of the product of two finite values. -/
def prodMag (p : Fp × Fp) : Bool × Nat × Int :=
  match p.1, p.2 with
  | .num a m e, .num b n f => (a != b, m * n, e + f)
  | _, _ => (false, 0, 0)

/-- The window sum (R97).
Assumption log: 34 (DEDUCED). -/
def windowSum (ps : List (Fp × Fp)) : Fp :=
  let qs := (ps.map prodMag).filter fun q => q.2.1 != 0
  match qs with
  | [] => .zero
  | q :: r =>
    let top (x : Bool × Nat × Int) : Int := x.2.2 + (Nat.log2 x.2.1 + 1 : Nat)
    let t := r.foldl (fun t x => max t (top x)) (top q)
    let part (x : Bool × Nat × Int) : Int :=
      let k := x.2.2 - t + 56
      let v : Int := if 0 ≤ k then (x.2.1 * 2 ^ k.toNat : Nat) else (x.2.1 / 2 ^ (-k).toNat : Nat)
      if x.1 then -v else v
    let sum := qs.foldl (fun acc x => acc + part x) 0
    .num (decide (sum < 0)) sum.natAbs (t - 56)

/-- The value of a group (R96, R97, R103). -/
def groupValue (window : Bool) (ps : List (FV × FV)) : FV :=
  let fl := ps.foldl (fun a p => Nat.lor a (Nat.lor p.1.fl p.2.fl)) 0
  let vs := ps.map fun p => (p.1.v, p.2.v)
  let r := if vs.all fun p => p.1.isFinite && p.2.isFinite then
      (⟨if window then windowSum vs else exactSum vs, 0⟩ : FV)
    else specialGroup vs
  ⟨r.v, Nat.lor fl r.fl⟩

/-- The group scale c (R98): two E8M0 scales give an exact power of two, BF16 scales a rounded product. -/
def groupScale (e8 : Bool) (sa sb : FV) : FV :=
  if e8 then
    let r := Fp.fmaE sa.v sb.v (.num true 0 0)
    ⟨r.1, Nat.lor (Nat.lor sa.fl sb.fl) (if r.2 then AF_NAN_MADE else 0)⟩
  else fMul sa sb

/-! Conversion from FP32 (R104). -/

/-- An output code with its flags, whether it counts as saturated, whether as NaN. -/
structure Conv where
  code : Nat
  fl : Nat
  sat : Nat := 0
  nan : Nat := 0

/-- A value rounded to an integer, ties to even. -/
def rneInt (m : Nat) (e : Int) (sticky : Bool) : Nat :=
  let r := roundMag (Nat.log2 m + 2) 0 m e sticky
  r.1 * 2 ^ r.2.toNat

/-- Conversion to an integer format of `w` bits. -/
def convInt (w : Nat) (x : FV) : Conv :=
  match x.v with
  | .nan => ⟨0, Nat.lor x.fl AF_NAN_DROPPED, 0, 1⟩
  | .inf s => ⟨if s then 2 ^ (w - 1) else 2 ^ (w - 1) - 1, Nat.lor x.fl AF_SAT_OUT, 1, 0⟩
  | .num s m e =>
    let v : Int := if s then -(rneInt m e false : Int) else rneInt m e false
    if v < -(2 ^ (w - 1) : Int) then ⟨2 ^ (w - 1), Nat.lor x.fl AF_SAT_OUT, 1, 0⟩
    else if (2 ^ (w - 1) : Int) - 1 < v then ⟨2 ^ (w - 1) - 1, Nat.lor x.fl AF_SAT_OUT, 1, 0⟩
    else ⟨unsigned w v, x.fl, 0, 0⟩

/-- Conversion to a floating-point format; `sat` is the saturate parameter, which E4M3 ignores. -/
def convFloat (f : FloatFmt) (sat : Bool) (x : FV) : Conv :=
  match x.v with
  | .nan => ⟨f.nanCode, x.fl, 0, 1⟩
  | .inf s =>
    if sat || !f.hasInf then ⟨f.signBit s + f.maxCode, Nat.lor x.fl AF_SAT_OUT, 1, 0⟩ else ⟨f.encode (.inf s), x.fl, 0, 0⟩
  | .num s m e =>
    let c := f.roundCode m e false
    if c ≤ f.maxCode then ⟨f.signBit s + c, x.fl, 0, 0⟩
    else if sat || !f.hasInf then ⟨f.signBit s + f.maxCode, Nat.lor x.fl AF_SAT_OUT, 1, 0⟩
    else ⟨f.encode (.inf s), x.fl, 0, 0⟩

/-- Conversion of an FP32 value to an output format by its FMT code (R104). -/
def convert (fmt : Nat) (sat : Bool) (x : FV) : Conv :=
  match fmt with
  | 0x01 => convInt 4 x
  | 0x02 => convInt 8 x
  | 0x05 => convFloat fmtE4M3 sat x
  | 0x06 => convFloat fmtE5M2 sat x
  | 0x0A => convFloat fmtFP16 sat x
  | 0x0B => convFloat fmtBF16 sat x
  | _ => ⟨fmtFP32.encode x.v, x.fl, 0, if x.v == .nan then 1 else 0⟩

/-- The bytes of an array of element codes (R91). -/
def packCodes (bits : Nat) (cs : List Nat) : List Byte :=
  if bits = 4 then pack4 cs else cs.flatMap (leBytes (bits / 8))
where
  /-- Two 4-bit elements to a byte. -/
  pack4 : List Nat → List Byte
    | [] => []
    | [a] => [BitVec.ofNat 8 (a % 16)]
    | a :: b :: r => BitVec.ofNat 8 (a % 16 + 16 * (b % 16)) :: pack4 r

/-- A distance or score made canonical for selection (R106): −0 becomes +0. -/
def canonScore (x : FV) : FV := if x.v.isZero then ⟨.zero, x.fl⟩ else x

/-- The total sort key of an FP32 code: negative codes inverted, others with the top bit set (R255). -/
def keyOfBits (b : Nat) : Nat := if b / 2 ^ 31 % 2 = 1 then 2 ^ 32 - 1 - b % 2 ^ 32 else b % 2 ^ 32 + 2 ^ 31

/-! Quantisation (R113 to R116). -/

/-- amax: the largest magnitude among finite elements, as magnitude and weight; 0 where there is none. -/
def amaxOf (xs : List FV) : Nat × Int :=
  xs.foldl (fun a x => match x.v with
    | .num _ m e => if Fp.lt (.num false a.1 a.2) (.num false m e) then (m, e) else a
    | _ => a) (0, 0)

/-- qmax of a target format (R113). -/
def qmaxOf (fmt : Nat) : Nat :=
  match fmt with
  | 0x01 => 7
  | 0x02 => 127
  | 0x05 => 448
  | _ => 57344

/-- rne_bf16 of an exact quotient; 2^-133 where it rounds to 0 (R113). -/
def bf16Quot (m : Nat) (e : Int) (q : Nat) : Nat :=
  let d := quot m e q 0
  let c := fmtBF16.roundCode d.1 d.2.1 d.2.2
  if c = 0 then 1 else c

/-- The code of a computed BF16 group scale (R113). -/
def groupScaleCode (qmax : Nat) (xs : List FV) : Nat :=
  let a := amaxOf xs
  if a.1 = 0 then 0x3F80 else bf16Quot a.1 a.2 qmax

/-- The code of ± a magnitude on the element grid of a format, clamped to its largest; the Boolean says that it was. -/
def gridCode (fmt : Nat) (s : Bool) (m : Nat) (e : Int) (sticky : Bool) : Nat × Bool :=
  let float (f : FloatFmt) : Nat × Bool :=
    let c := f.roundCode m e sticky
    if f.maxCode < c then (f.signBit s + f.maxCode, true) else (f.signBit s + c, false)
  let int (w : Nat) : Nat × Bool :=
    let q := 2 ^ (w - 1) - 1
    let v := rneInt m e sticky
    let c := min v q
    (unsigned w (if s then -(c : Int) else c), decide (q < v))
  match fmt with
  | 0x01 => int 4
  | 0x02 => int 8
  | 0x04 | 0x07 => float fmtE2M1
  | 0x05 | 0x08 => float fmtE4M3
  | _ => float fmtE5M2

/-- The largest element of a sign. -/
def gridMax (fmt : Nat) (s : Bool) : Nat := (gridCode fmt s 1 200 false).1

/-- One element over a scale (R113, R114, R116); `given` makes a clamp of a finite element count.
Assumption log: 53 (DESIGN CHOICE). -/
def quantElem (fmt : Nat) (given : Bool) (scale : Fp) (x : FV) : Conv :=
  match x.v, scale with
  | .nan, _ => ⟨0, Nat.lor x.fl AF_NAN_DROPPED, 0, 1⟩
  | .inf s, _ => ⟨gridMax fmt s, Nat.lor x.fl (AF_INF_IN + AF_SAT_OUT), 1, 0⟩
  | .num s m e, .num b n f =>
    if n = 0 then
      let y := fDiv x ⟨scale, 0⟩
      match y.v with
      | .nan => ⟨0, Nat.lor y.fl AF_NAN_DROPPED, 0, 1⟩
      | .inf t => ⟨gridMax fmt t, Nat.lor y.fl AF_SAT_OUT, 1, 0⟩
      | .num t p g =>
        let c := gridCode fmt t p g false
        ⟨c.1, y.fl, 0, 0⟩
    else
      let q := quot m e n f
      let c := gridCode fmt (s != b) q.1 q.2.1 q.2.2
      if c.2 && given then ⟨c.1, Nat.lor x.fl AF_SAT_OUT, 1, 0⟩ else ⟨c.1, x.fl, 0, 0⟩
  | .num s _ _, .inf b => ⟨(gridCode fmt (s != b) 0 0 false).1, x.fl, 0, 0⟩
  | .num _ _ _, .nan => ⟨0, Nat.lor x.fl AF_NAN_DROPPED, 0, 1⟩

/-- emax of an MX element format (R115). -/
def mxEmax (fmt : Nat) : Int :=
  match fmt with
  | 0x07 => 2
  | 0x08 => 8
  | _ => 15

/-- The shared scale byte of an MX block (R115). -/
def mxScale (fmt : Nat) (xs : List FV) : Nat :=
  let a := amaxOf xs
  if a.1 = 0 then 0
  else
    let x : Int := (Nat.log2 a.1 : Nat) + a.2 - mxEmax fmt
    (max (-127) (min 127 x) + 127).toNat

/-- One element of an MX block (R115, R116). -/
def mxElem (fmt : Nat) (zero : Bool) (scale : Nat) (x : FV) : Conv :=
  match x.v with
  | .nan => ⟨0, Nat.lor x.fl AF_NAN_DROPPED, 0, 1⟩
  | .inf s => ⟨gridMax fmt s, Nat.lor x.fl (AF_INF_IN + AF_SAT_OUT), 1, 0⟩
  | .num s m e => if zero then ⟨0, x.fl, 0, 0⟩ else ⟨(gridCode fmt s m (e - scale + 127) false).1, x.fl, 0, 0⟩

/-- Dequantisation: rne32(e × s) (R117). -/
def dequant (e s : FV) : FV := fMul e s

/-! The rotation (R110 to R112). -/

/-- One stage of the transform over one block: pairs (i, i + h) for every i with bit h clear. -/
def hadStage (h : Nat) : Nat → List FV → List FV
  | 0, x => x
  | fuel + 1, x =>
    if x.isEmpty then []
    else
      let u := x.take h
      let v := (x.drop h).take h
      List.zipWith fAdd u v ++ List.zipWith fSub u v ++ hadStage h fuel (x.drop (2 * h))

/-- The transform of a block of `n` elements, stages in ascending h (R110). -/
def hadamard (n : Nat) (x : List FV) : List FV :=
  ([1, 2, 4, 8, 16, 32, 64, 128].filter fun h => decide (h < n)).foldl (fun x h => hadStage h n x) x

/-- c_n (R111). -/
def hadScale (n : Nat) : FV :=
  Fp.fv (fmtFP32.decode (match n with
    | 16 => 0x3E800000 | 32 => 0x3E3504F3 | 64 => 0x3E000000 | 128 => 0x3DB504F3 | _ => 0x3D800000))

/-- The sign vector applied to a block (R112). -/
def signFlip (d : List Byte) (x : List FV) : List FV :=
  x.mapIdx fun i v => if leNat ((d.drop (i / 8)).take 1) / 2 ^ (i % 8) % 2 = 1 then fNeg v else v

/-- A rotation of one block (R110 to R112). -/
def rotateBlock (n : Nat) (inverse ortho : Bool) (d : List Byte) (x : List FV) : List FV :=
  let x := if inverse then x else signFlip d x
  let y := hadamard n x
  let y := if ortho then y.map fun v => fMul v (hadScale n) else y
  if inverse then signFlip d y else y

/-! Philox4x32-10 (Salmon et al., 2011), which R137 names. -/

/-- Ten rounds. -/
def philox : Nat → Nat × Nat × Nat × Nat → Nat × Nat → Nat × Nat × Nat × Nat
  | 0, c, _ => c
  | n + 1, (a, b, c, d), (k, l) =>
    let p := 0xD2511F53 * a
    let q := 0xCD9E8D57 * c
    philox n (Nat.xor (Nat.xor (q / 2 ^ 32) b) k, q % 2 ^ 32, Nat.xor (Nat.xor (p / 2 ^ 32) d) l, p % 2 ^ 32)
      ((k + 0x9E3779B9) % 2 ^ 32, (l + 0xBB67AE85) % 2 ^ 32)

end Sys2Proof.Machine
end

