-- ==== Sys2Proof/Machine/Entry.lean ====
section
/-! DEFINITION. Result entries (R252 to R256): layout, entry order, the sentinel, sorting. -/

namespace Sys2Proof.Machine

/-- The 16 bytes of an entry. -/
def Entry.bytes (e : Entry) : List Byte :=
  leBytes 6 e.vid ++ leBytes 1 e.stage ++ leBytes 1 e.flags ++ leBytes 4 e.key ++ leBytes 2 e.shard ++ [0, 0]

/-- The entry that 16 bytes spell. -/
def entryOf (b : List Byte) : Entry :=
  { vid := leNat (b.take 6), stage := leNat ((b.drop 6).take 1), flags := leNat ((b.drop 7).take 1),
    key := leNat ((b.drop 8).take 4), shard := leNat ((b.drop 12).take 2) }

/-- The first `n` entries of a byte string. -/
def entriesOf : Nat → List Byte → List Entry
  | 0, _ => []
  | n + 1, b => entryOf (b.take 16) :: entriesOf n (b.drop 16)

/-- The VID that names no vector (R255). -/
def sentinelVid : Nat := 0xFFFFFFFFFFFF

/-- A sentinel is one by its VID only (R255). -/
def Entry.sentinel (e : Entry) : Bool := e.vid == sentinelVid

/-- The sentinel entry (R255). -/
def sentinelEntry : Entry := { vid := sentinelVid, key := 0xFFFFFFFF, shard := 0xFFFF }

/-- The place of an entry in entry order: key, VID, shard (R254). -/
def Entry.rank (e : Entry) : Nat := (e.key * 2 ^ 48 + e.vid) * 65536 + e.shard

/-- An entry inserted in entry order, after its equals.
Assumption log: 72 (DESIGN CHOICE). -/
def insertEntry (e : Entry) : List Entry → List Entry
  | [] => [e]
  | d :: r => if e.rank < d.rank then e :: d :: r else d :: insertEntry e r

/-- Entries in entry order (R254). -/
def sortEntries (es : List Entry) : List Entry := es.foldl (fun a e => insertEntry e a) []

/-- The fixed-point key of a sum (R159, R253). -/
def fixedKey (x : Int) : Nat := (min (max (x + 2 ^ 31) 0) (2 ^ 32 - 1)).toNat

end Sys2Proof.Machine
end

