-- ==== Sys2Proof/Machine/TileOps.lean ====
section
/-! DEFINITION. Operator descriptors (R129 to R131), operand slots and their run-time checks (R130, R132), and what each arithmetic
operator of R133 computes. -/

namespace Sys2Proof.Machine

/-! Descriptors. -/

/-- An operand slot (R130). -/
structure Slot where
  addr : Nat := 0
  fmt : Nat := 0
  mode : Nat := 3
  scaleAddr : Nat := 0
  scaleKind : Nat := 0
deriving DecidableEq, Repr

/-- A descriptor (R129). -/
structure Desc where
  op : Nat := 0
  last : Bool := true
  sat : Bool := false
  next : Nat := 0
  outClass : Nat := 0
  outCredits : Nat := 0
  subop : Nat := 0
  s0 : Slot := {}
  s1 : Slot := {}
  s2 : Slot := {}
  s3 : Slot := {}
  p : List Nat := []
deriving DecidableEq, Repr

/-- A slot from its 16 bytes. -/
def slotOf (b : List Byte) : Slot :=
  { addr := at_ b 0 6, fmt := at_ b 6 1, mode := at_ b 7 1 % 4, scaleAddr := at_ b 8 6, scaleKind := at_ b 14 1 }

/-- A descriptor from its 128 bytes. -/
def descOf (b : List Byte) : Desc :=
  { op := at_ b 0 1, last := at_ b 1 1 % 2 == 1, sat := at_ b 1 1 / 2 % 2 == 1, next := at_ b 2 2, outClass := at_ b 4 1,
    outCredits := at_ b 6 2, subop := at_ b 8 4, s0 := slotOf (b.drop 16), s1 := slotOf (b.drop 32),
    s2 := slotOf (b.drop 48), s3 := slotOf (b.drop 64), p := (List.range 12).map fun i => at_ b (80 + 4 * i) 4 }

/-- Parameter i.
Assumption log: 31 (DESIGN CHOICE). -/
def Desc.par (d : Desc) (i : Nat) : Nat := d.p.getD i 0

/-- A real parameter (R129).
Assumption log: 31 (DESIGN CHOICE). -/
def Desc.real (d : Desc) (i : Nat) : FV :=
  let x := fmtFP32.decode (d.par i)
  ⟨x, readFlags x⟩

/-- Node offset of a tile's bench (R24, R123). -/
def benchBase (t : Nat) : Nat := t * 0x400000

/-- First bench offset of the graph region (R123). -/
def graphOff : Nat := 0x3C0000

/-- Offset of descriptor i within an OP_GRAPH body with `n` entries (R127). -/
def descOff (n i : Nat) : Nat := roundUp (16 + 8 * n) 64 + 128 * i

/-! What an operand access or an operator answers. -/

/-- The rows of R146 that end a chain. -/
inductive TileFault where
  | none
  | desc
  | operand
  | bench
  | graph
deriving DecidableEq, Repr

/-- Bytes of an operand, or the fault that its access meets: the row of R146, the error code, the bench offset of a poisoned
word.
Assumption log: 35 (DESIGN CHOICE). -/
structure OpAcc where
  fault : TileFault := .none
  code : Nat := 0
  off : Nat := 0
  data : List Byte := []
  st : State

/-- The bench offset of the first bad word that a range touches. -/
def State.firstBad (s : State) (a n : Nat) : Nat :=
  match (s.eccHits a n).find? fun e => decide (2 ≤ e.2) with
  | some e => e.1 % 0x400000
  | none => 0

/-- A load from the tile's own bench (R124, R146). -/
def State.loadBench (s : State) (t off n : Nat) : OpAcc :=
  let a := benchBase t + off
  let bad := s.firstBad a n
  let x := s.loadPhys a n
  if x.code = E_NONE then { data := x.data, st := x.st }
  else if graphOff ≤ bad then { fault := .graph, code := E_MEDIA, off := bad, st := x.st }
  else { fault := .bench, code := E_MEDIA, off := bad, st := x.st }

/-- A run-time check fails (R132, R146). -/
def State.badDesc (s : State) : OpAcc := { fault := .desc, code := E_MALFORMED, st := s }

/-- A load at a node offset: a window that does not exist or the control window fails the check; an error code is an operand
error (R132, R146, R530). -/
def State.loadNode (s : State) (t a n : Nat) : OpAcc :=
  if benchBase t ≤ a ∧ a + n ≤ benchBase (t + 1) then s.loadBench t (a - benchBase t) n
  else
    let inTier : Bool := decide (tierBase ≤ a) && decide (a + n ≤ 0x500000000000)
    if !inTier ∧ (s.rangeCode a n ≠ E_NONE ∨ s.winOf a = .control) then s.badDesc
    else
      let x := s.load a n
      if x.code = E_NONE then { data := x.data, st := x.st }
      else if x.code = E_MALFORMED then x.st.badDesc
      else { fault := .operand, code := x.code, st := x.st }

/-- The bytes of the current message's payload, from an offset (R130, R132); the chain's ring and message are given. -/
def State.loadMsg (s : State) (t : Nat) (c : Chain) (off n : Nat) : OpAcc :=
  if c.len < off + n then s.badDesc
  else
    let g := s.ring c.ring
    let p := (c.pos + 32 + off) % g.size
    let m := min n (g.size - p)
    let x := s.loadBench t (g.base + p - benchBase t) m
    if x.fault = .none ∧ m < n then
      let y := x.st.loadBench t (g.base - benchBase t) (n - m)
      { y with data := x.data ++ y.data }
    else x

/-- `n` bytes of an operand at an address under its MODE (R130).
Assumption log: 35 (DESIGN CHOICE). -/
def State.loadOp (s : State) (t : Nat) (c : Chain) (mode addr n : Nat) : OpAcc :=
  if n = 0 then { st := s }
  else if mode = 0 then s.loadNode t addr n
  else if mode = 1 then (if addr + n ≤ graphOff then s.loadBench t addr n else s.badDesc)
  else if mode = 2 then s.loadMsg t c addr n
  else s.badDesc

/-- The bench offset that an output slot names for `n` bytes; `none` outside the tile's own data region (R132). -/
def outOff (t : Nat) (mode addr n : Nat) : Option Nat :=
  if mode = 1 then (if addr + n ≤ graphOff then some addr else none)
  else if mode = 0 then
    (if benchBase t ≤ addr ∧ addr + n ≤ benchBase t + graphOff then some (addr - benchBase t) else none)
  else none

/-- Bytes written to the tile's own bench; a word that cannot be corrected counts as a poisoned read (R124, R146). -/
def State.storeOut (s : State) (t mode addr : Nat) (d : List Byte) : OpAcc :=
  match outOff t mode addr d.length with
  | none => s.badDesc
  | some o =>
    let bad := s.firstBad (benchBase t + o) d.length
    let x := s.store (benchBase t + o) d
    if x.1 = E_NONE then { st := x.2 } else { fault := .bench, code := E_MEDIA, off := bad, st := x.2 }

/-- The next step of an operator, if the last one met no fault. -/
def OpAcc.bind (x : OpAcc) (f : List Byte → State → OpAcc) : OpAcc :=
  match x.fault with
  | .none => f x.data x.st
  | _ => x

/-! Arithmetic flags (R105). -/

/-- Flags and counts recorded in the tile's TILE_ARITH registers. -/
def State.arith (s : State) (t fl sat nan : Nat) : State :=
  let s := s.setReg (Reg.TILE_ARITH_FLAGS t) (BitVec.ofNat 64 (Nat.lor (s.reg (Reg.TILE_ARITH_FLAGS t)).toNat (fl % 128)))
  (s.bump (F.TILE_ARITH_CNT_SAT_CNT t) sat).bump (F.TILE_ARITH_CNT_NAN_CNT t) nan

/-- The flags of converted elements recorded. -/
def State.arithConv (s : State) (t : Nat) (cs : List Conv) : State :=
  s.arith t (cs.foldl (fun a c => Nat.lor a c.fl) 0) (cs.map Conv.sat).sum (cs.map Conv.nan).sum

/-! Operands as elements. -/

/-- Bytes of `n` elements of a format. -/
def elemBytes (f n : Nat) : Nat := (n * fmtBits f + 7) / 8

/-- Bytes of `n` scales of a kind (R93). -/
def scaleBytes (kind n : Nat) : Nat := if kind = 1 then 2 * n else if kind = 2 then n else 0

/-- The elements of an operand and the bytes of its scales. -/
structure Operand where
  fmt : Nat
  data : List Byte
  kind : Nat
  scales : List Byte

/-- Element i of an operand. -/
def Operand.elem (o : Operand) (i : Nat) : FV := elemFV o.fmt o.data i

/-- Scale i of an operand; 1.0 where it has none. -/
def Operand.scale (o : Operand) (i : Nat) : FV := scaleFV o.kind o.scales i

/-- `n` elements and `m` scales of a slot. -/
def State.operand (s : State) (t : Nat) (c : Chain) (sl : Slot) (n m : Nat) (k : Operand → State → OpAcc) : OpAcc :=
  (s.loadOp t c sl.mode sl.addr (elemBytes sl.fmt n)).bind fun d s =>
    (s.loadOp t c sl.mode sl.scaleAddr (scaleBytes sl.scaleKind m)).bind fun sc s =>
      k ⟨sl.fmt, d, sl.scaleKind, sc⟩ s

/-- Converted elements written to an output slot, their flags recorded (R104, R105, R132). -/
def State.putElems (s : State) (t : Nat) (sl : Slot) (cs : List Conv) : OpAcc :=
  (s.arithConv t cs).storeOut t sl.mode sl.addr (packCodes (fmtBits sl.fmt) (cs.map Conv.code))

/-- FP32 results converted to the output format and written (R104). -/
def State.putValues (s : State) (t : Nat) (d : Desc) (xs : List FV) : OpAcc :=
  s.putElems t d.s2 (xs.map (convert d.s2.fmt d.sat))

/-! MATMUL and REDUCE (R94 to R100, R107). -/

/-- Whether a format pair takes the window sum (R97). -/
def isWindow (f : Nat) : Bool := f == 0x0A || f == 0x0B

/-- One block partial (R99): row `i` of A, row `j` of B, K elements a row, the groups of G from `k0` to `k1`. -/
def blockPartial (a b : Operand) (i j kk g : Nat) : Nat → Nat → Nat → FV → FV
  | 0, _, _, acc => acc
  | fuel + 1, k, k1, acc =>
    if k1 ≤ k then acc
    else
      let ps := (rangeFrom k (min g (k1 - k))).map fun x => (a.elem (i * kk + x), b.elem (j * kk + x))
      let v := groupValue (isWindow a.fmt) ps
      let e8 := a.kind == 2 && b.kind == 2
      let ng := (kk + g - 1) / g
      let c := groupScale e8 (a.scale (i * ng + k / g)) (b.scale (j * ng + k / g))
      blockPartial a b i j kk g fuel (k + g) k1 (fFma v c acc)

/-- The block partials of one output in ascending block index (R107). -/
def partials (a b : Operand) (i j kk g kb : Nat) : List FV :=
  (List.range ((kk + kb - 1) / kb)).map fun x =>
    blockPartial a b i j kk g (kb / g + 1) (x * kb) (min kk ((x + 1) * kb)) (Fp.fv .zero)

/-- Partials combined in ascending block order (R107). -/
def combine : List FV → FV
  | [] => Fp.fv .zero
  | p :: r => r.foldl fAdd p

/-- The per-channel rescale of a column (R100). -/
def rescale (tab : List Byte) (n : Nat) (acc : FV) : FV :=
  if tab.isEmpty then acc
  else
    let r := fmtFP32.decode (at_ tab (8 * n) 4)
    let b := fmtFP32.decode (at_ tab (8 * n + 4) 4)
    fFma acc ⟨r, readFlags r⟩ ⟨b, readFlags b⟩

/-- The bytes of a rescale table of `n` columns; empty where the operator names none (R100, R130). -/
def State.rescaleTab (s : State) (t : Nat) (c : Chain) (sl : Slot) (n : Nat) : OpAcc :=
  if sl.mode = 3 ∨ sl.scaleKind = 0 then { st := s } else s.loadOp t c sl.mode sl.scaleAddr (8 * n)

/-- FP32 codes written as they are. -/
def fp32Conv (x : FV) : Conv := convert 0x0C false x

/-- MATMUL: M, N, K, G, KB in P0 to P4; A is M rows of K, B is N rows of K. SUBOP 1 writes block partials, block after
block (R133). -/
def opMatmul (s : State) (t : Nat) (c : Chain) (d : Desc) : OpAcc :=
  let m := d.par 0
  let n := d.par 1
  let kk := d.par 2
  let g := d.par 3
  let kb := d.par 4
  let ng := (kk + g - 1) / g
  s.operand t c d.s0 (m * kk) (m * ng) fun a s =>
    s.operand t c d.s1 (n * kk) (n * ng) fun b s =>
      (s.rescaleTab t c d.s3 n).bind fun tab s =>
        let outs := (List.range (m * n)).map fun x => (x % n, partials a b (x / n) (x % n) kk g kb)
        if d.subop = 1 then
          let blocks := (List.range ((kk + kb - 1) / kb)).flatMap fun j => outs.map fun o => fp32Conv (o.2.getD j (Fp.fv .zero))
          s.putElems t { d.s2 with fmt := 0x0C } blocks
        else s.putValues t d (outs.map fun o => rescale tab o.1 (combine o.2))

/-- REDUCE: P0 blocks of P1 partials each (R107, R133). -/
def opReduce (s : State) (t : Nat) (c : Chain) (d : Desc) : OpAcc :=
  let p := d.par 0
  let n := d.par 1
  s.operand t c { d.s0 with scaleKind := 0 } (p * n) 0 fun a s =>
    (s.rescaleTab t c d.s3 n).bind fun tab s =>
      s.putValues t d ((List.range n).map fun i => rescale tab i (combine ((List.range p).map fun j => a.elem (j * n + i))))

/-! Vector operators. -/

/-- All elements of an operand. -/
def Operand.all (o : Operand) (n : Nat) : List FV := (List.range n).map o.elem

/-- Consecutive pieces of a list. -/
def chunks {α : Type} (k : Nat) : Nat → List α → List (List α)
  | 0, _ => []
  | n + 1, x => if x.isEmpty then [] else x.take k :: chunks k n (x.drop k)

/-- ROTATE: P0 rows of P1 elements, block size in P2 (R110 to R112). -/
def opRotate (s : State) (t : Nat) (c : Chain) (d : Desc) : OpAcc :=
  let len := d.par 0 * d.par 1
  let n := d.par 2
  s.operand t c d.s0 len 0 fun x s =>
    (if d.s3.mode = 3 then ({ st := s } : OpAcc) else s.loadOp t c d.s3.mode d.s3.addr (n / 8)).bind fun sg s =>
      let inv := d.subop % 2 == 1
      let ortho := d.subop / 2 % 2 == 1
      s.putElems t { d.s2 with fmt := 0x0C }
        (((chunks n len (x.all len)).flatMap (rotateBlock n inv ortho sg)).map fp32Conv)

/-- One quantised group: scale code and elements (R113 to R116). -/
def quantGroup (fmt sub : Nat) (given : FV) (xs : List FV) : Nat × List Conv :=
  if sub = 2 then
    let sc := mxScale fmt xs
    (sc, xs.map (mxElem fmt ((amaxOf xs).1 == 0) sc))
  else if sub = 1 then (0, xs.map fun x => quantElem fmt true given.v ⟨x.v, Nat.lor x.fl given.fl⟩)
  else
    let sc := groupScaleCode (qmaxOf fmt) xs
    (sc, xs.map (quantElem fmt false (fmtBF16.decode sc)))

/-- Groups quantised and written: elements, then the scales where they are computed (R93). -/
def State.putQuant (s : State) (t : Nat) (sl : Slot) (sub : Nat) (gs : List (Nat × List Conv)) : OpAcc :=
  (s.putElems t sl (gs.flatMap Prod.snd)).bind fun _ s =>
    if sub = 1 then { st := s }
    else s.storeOut t sl.mode sl.scaleAddr (gs.flatMap fun g => leBytes (if sub = 2 then 1 else 2) g.1)

/-- QUANTISE: P0 rows of P1 elements, group size in P2 (R113 to R116). -/
def opQuantise (s : State) (t : Nat) (c : Chain) (d : Desc) : OpAcc :=
  let rows := d.par 0
  let n := d.par 1
  let g := if d.subop = 2 then 32 else d.par 2
  let ng := (n + g - 1) / g
  s.operand t c d.s0 (rows * n) 0 fun x s =>
    (if d.subop = 1 then s.loadOp t c d.s1.mode d.s1.addr (2 * rows * ng) else ({ st := s } : OpAcc)).bind fun sc s =>
      let groups := ((List.range rows).flatMap fun r => chunks g ng ((rangeFrom (r * n) n).map x.elem)).mapIdx fun i xs =>
        quantGroup d.s2.fmt d.subop (scaleFV 1 sc i) xs
      s.putQuant t d.s2 d.subop groups

/-- DEQUANTISE: P0 rows of P1 elements, group size in P2; MX and GRAD8 groups are 32 (R117, R118). -/
def opDequantise (s : State) (t : Nat) (c : Chain) (d : Desc) : OpAcc :=
  let rows := d.par 0
  let n := d.par 1
  let g := if 0x07 ≤ d.s0.fmt ∧ d.s0.fmt ≤ 0x09 ∨ d.s0.fmt = 0x0D then 32 else d.par 2
  let ng := (n + g - 1) / g
  s.operand t c d.s0 (rows * n) (rows * ng) fun x s =>
    s.putElems t { d.s2 with fmt := 0x0C } ((List.range (rows * n)).map fun i =>
      fp32Conv (dequant (x.elem i) (x.scale (i / n * ng + i % n / g))))

/-- An elementwise function by its SUBOP (R133). -/
def elemFn (sub : Nat) (x y z : FV) : FV :=
  match sub with
  | 0 => fAdd x y
  | 1 => fSub x y
  | 2 => fMul x y
  | 3 => fFma x y z
  | 4 => fMax x y
  | 5 => fMin x y
  | _ => fDiv x y

/-- ELEMWISE: P0 rows of P1 elements (R108). -/
def opElemwise (s : State) (t : Nat) (c : Chain) (d : Desc) : OpAcc :=
  let n := d.par 0 * d.par 1
  s.operand t c { d.s0 with scaleKind := 0 } n 0 fun x s =>
    s.operand t c { d.s1 with scaleKind := 0 } n 0 fun y s =>
      (if d.subop = 3 then s.loadOp t c d.s3.mode d.s3.addr (elemBytes d.s3.fmt n) else ({ st := s } : OpAcc)).bind fun z s =>
        s.putValues t d ((List.range n).map fun i =>
          elemFn d.subop (x.elem i) (y.elem i) (if d.subop = 3 then elemFV d.s3.fmt z i else Fp.fv .zero))

/-- A constant by its FP32 code. -/
def fc (code : Nat) : FV := Fp.fv (fmtFP32.decode code)

/-- An activation by its SUBOP (R134). -/
def activate (sub : Nat) (x : FV) : FV :=
  let one := fc 0x3F800000
  match sub with
  | 0 => fMax x (Fp.fv .zero)
  | 1 => fDiv one (fAdd one (fExp (fNeg x)))
  | 2 => fDiv x (fAdd one (fExp (fNeg x)))
  | _ =>
    let x3 := fMul (fMul x x) x
    let th := fTanh (fMul (fc 0x3F4C422A) (fFma (fc 0x3D372713) x3 x))
    fMul (fMul (fc 0x3F000000) x) (fAdd one th)

/-- ACTIVATE: P0 rows of P1 elements (R134). -/
def opActivate (s : State) (t : Nat) (c : Chain) (d : Desc) : OpAcc :=
  let n := d.par 0 * d.par 1
  s.operand t c { d.s0 with scaleKind := 0 } n 0 fun x s => s.putValues t d ((x.all n).map (activate d.subop))

/-- One normalised row (R135). -/
def normRow (sub : Nat) (invLen eps : FV) (gamma beta : Nat → FV) (x : List FV) : List FV :=
  match sub with
  | 0 =>
    let ms := fMul (sumTree (x.map fun v => fMul v v)) invLen
    let r := fRsqrt (fAdd ms eps)
    x.mapIdx fun i v => fFma (fMul v r) (gamma i) (beta i)
  | 1 =>
    let mean := fMul (sumTree x) invLen
    let dv := x.map fun v => fSub v mean
    let var := fMul (sumTree (dv.map fun v => fMul v v)) invLen
    let r := fRsqrt (fAdd var eps)
    dv.mapIdx fun i v => fFma (fMul v r) (gamma i) (beta i)
  | _ =>
    let r := fRsqrt (fMax (sumTree (x.map fun v => fMul v v)) eps)
    x.map fun v => fMul v r

/-- NORMALISE: P0 rows of length P1, P2 inv_len, P3 eps; beta is +0 where slot 3 is unused (R135). -/
def opNormalise (s : State) (t : Nat) (c : Chain) (d : Desc) : OpAcc :=
  let rows := d.par 0
  let n := d.par 1
  let l2 := d.subop == 2
  s.operand t c { d.s0 with scaleKind := 0 } (rows * n) 0 fun x s =>
    (if l2 then ({ st := s } : OpAcc) else s.loadOp t c d.s1.mode d.s1.addr (elemBytes d.s1.fmt n)).bind fun ga s =>
      (if l2 ∨ d.s3.mode = 3 then ({ st := s } : OpAcc) else s.loadOp t c d.s3.mode d.s3.addr (elemBytes d.s3.fmt n)).bind
        fun be s =>
          let gamma (i : Nat) : FV := elemFV d.s1.fmt ga i
          let beta (i : Nat) : FV := if d.s3.mode = 3 then Fp.fv .zero else elemFV d.s3.fmt be i
          s.putValues t d ((List.range rows).flatMap fun r =>
            normRow d.subop (d.real 2) (d.real 3) gamma beta ((rangeFrom (r * n) n).map x.elem))

/-! ATTEND (R136). -/

/-- The state of one query row: running maximum, sum and accumulators. -/
structure AttRow where
  m : FV
  l : FV
  acc : List FV

/-- The scores of one key block for query row i. -/
def attScores (q k : Operand) (d : Desc) (i blk : Nat) : List FV :=
  let dim := d.par 0
  let lk := d.par 2
  (rangeFrom (128 * blk) 128).map fun j =>
    if lk ≤ j ∨ (d.par 4 ≠ 0xFFFFFFFF ∧ i + d.par 4 < j) then Fp.fv .negInf
    else fMul (blockPartial q k i j dim 32 (dim / 32 + 1) 0 dim (Fp.fv .zero)) (d.real 3)

/-- Output column n of the probabilities of a block times V (R99, R136): keys in groups of 32. -/
def attPv (v : Operand) (d : Desc) (blk : Nat) (es : List FV) (n : Nat) : FV :=
  let dim := d.par 0
  let lk := d.par 2
  let ng := (lk + 31) / 32
  (List.range 4).foldl (fun acc g =>
    let ps := (rangeFrom (32 * g) 32).map fun x =>
      (es.getD x (Fp.fv .zero), if 128 * blk + x < lk then v.elem ((128 * blk + x) * dim + n) else Fp.fv .zero)
    let sc := if v.kind = 0 then Fp.fv .one else v.scale (n * ng + 4 * blk + g)
    fFma (groupValue (isWindow v.fmt) ps) (groupScale (v.kind == 2) (Fp.fv .one) sc) acc) (Fp.fv .zero)

/-- A probability rounded to the format of V. -/
def attRound (fmt : Nat) (x : FV) : FV :=
  let c := convert fmt false x
  ⟨elemVal fmt c.code, Nat.lor x.fl c.fl⟩

/-- One key block (R136). -/
def attBlock (q k v : Operand) (d : Desc) (i : Nat) (r : AttRow) (blk : Nat) : AttRow :=
  let sc := attScores q k d i blk
  let m := fMax r.m (maxTree sc)
  if m.v = .negInf then r
  else
    let alpha := fExp (fSub r.m m)
    let es := sc.map fun x => fExp (fSub x m)
    let ps := es.map (attRound v.fmt)
    { m := m, l := fFma r.l alpha (sumTree es),
      acc := r.acc.mapIdx fun n a => fFma a alpha (attPv v d blk ps n) }

/-- One query row. -/
def attRow (q k v : Operand) (d : Desc) (i : Nat) : List FV :=
  let dim := d.par 0
  let r := (List.range ((d.par 2 + 127) / 128)).foldl (attBlock q k v d i)
    { m := Fp.fv .negInf, l := Fp.fv .zero, acc := List.replicate dim (Fp.fv .zero) }
  if r.l.v.isZero then List.replicate dim (Fp.fv .zero) else r.acc.map fun a => fDiv a r.l

/-- ATTEND: d, L_q, L_k in P0 to P2, P3 scale, P4 causal offset (R136). -/
def opAttend (s : State) (t : Nat) (c : Chain) (d : Desc) : OpAcc :=
  let dim := d.par 0
  let lq := d.par 1
  let lk := d.par 2
  let ng := (dim + 31) / 32
  s.operand t c d.s0 (lq * dim) (lq * ng) fun q s =>
    s.operand t c d.s1 (lk * dim) (lk * ng) fun k s =>
      s.operand t c d.s3 (lk * dim) (dim * ((lk + 31) / 32)) fun v s =>
        s.putValues t d ((List.range lq).flatMap (attRow q k v d))

/-! Selection of a token. -/

/-- MASK: a logit whose mask bit is 0 becomes −∞; vocabulary in P1 (R133, R320). -/
def opMask (s : State) (t : Nat) (c : Chain) (d : Desc) : OpAcc :=
  let n := d.par 1
  s.operand t c { d.s0 with scaleKind := 0 } n 0 fun x s =>
    (s.loadOp t c d.s1.mode d.s1.addr ((n + 7) / 8)).bind fun mb s =>
      s.putValues t d ((List.range n).map fun i =>
        if at_ mb (i / 8) 1 / 2 ^ (i % 8) % 2 = 1 then x.elem i else Fp.fv .negInf)

/-- Candidate x with ID i comes before y with ID j: descending logit, NaN last, ascending ID (R137). -/
def logitBefore (x : FV) (i : Nat) (y : FV) (j : Nat) : Bool :=
  match x.v, y.v with
  | .nan, .nan => decide (i < j)
  | .nan, _ => false
  | _, .nan => true
  | a, b => if b.lt a then true else if a.lt b then false else decide (i < j)

/-- A candidate inserted among the best `k`. -/
def insertLogit (k : Nat) (x : FV × Nat) : List (FV × Nat) → List (FV × Nat)
  | [] => if k = 0 then [] else [x]
  | y :: r =>
    if k = 0 then []
    else if logitBefore x.1 x.2 y.1 y.2 then x :: (y :: r).take (k - 1)
    else y :: insertLogit (k - 1) x r

/-- The `k` largest logits in candidate order (R137). -/
def topLogits (k : Nat) (xs : List FV) : List (FV × Nat) :=
  (xs.mapIdx fun i x => (x, i)).foldl (fun b x => insertLogit k x b) []

/-- Running sums with rne32. -/
def runSums : FV → List FV → List FV
  | _, [] => []
  | a, w :: r => let c := fAdd a w; c :: runSums c r

/-- The token that SAMPLE returns, with the flags of its arithmetic (R137). -/
def sampleToken (d : Desc) (reqId : Nat) (xs : List FV) : Nat × Nat :=
  let cand := topLogits (d.par 0) xs
  match cand with
  | [] => (0xFFFFFFFF, 0)
  | x0 :: _ =>
    if x0.1.v = .nan ∨ x0.1.v = .negInf then (0xFFFFFFFF, x0.1.fl)
    else if d.subop = 0 then (x0.2, x0.1.fl)
    else
      let ws := cand.map fun x => fExp (fMul (fSub x.1 x0.1) (d.real 2))
      let cs := match ws with
        | [] => []
        | w :: r => w :: runSums w r
      let total := cs.getLast?.getD (Fp.fv .zero)
      let lim := fMul (d.real 3) total
      let n := match cs.findIdx? fun c => !(c.v.lt lim.v) with
        | some i => i + 1
        | none => cs.length
      let u := (philox 10 (reqId % 2 ^ 32, reqId / 2 ^ 32 % 2 ^ 32, d.par 6, 0) (d.par 4, d.par 5)).1 / 2 ^ 8
      let target := fMul (Fp.fv (.num false u (-24))) (cs.getD (n - 1) (Fp.fv .zero))
      let kept := (cand.take n).zip (cs.take n)
      let fl := cs.foldl (fun a c => Nat.lor a c.fl) (Nat.lor target.fl lim.fl)
      match kept.find? fun e => target.v.lt e.2.v with
      | some e => (e.1.2, fl)
      | none => ((kept.getLast?.map fun e => e.1.2).getD 0xFFFFFFFF, fl)

/-- SAMPLE: k in P0, vocabulary in P1 (R137). -/
def opSample (s : State) (t : Nat) (c : Chain) (d : Desc) : OpAcc :=
  s.operand t c { d.s0 with scaleKind := 0 } (d.par 1) 0 fun x s =>
    let r := sampleToken d c.reqId (x.all (d.par 1))
    (s.arith t r.2 0 0).storeOut t d.s2.mode d.s2.addr (leBytes 4 r.1)

/-! Gradients and the optimiser (R118 to R122). -/

/-- Consecutive groups of 32 quantised with a computed scale (R118). -/
def gradGroups (fmt : Nat) (xs : List FV) : List (Nat × List Conv) :=
  (chunks 32 xs.length xs).map (quantGroup fmt 0 (Fp.fv .one))

/-- GRAD_ACCUM: length in P1, micro-batch index in P2 (R118, R133). -/
def opGradAccum (s : State) (t : Nat) (c : Chain) (d : Desc) : OpAcc :=
  let n := d.par 1
  s.operand t c { d.s0 with fmt := 0x0C, scaleKind := 0 } n 0 fun g s =>
    (if d.par 2 = 0 then ({ st := s, data := zeros (4 * n) } : OpAcc) else s.loadOp t c d.s1.mode d.s1.addr (4 * n)).bind
      fun a s =>
        let acc := (List.range n).map fun i => if d.par 2 = 0 then g.elem i else fAdd (elemFV 0x0C a i) (g.elem i)
        (s.putElems t { d.s1 with fmt := 0x0C } (acc.map fp32Conv)).bind fun _ s =>
          if d.subop % 2 = 1 ∧ d.s2.mode ≠ 3 then s.putQuant t d.s2 0 (gradGroups d.s2.fmt acc) else { st := s }

/-- One element of the optimiser step: new w, m, v (R120, R122). -/
structure OptElem where
  w : FV
  m : FV
  v : FV

/-- The Adam step (R120). -/
def adamStep (d : Desc) (w g m v : FV) : OptElem :=
  let m' := fFma (d.real 1) m (fMul (d.real 2) g)
  let v' := fFma (d.real 3) v (fMul (d.real 4) (fMul g g))
  let mh := fMul m' (d.real 5)
  let vh := fMul v' (d.real 6)
  let den := fAdd (fSqrt vh) (d.real 8)
  let upd := fDiv mh den
  let wd := fFma (fNeg (d.real 9)) w w
  ⟨fFma (fNeg (d.real 7)) upd wd, m', v'⟩

/-- The momentum step (R120). -/
def momentumStep (d : Desc) (w g m v : FV) : OptElem :=
  let m' := fFma (d.real 1) m g
  let wd := fFma (fNeg (d.real 9)) w w
  ⟨fFma (fNeg (d.real 7)) m' wd, m', v⟩

/-- One element, left unchanged where its gradient is NaN or infinite (R122). -/
def optElem (d : Desc) (w g m v : FV) : OptElem :=
  match g.v with
  | .num _ _ _ => if d.subop % 4 = 0 then adamStep d w g m v else momentumStep d w g m v
  | _ =>
    let fl := Nat.lor AF_OPT_SKIP g.fl
    ⟨⟨w.v, Nat.lor w.fl fl⟩, m, v⟩

/-- The codes u and the scale of a block of second moments (R119). -/
def q8Second (vs : List FV) : Nat × List Conv :=
  let rs := vs.map fSqrt
  let a := amaxOf rs
  let sc := if a.1 = 0 then 0x3F80 else bf16Quot a.1 a.2 255
  let sv := fmtBF16.decode sc
  (sc, rs.map fun r =>
    match r.v, sv with
    | .num _ m e, .num _ n f =>
      let q := quot m e n f
      ⟨min 255 (rneInt q.1 q.2.1 q.2.2), r.fl, 0, 0⟩
    | .inf _, _ => ⟨255, Nat.lor r.fl (AF_INF_IN + AF_SAT_OUT), 1, 0⟩
    | _, _ => ⟨0, Nat.lor r.fl AF_NAN_DROPPED, 0, 1⟩)

/-- The second moment that a code stands for: rne32(r × r) with r = rne32(u × σ) (R119). -/
def q8Value (u sc : FV) : FV := let r := fMul u sc; fMul r r

/-- OPT_STEP: P0 length, P1 to P9 the step's parameters; w, m and v are read and written in place, v not in mode MOMENTUM
(R119 to R122). -/
def opOptStep (s : State) (t : Nat) (c : Chain) (d : Desc) : OpAcc :=
  let n := d.par 0
  let ng := (n + 31) / 32
  let q8 := d.subop / 4 % 4 == 2
  let mom := d.subop % 4 == 1
  let ms := { d.s2 with fmt := if q8 then 0x02 else 0x0A, scaleKind := if q8 then 1 else 0 }
  let vs := { d.s3 with fmt := if q8 then 0x03 else 0x0A, scaleKind := if q8 then 1 else 0 }
  s.operand t c { d.s0 with scaleKind := 0 } n 0 fun w s =>
    s.operand t c { d.s1 with scaleKind := 1 } n ng fun g s =>
      s.operand t c ms n ng fun m s =>
        s.operand t c (if mom then { vs with mode := 1, addr := 0, scaleAddr := 0 } else vs) (if mom then 0 else n)
            (if mom then 0 else ng) fun v s =>
          let es := (List.range n).map fun i =>
            let mi := if q8 then fMul (m.elem i) (m.scale (i / 32)) else m.elem i
            let vi := if q8 then q8Value (v.elem i) (v.scale (i / 32)) else v.elem i
            optElem d (w.elem i) (dequant (g.elem i) (g.scale (i / 32))) mi vi
          (s.putElems t d.s0 (es.map fun e => convert d.s0.fmt true e.w)).bind fun _ s =>
            if q8 then
              (s.putQuant t ms 0 ((chunks 32 n (es.map OptElem.m)).map (quantGroup 0x02 0 (Fp.fv .one)))).bind fun _ s =>
                if mom then { st := s } else s.putQuant t vs 0 ((chunks 32 n (es.map OptElem.v)).map q8Second)
            else
              (s.putElems t ms (es.map fun e => convert 0x0A true e.m)).bind fun _ s =>
                if mom then { st := s } else s.putElems t vs (es.map fun e => convert 0x0A true e.v)

end Sys2Proof.Machine
end

