-- ==== Sys2Proof/Machine/Inlay.lean ====
section
/-! DEFINITION. The inlay units (R148 to R172): FIFOs, broadcasts, scoring, the OFFLINE state, and the row commands with their
arithmetic (R278 to R281, R287 to R292). -/

namespace Sys2Proof.Machine

/-! Units. -/

/-- The key of a unit: stack × 256 + unit. -/
def unitKey (k u : Nat) : Nat := k * 256 + u

/-- An inlay unit. -/
def State.unit (s : State) (k u : Nat) : InlSt := smGet (fun _ => {}) s.inl (unitKey k u)

/-- Whether a stack and unit exist. -/
def State.hasUnit (s : State) (k u : Nat) : Bool := decide (k < s.nStacks) && decide (u < 256)

def US_ABSENT : Nat := 0
def US_IDLE : Nat := 1
def US_BUSY : Nat := 2
def US_TRIM : Nat := 3
def US_OFFLINE : Nat := 4
def US_COPYING : Nat := 5

/-- INL_UNIT_STATUS.STATE of a unit. -/
def State.unitState (s : State) (k u : Nat) : Nat := s.get (F.INL_UNIT_STATUS_STATE k u)

/-- The packet that an item carries. -/
def InlItem.pkt : InlItem → Option InlPkt
  | .packet p => some p
  | _ => none

/-- LEN of a packet in granules, as the FIFO holds it. -/
def InlPkt.granules (p : InlPkt) : Nat := (p.bytes.length + 63) / 64

/-- Granules of packets and results. -/
def granulesOf (ps : List InlPkt) : Nat := (ps.map InlPkt.granules).sum

/-- The packets of a list of items. -/
def packetsOf (is : List InlItem) : List InlPkt := is.filterMap InlItem.pkt

/-- OP of a packet (R156). -/
def InlPkt.op (p : InlPkt) : Nat := at_ p.bytes 0 1

/-- A packet that scores: its largest result is 66 granules (R154). -/
def InlPkt.scores (p : InlPkt) : Bool := p.op == 0x10 || p.op == 0x11

/-- Room kept in the result FIFO for a packet: its largest result (R154). -/
def InlPkt.resultRoom (p : InlPkt) : Nat :=
  if p.scores then 66 else if p.op = 0x20 then 1 + at_ p.bytes 26 2 else 1

/-- A unit, replaced; its status register follows (R172). -/
def State.setUnit (s : State) (k u : Nat) (v : InlSt) : State :=
  let s := { s with inl := smPut (fun _ => {}) s.inl (unitKey k u) v }
  let s := (s.set (F.INL_UNIT_STATUS_CMD_Q k u) (granulesOf (packetsOf v.cmds))).set (F.INL_UNIT_STATUS_RES_Q k u)
    (granulesOf v.results)
  if s.unitState k u = US_IDLE ∨ s.unitState k u = US_BUSY then
    s.set (F.INL_UNIT_STATUS_STATE k u) (if (packetsOf v.cmds).isEmpty then US_IDLE else US_BUSY)
  else s

/-- The state of a unit, replaced; the stack counts its OFFLINE units. -/
def State.setUnitState (s : State) (k u st : Nat) : State :=
  let was := s.unitState k u == US_OFFLINE
  let is_ := st == US_OFFLINE
  let n := s.get (F.STK_STATUS_OFFLINE_UNITS k)
  let n := if was == is_ then n else if is_ then n + 1 else n - 1
  (s.set (F.INL_UNIT_STATUS_STATE k u) st).set (F.STK_STATUS_OFFLINE_UNITS k) n

/-! Broadcasts (R155, R160, R161). -/

/-- A table slot of a unit. -/
def InlSt.tslot (x : InlSt) (i : Nat) : List Byte := smGet (fun _ => zeros 1024) x.tslots i

/-- A filter slot of a unit. -/
def InlSt.filterSlot (x : InlSt) (i : Nat) : List Byte := smGet (fun _ => zeros 64) x.filters i

/-- Consecutive table slots loaded. -/
def loadSlots (m : SMap (List Byte)) (first : Nat) : List (List Byte) → SMap (List Byte)
  | [] => m
  | d :: r => loadSlots (smPut (fun _ => zeros 1024) m first (padTo 1024 d)) (first + 1) r

/-- A broadcast applied by a unit. -/
def InlSt.applyItem (x : InlSt) : InlItem → InlSt
  | .packet _ => x
  | .tslot f d => { x with tslots := loadSlots x.tslots f (chunks 1024 64 d) }
  | .filter f d => { x with filters := smPut (fun _ => zeros 64) x.filters f (padTo 64 d) }

/-- The broadcasts at the head of what was sent, applied between commands (R155). -/
def InlSt.applyHead (x : InlSt) : List InlItem → InlSt
  | [] => { x with cmds := [] }
  | .packet p :: r => { x with cmds := .packet p :: r }
  | i :: r => (x.applyItem i).applyHead r

/-- Whether the stack controller may send a packet now (R154). -/
def InlSt.hasRoom (x : InlSt) (p : InlPkt) : Bool :=
  decide (granulesOf (packetsOf x.cmds) + p.granules ≤ 128) &&
    (!p.scores ||
      decide (granulesOf x.results + (((packetsOf x.cmds).map InlPkt.resultRoom).sum) + 66 ≤ 256))

/-- What is held back is sent in order as far as there is room. -/
def InlSt.feed (x : InlSt) : List InlItem → InlSt
  | [] => { x with waiting := [] }
  | .packet p :: r =>
    if x.hasRoom p then { x with cmds := x.cmds ++ [InlItem.packet p] }.feed r else { x with waiting := .packet p :: r }
  | i :: r => { x with cmds := x.cmds ++ [i] }.feed r

/-- A unit's queues settle: what has room is sent, broadcasts that stand between no commands are applied, and a command that
comes to the head begins. -/
def State.settleUnit (s : State) (k u : Nat) : State :=
  let x := s.unit k u
  let old := (packetsOf x.cmds).head?
  let x := x.feed x.waiting
  let x := x.applyHead x.cmds
  let x := if (packetsOf x.cmds).head? == old then x else { x with startAt := s.now }
  s.setUnit k u x

/-- An item sent to a unit by the stack controller; one in COPYING keeps broadcasts until the copy is done (R171). -/
def State.sendItem (s : State) (k u : Nat) (i : InlItem) : State :=
  let x := s.unit k u
  let st := s.unitState k u
  if st = US_OFFLINE ∨ st = US_ABSENT then s
  else if st = US_COPYING ∧ i.pkt = none then s.setUnit k u { x with pendBcast := x.pendBcast ++ [i] }
  else (s.setUnit k u { x with waiting := x.waiting ++ [i] }).settleUnit k u

/-- A broadcast to every unit of a stack that is not OFFLINE; its bytes travel once on the inlay bus (R154, R155). -/
def State.broadcast (s : State) (k : Nat) (i : InlItem) (n : Nat) : State :=
  (List.range 256).foldl (fun s u => s.sendItem k u i) (s.bump (F.INL_PERF_BUS_BYTES k) n)

/-- A broadcast with a field outside its range changes nothing and raises one event for its stack (R172). -/
def State.badBroadcast (s : State) (k : Nat) : State := s.raise EV_INLAY_MALFORMED k []

/-- LOAD_TSLOT: whole slots from a first slot on (R160). -/
def State.loadTslot (s : State) (k first : Nat) (d : List Byte) : State :=
  let n := d.length / 1024
  if d.length % 1024 = 0 ∧ 1 ≤ n ∧ first + n ≤ 64 then s.broadcast k (.tslot first d) d.length else s.badBroadcast k

/-- A filter term is in range (R161). -/
def termOk (b : List Byte) : Bool :=
  decide (at_ b 2 1 ≤ 6) && decide (at_ b 0 1 ≤ 63) && decide (1 ≤ at_ b 1 1) && decide (at_ b 0 1 + at_ b 1 1 ≤ 64)

/-- The four terms of a filter. -/
def filterTerms (d : List Byte) : List (List Byte) := (List.range 4).map fun i => (d.drop (16 * i)).take 16

/-- A filter is in range; a TRUE term needs no field. -/
def filterOk (d : List Byte) : Bool := d.length == 64 && (filterTerms d).all fun t => at_ t 2 1 == 0 || termOk t

/-- LOAD_FILTER: one filter slot (R161). -/
def State.loadFilter (s : State) (k slot : Nat) (d : List Byte) : State :=
  if slot < 8 ∧ filterOk d then s.broadcast k (.filter slot d) 64 else s.badBroadcast k

/-- LOAD_TSLOT on a stack (R160). -/
def execLoadTslot (stack first : Nat) (data : List Byte) (s : State) : Res := s.live <|
  onUnit (stack < 12) (if stack < s.nStacks then s.loadTslot stack first data else s)

/-- LOAD_FILTER on a stack (R161). -/
def execLoadFilter (stack slot : Nat) (data : List Byte) (s : State) : Res := s.live <|
  onUnit (stack < 12) (if stack < s.nStacks then s.loadFilter stack slot data else s)

/-! Filters (R161). -/

/-- One filter term on an attribute word. -/
def filterTerm (t : List Byte) (a : Nat) : Bool :=
  let f := bitsAt a (at_ t 0 1) (at_ t 1 1)
  let v := at_ t 8 8
  match at_ t 2 1 with
  | 0 => true
  | 1 => f == v
  | 2 => f != v
  | 3 => decide (f < v)
  | 4 => decide (v ≤ f)
  | 5 => Nat.land f v != 0
  | _ => Nat.land f v == v

/-- A filter on an attribute word: all terms, or any with FANY; four TRUE terms pass. -/
def filterPass (d : List Byte) (any : Bool) (a : Nat) : Bool :=
  let ts := (filterTerms d).map fun t => filterTerm t a
  if any then ts.any id else ts.all id

/-! Unit memory (R149, R167, R168, R178). -/

/-- Unit-local bytes; a range that crosses local pages is read page by page. -/
def State.unitLoad (s : State) (k u loc n : Nat) : Acc :=
  let m := min n (65536 - loc % 65536)
  let x := s.loadPhys (unitAddr k u loc) m
  if x.code ≠ E_NONE ∨ m = n then x
  else
    let y := x.st.loadPhys (unitAddr k u (loc + m)) (n - m)
    if y.code ≠ E_NONE then y else ⟨E_NONE, x.data ++ y.data, y.st⟩

/-- The tiered page whose frame holds a unit-local page, if any. -/
def State.pageAt (s : State) (k u loc : Nat) : Option Nat :=
  (s.tier.pages.find? fun e =>
    (e.2.st == 1 || e.2.st == 4 || (e.2.st == 6 && e.2.prev == 1)) && e.2.stack == k &&
      e.2.frame == loc / 65536 * 256 + u).map Prod.fst

/-- An inlay command adds 1 to the heat of each page that its range touches (R178). -/
def State.heatUnit (s : State) (k u loc n : Nat) : State :=
  if n = 0 then s
  else
    (rangeFrom (loc / 65536) ((loc + n - 1) / 65536 - loc / 65536 + 1)).foldl
      (fun s p => match s.pageAt k u (p * 65536) with
        | some g => s.heatUp g
        | none => s) s

/-! Scoring (R158 to R163). -/

/-- A scoring packet's fields (R158, R163). -/
structure ScoreCmd where
  dot : Bool
  batch : Nat
  stage : Nat
  tag : Nat
  addr : Nat
  count : Nat
  m : Nat
  width8 : Bool
  slot64 : Bool
  klocal : Nat
  fslot : Nat
  fen : Bool
  fany : Bool
  attrOff : Nat
  tombBit : Nat
  shard : Nat
  vidBase : Nat
  tombBase : Nat
  tslot : List Nat
  bias : List Int
  bound : List Nat

/-- The fields of a packet's bytes. DOT_I8 keeps BATCH in SUB [3:0] and takes its stage from SUB bit 0, as the two rules say. -/
def scoreOf (b : List Byte) : ScoreCmd :=
  let dot := at_ b 0 1 == 0x11
  { dot := dot, batch := at_ b 1 1 % 16,
    stage := if dot then at_ b 1 1 % 2 else 0,
    tag := at_ b 4 4, addr := at_ b 8 4, count := at_ b 12 4, m := at_ b 16 1, width8 := at_ b 17 1 % 2 == 1,
    slot64 := at_ b 17 1 / 2 % 2 == 1, klocal := at_ b 18 1, fslot := at_ b 19 1 % 8, fen := at_ b 19 1 / 8 % 2 == 1,
    fany := at_ b 19 1 / 16 % 2 == 1, attrOff := at_ b 20 1, tombBit := at_ b 21 1 % 8, shard := at_ b 22 2,
    vidBase := at_ b 24 4, tombBase := at_ b 28 4, tslot := (List.range 8).map fun q => at_ b (32 + q) 1,
    bias := (List.range 8).map fun q => signed 32 (at_ b (40 + 4 * q) 4),
    bound := (List.range 8).map fun q => at_ b (72 + 4 * q) 4 }

/-- Bytes from one slot to the next. -/
def ScoreCmd.stride (c : ScoreCmd) : Nat := if c.dot then 64 * c.m else if c.slot64 then 64 else 32

/-- Bytes that a code occupies in its slot. -/
def ScoreCmd.codeBytes (c : ScoreCmd) : Nat := if c.dot then 64 * c.m else if c.width8 then c.m else c.m / 2

/-- Entries of a row of a query table: 2^w. -/
def ScoreCmd.rowEntries (c : ScoreCmd) : Nat := if c.width8 then 256 else 16

/-- Table slots that one query takes (R160, R163). -/
def ScoreCmd.tableSlots (c : ScoreCmd) : Nat :=
  if c.dot then (64 * c.m + 1023) / 1024 else (c.m * c.rowEntries * 2 + 1023) / 1024

/-- Where a slot's attribute word stands: in the slot, or for DOT_I8 in the array after the VIDs. -/
def ScoreCmd.attrAt (c : ScoreCmd) (j : Nat) : Nat :=
  if c.dot then c.vidBase + 8 * c.count + c.attrOff + 8 * j else c.addr + c.stride * j + c.attrOff

/-- Bytes of a unit. -/
def unitBytes : Nat := 0x8000000

/-- The checks of R172 on a scoring packet; two granules make one packet.
Assumption log: 52 (DESIGN CHOICE). -/
def ScoreCmd.ok (c : ScoreCmd) (len bytes : Nat) : Bool :=
  decide (len = 2) && decide (bytes = 128) && decide (1 ≤ c.batch) && decide (c.batch ≤ 8) && decide (1 ≤ c.count) &&
  decide (c.count ≤ 4194304) && decide (1 ≤ c.klocal) && decide (c.klocal ≤ 32) && decide (c.attrOff % 8 = 0) &&
  (if c.dot then decide (1 ≤ c.m) && decide (c.m ≤ 64) && !c.width8 && !c.slot64
   else [8, 16, 24, 32, 48, 64, 96, 128].contains c.m && decide (c.codeBytes ≤ c.stride) &&
     decide (c.attrOff + 8 ≤ c.stride)) &&
  ((List.range c.batch).all fun q => decide (c.tslot.getD q 0 + c.tableSlots ≤ 64)) &&
  decide (c.batch * c.tableSlots ≤ 64) && decide (c.addr + c.stride * c.count ≤ unitBytes) &&
  decide (c.vidBase + 8 * c.count ≤ unitBytes) &&
  (c.tombBase == 0xFFFFFFFF || decide (c.tombBase + (c.tombBit + c.count - 1) / 8 < unitBytes)) &&
  (!c.fen || decide (c.attrAt (c.count - 1) + 8 ≤ unitBytes))

/-- The bytes of a query's table. -/
def ScoreCmd.table (c : ScoreCmd) (x : InlSt) (q : Nat) : List Byte :=
  (rangeFrom (c.tslot.getD q 0) c.tableSlots).flatMap x.tslot

/-- Subcode i of a code (R91). -/
def subcode (width8 : Bool) (code : List Byte) (i : Nat) : Nat :=
  if width8 then at_ code i 1 else at_ code (i / 2) 1 / 16 ^ (i % 2) % 16

/-- The sum of table entries that a code selects (R159 step 3). -/
def pqSum (width8 : Bool) (rows : Nat) (table code : List Byte) (m : Nat) : Int :=
  (List.range m).foldl (fun a i => a + signed 16 (at_ table (2 * (i * rows + subcode width8 code i)) 2)) 0

/-- The dot product of two INT8 vectors (R163). -/
def dotI8 (x y : List Byte) : Int := (List.zipWith (fun a b => signed 8 a.toNat * signed 8 b.toNat) x y).foldl (· + ·) 0

/-- The key of a slot for a query. -/
def ScoreCmd.key (c : ScoreCmd) (table code : List Byte) (q : Nat) : Nat :=
  let b := c.bias.getD q 0
  if c.dot then fixedKey (b - dotI8 code (table.take (64 * c.m)))
  else fixedKey (b + pqSum c.width8 c.rowEntries table code c.m)

/-- A query's local list as it fills (R159 step 4). -/
structure LocalList where
  list : List Entry := []
  met : Nat := 0

/-- An entry that meets the bound enters the local list, which keeps the KLOCAL smallest. -/
def LocalList.add (l : LocalList) (k : Nat) (e : Entry) : LocalList :=
  { list := (insertEntry e l.list).take k, met := l.met + 1 }

/-- A run over slots: the local lists, the slots passed; `none` where a poisoned word was read. -/
structure ScanAcc where
  lists : List LocalList
  passed : Nat := 0
  bad : Bool := false
  st : State

/-- A unit read within a run; a poisoned word ends the run. -/
def ScanAcc.read (a : ScanAcc) (k u loc n : Nat) (f : ScanAcc → List Byte → ScanAcc) : ScanAcc :=
  let x := a.st.unitLoad k u loc n
  if x.code = E_NONE then f { a with st := x.st } x.data else { a with bad := true, st := x.st }

/-- Steps 3 and 4 of R159 on a slot whose code is read; the VID is read where some query's bound is met. -/
def ScoreCmd.scoreSlot (c : ScoreCmd) (k u : Nat) (tables : List (List Byte)) (j : Nat) (code : List Byte) (a : ScanAcc) :
    ScanAcc :=
  let a := { a with passed := a.passed + 1 }
  let keys := tables.mapIdx fun q t => c.key t code q
  let meets := keys.mapIdx fun q x => decide (x ≤ c.bound.getD q 0)
  if meets.any id then
    a.read k u (c.vidBase + 8 * j) 6 fun a v =>
      { a with lists := a.lists.mapIdx fun q l =>
          if meets.getD q false then
            l.add c.klocal { vid := leNat v, stage := c.stage, key := keys.getD q 0, shard := c.shard }
          else l }
  else a

/-- One slot (R159). -/
def ScoreCmd.slot (c : ScoreCmd) (k u : Nat) (filter : List Byte) (tables : List (List Byte)) (j : Nat) (a : ScanAcc) : ScanAcc :=
  let code (a : ScanAcc) : ScanAcc := a.read k u (c.addr + c.stride * j) c.codeBytes fun a d => c.scoreSlot k u tables j d a
  let attr (a : ScanAcc) : ScanAcc :=
    if c.fen then
      a.read k u (c.attrAt j) 8 fun a d => if filterPass filter c.fany (leNat d) then code a else a
    else code a
  if c.tombBase = 0xFFFFFFFF then attr a
  else
    let b := c.tombBit + j
    a.read k u (c.tombBase + b / 8) 1 fun a d => if leNat d / 2 ^ (b % 8) % 2 = 1 then a else attr a

/-- The slots of a command in order, to the first poisoned word. -/
def ScoreCmd.run (c : ScoreCmd) (k u : Nat) (filter : List Byte) (tables : List (List Byte)) : Nat → Nat → ScanAcc → ScanAcc
  | 0, _, a => a
  | n + 1, j, a =>
    let a := c.slot k u filter tables j a
    if a.bad then a else c.run k u filter tables n (j + 1) a

/-! Results (R162). -/

def IS_OK : Nat := 0
def IS_POISON : Nat := 1
def IS_MALFORMED : Nat := 2
def IS_ABORTED : Nat := 3

/-- A result header (R162). -/
def inlHead (tag q status n dropped passed : Nat) : List Byte :=
  leBytes 4 tag ++ leBytes 1 q ++ leBytes 1 status ++ leBytes 1 n ++ zeros 1 ++ leBytes 4 dropped ++ leBytes 4 passed

/-- A byte string padded to whole granules. -/
def toGranules (b : List Byte) : List Byte := padTo (roundUp b.length 64) b

/-- The result of a command that ended with a STATUS other than OK: one header for each query (R162, R281).
Assumption log: 52 (DESIGN CHOICE). -/
def failResult (p : InlPkt) (status : Nat) : List Byte :=
  let n := if p.scores then max 1 (min 8 (at_ p.bytes 1 1 % 16)) else 1
  toGranules ((List.range n).flatMap fun q => inlHead (at_ p.bytes 4 4) q status 0 0 0)

/-- A trim that waits for the unit starts at a command boundary (R170). -/
def State.trimBoundary (s : State) (k u : Nat) : State :=
  if (smGet (fun _ => {}) s.stk k).trimming = some u ∧ (s.unitState k u = US_IDLE ∨ s.unitState k u = US_BUSY) then
    s.setUnitState k u US_TRIM
  else s

/-- The head command's result enters the result FIFO and the next command may begin (R154, R155). -/
def State.finishCmd (s : State) (k u : Nat) (p : InlPkt) (bytes : List Byte) (aux : Nat) : State :=
  let x := s.unit k u
  let x := { x with cmds := x.cmds.drop 1, results := x.results ++ [{ p with bytes := bytes, aux := aux }], startAt := s.now }
  ((s.setUnit k u x).settleUnit k u).trimBoundary k u

/-- The head command ends with a STATUS other than OK.
Assumption log: 52 (DESIGN CHOICE). -/
def State.failCmd (s : State) (k u : Nat) (p : InlPkt) (status aux : Nat) : State := s.finishCmd k u p (failResult p status) aux

/-- A packet that breaks R172: answered MALFORMED, recorded, reported. -/
def State.badPacket (s : State) (k u : Nat) (p : InlPkt) : State :=
  ((s.setBit (F.INL_UNIT_ERR_MALFORMED k u) true).failCmd k u p IS_MALFORMED 0).raise EV_INLAY_MALFORMED (k * 256 + u) []

/-- A command that read a poisoned word (R168). -/
def State.poisonCmd (s : State) (k u : Nat) (p : InlPkt) : State :=
  (s.setBit (F.INL_UNIT_ERR_POISON k u) true).failCmd k u p IS_POISON 0

/-- The blocks of a scoring result (R162). -/
def ScoreCmd.result (c : ScoreCmd) (a : ScanAcc) : List Byte :=
  toGranules ((a.lists.mapIdx fun q l =>
    inlHead c.tag q IS_OK l.list.length (l.met - l.list.length) a.passed ++ l.list.flatMap Entry.bytes).flatten)

/-- SCORE_PQ and DOT_I8 (R159, R163). -/
def State.runScore (s : State) (k u : Nat) (p : InlPkt) : State :=
  let c := scoreOf p.bytes
  if !c.ok (at_ p.bytes 2 2) p.bytes.length then s.badPacket k u p
  else
    let x := s.unit k u
    let s := s.heatUnit k u c.addr (c.stride * c.count)
    let a := c.run k u (x.filterSlot c.fslot) ((List.range c.batch).map (c.table x)) c.count 0
      { lists := List.replicate c.batch {}, st := s }
    let s := a.st.bump (F.INL_PERF_SCORES_SCORES k) (a.passed * c.batch)
    if a.bad then s.poisonCmd k u p else s.finishCmd k u p (c.result a) 0

/-! Row commands (R278 to R281, R287 to R292). -/

/-- The fields common to the row commands (R281). -/
structure RowCmd where
  sub : Nat
  len : Nat
  tag : Nat
  addr : Nat
  count : Nat
  elems : Nat
  fmt : Nat
  double : Bool
  form : Nat
  epoch : Nat
  wclamp : Nat
  params : List Nat
  body : List Byte

/-- The fields of a row command's bytes. -/
def rowCmdOf (b : List Byte) : RowCmd :=
  { sub := at_ b 1 1, len := at_ b 2 2, tag := at_ b 4 4, addr := at_ b 8 4, count := at_ b 12 4, elems := at_ b 16 2,
    fmt := at_ b 18 1 % 4, double := at_ b 18 1 / 4 % 2 == 1, form := at_ b 19 1, epoch := at_ b 20 4,
    wclamp := at_ b 24 4, params := (List.range 9).map fun i => at_ b (28 + 4 * i) 4, body := b.drop 64 }

/-- Data granules of a slot: DG (R279). -/
def dataGranules (fmt e : Nat) : Nat := if fmt = 1 then (e + 63) / 64 else (e + 127) / 128

/-- State bytes of an extent that hold values (R279). -/
def stateBytes (form e : Nat) : Nat :=
  match form with
  | 2 => 2 * e
  | 3 => e + e / 16
  | 4 => 4 * e
  | 5 => 2 * e + e / 8
  | _ => 0

/-- State granules of an extent: SG (R279). -/
def stateGranules (form e : Nat) : Nat := (stateBytes form e + 63) / 64

/-- Granules of an extent: X (R279). -/
def extentGranules (fmt e form : Nat) (double : Bool) : Nat :=
  1 + dataGranules fmt e * (if double then 2 else 1) + stateGranules form e

/-- A row form is in range (R276, R279). -/
def rowFormOk (fmt e form : Nat) : Bool :=
  (fmt == 1 || fmt == 2) && decide (32 ≤ e) && decide (e ≤ 4096) && decide (e % 32 = 0) && decide (form ≤ 5)

/-- DG of a command. -/
def RowCmd.dg (c : RowCmd) : Nat := dataGranules c.fmt c.elems

/-- The checks of R172 that every row command shares. -/
def RowCmd.ok (c : RowCmd) (bytes : Nat) : Bool :=
  rowFormOk c.fmt c.elems c.form && decide (c.count = extentGranules c.fmt c.elems c.form c.double) &&
    decide (c.count ≤ 320) && decide (c.addr % 64 = 0) && decide (c.addr + 64 * c.count ≤ unitBytes) &&
    decide (bytes = 64 * c.len)

/-- Unit-local offset of a data slot.
Assumption log: 51 (DEDUCED). -/
def RowCmd.slotAt (c : RowCmd) (i : Nat) : Nat := c.addr + 64 + 64 * c.dg * i

/-- Unit-local offset of the optimiser state. -/
def RowCmd.stateAt (c : RowCmd) : Nat := c.addr + 64 + 64 * c.dg * (if c.double then 2 else 1)

/-- TAG of a data slot in a header.
Assumption log: 51 (DEDUCED). -/
def headTag (h : List Byte) (i : Nat) : Nat := at_ h (8 + 12 * i) 4

/-- The slot of an unpinned read: the larger tag, slot 0 on a tie (R292). -/
def readSlot (double : Bool) (h : List Byte) : Nat := if double ∧ headTag h 0 < headTag h 1 then 1 else 0

/-- The slot of a pinned read: the largest tag not above F; where no tag is, the manual names none (R292).
Assumption log: 49 (DESIGN CHOICE), 50 (DESIGN CHOICE). -/
def pinnedSlot (h : List Byte) (f free : Nat) : Nat :=
  let a := headTag h 0
  let b := headTag h 1
  if a ≤ f ∧ b ≤ f then (if a < b then 1 else 0) else if a ≤ f then 0 else if b ≤ f then 1 else free % 2

/-- The slot that a commit writes: the one tagged A, else the one with the smaller tag, slot 1 on a tie (R292).
Assumption log: 50 (DESIGN CHOICE). -/
def writeSlot (double : Bool) (h : List Byte) (a : Nat) : Nat :=
  if !double then 0
  else if headTag h 0 = a then 0
  else if headTag h 1 = a then 1
  else if headTag h 0 < headTag h 1 then 0 else 1

/-- The header after a commit: SCALE, OFFSET and tag of the slot written, ACC, VERSION (R278, R287). -/
def newHeader (h : List Byte) (slot scale offset tag acc : Nat) : List Byte :=
  let put (h : List Byte) (o : Nat) (v : List Byte) : List Byte := h.take o ++ v ++ h.drop (o + v.length)
  let h := put h (12 * slot) (leBytes 4 scale ++ leBytes 4 offset ++ leBytes 4 tag)
  put (put h 24 (leBytes 4 acc)) 32 (leBytes 8 (at_ h 32 8 + 1))

/-- Bytes committed to a unit's extent, as one step; marks of words covered whole are cleared (R164, R168). -/
def State.unitStore (s : State) (k u loc : Nat) (d : List Byte) : State :=
  if d.isEmpty then s else (s.storePhys false (unitAddr k u loc) d).2

/-- A row command on an extent whose header is read: ABSENT aborts it (R281).
Assumption log: 51 (DEDUCED). -/
def State.rowHead (s : State) (k u : Nat) (p : InlPkt) (c : RowCmd) (f : State → List Byte → State) : State :=
  let s := s.heatUnit k u c.addr (64 * c.count)
  let x := s.unitLoad k u c.addr 64
  if x.code ≠ E_NONE then x.st.poisonCmd k u p
  else if at_ x.data 28 1 % 2 = 1 then x.st.failCmd k u p IS_ABORTED 2
  else f x.st x.data

/-- GATHER_ROW (R281). -/
def State.runGather (s : State) (k u : Nat) (p : InlPkt) : State :=
  let c := rowCmdOf p.bytes
  let g0 := at_ p.bytes 24 2
  let n := at_ p.bytes 26 2
  if !c.ok p.bytes.length || c.len != 1 || n == 0 || decide (c.dg < g0 + n) then s.badPacket k u p
  else
    s.rowHead k u p c fun s h =>
      let pin := c.sub % 2 == 1 && c.double
      let i := if pin then pinnedSlot h c.epoch s.free else readSlot c.double h
      let s := if pin && decide (c.epoch < headTag h 0) && decide (c.epoch < headTag h 1) then s.nextFree else s
      let x := s.unitLoad k u (c.slotAt i + 64 * g0) (64 * n)
      if x.code ≠ E_NONE then x.st.poisonCmd k u p
      else
        let g := inlHead c.tag 0 IS_OK 0 0 0 ++ (h.drop (12 * i)).take 8 ++ leBytes 1 i ++ (h.drop 28).take 1
        x.st.finishCmd k u p (padTo 64 g ++ x.data) (headTag h i)

/-- A new SCALE, OFFSET and codes committed (R287); with `clear` the state and ACC become 0 in the same commit. -/
def State.commitRow (s : State) (k u : Nat) (c : RowCmd) (h : List Byte) (clear : Bool) : State :=
  let i := writeSlot c.double h c.epoch
  let s := s.unitStore k u (c.slotAt i) (padTo (64 * c.dg) (c.body.drop 64))
  let s := if clear then s.unitStore k u c.stateAt (zeros (64 * stateGranules c.form c.elems)) else s
  s.unitStore k u c.addr (newHeader h i (at_ c.body 0 4) (at_ c.body 4 4) c.epoch (if clear then 0 else at_ h 24 4))

/-- REPLACE_ROW (R164, R281, R287). -/
def State.runReplace (s : State) (k u : Nat) (p : InlPkt) : State :=
  let c := rowCmdOf p.bytes
  if !c.ok p.bytes.length || c.len != c.dg + 2 then s.badPacket k u p
  else s.rowHead k u p c fun s h =>
    (s.commitRow k u c h false).finishCmd k u p (toGranules (inlHead c.tag 0 IS_OK 0 0 0)) 0

/-! The update arithmetic (R280, R288 to R290). -/

/-- An FP32 value by its code. -/
def f32 (code : Nat) : FV := Fp.fv (fmtFP32.decode code)

/-- A value of FP32 as its code. -/
def FV.code (x : FV) : Nat := fmtFP32.encode x.v

/-- Code i of a data slot (R91, R276). -/
def rowCode (fmt : Nat) (d : List Byte) (i : Nat) : Nat := if fmt = 1 then at_ d i 1 else at_ d (i / 2) 1 / 16 ^ (i % 2) % 16

/-- The values of a slot (R280). -/
def rowValues (fmt n scale offset : Nat) (d : List Byte) : List FV :=
  (List.range n).map fun i => fFma ⟨.num false (rowCode fmt d i) 0, 0⟩ (f32 scale) (f32 offset)

/-- The dequantised gradient of an RMW_ROW (R117, R118, R281). -/
def rowGradient (e4m3 : Bool) (n : Nat) (b : List Byte) : List FV :=
  (List.range n).map fun i => dequant (elemFV (if e4m3 then 0x05 else 0x06) b i) (scaleFV 1 (b.drop n) (i / 32))

/-- First moments of a row's state (R117, R119, R279). -/
def rowM (form n : Nat) (d : List Byte) : List FV :=
  (List.range n).map fun i =>
    match form with
    | 2 | 4 => elemFV 0x0A d i
    | 3 => fMul (elemFV 0x02 d i) (scaleFV 1 (d.drop n) (i / 32))
    | 5 => fMul (elemFV 0x02 d i) (scaleFV 1 (d.drop (2 * n)) (i / 32))
    | _ => Fp.fv .zero

/-- Second moments of a row's state (R119, R279). -/
def rowV (form n : Nat) (d : List Byte) : List FV :=
  (List.range n).map fun i =>
    match form with
    | 4 => elemFV 0x0A (d.drop (2 * n)) i
    | 5 => q8Value (elemFV 0x03 (d.drop n) i) (scaleFV 1 (d.drop (2 * n + n / 16)) (i / 32))
    | _ => Fp.fv .zero

/-- State bytes from moments (R121, R279). -/
def rowState (form n : Nat) (m v : List FV) : List Byte :=
  let f16 (xs : List FV) : List Byte := packCodes 16 (xs.map fun x => (convert 0x0A true x).code)
  let q (xs : List FV) : List (Nat × List Conv) := (chunks 32 n xs).map (quantGroup 0x02 0 (Fp.fv .one))
  let codes (gs : List (Nat × List Conv)) : List Byte := packCodes 8 ((gs.flatMap Prod.snd).map Conv.code)
  let scales (gs : List (Nat × List Conv)) : List Byte := gs.flatMap fun g => leBytes 2 g.1
  match form with
  | 2 => f16 m
  | 3 => codes (q m) ++ scales (q m)
  | 4 => f16 m ++ f16 v
  | 5 =>
    let qv := (chunks 32 n v).map q8Second
    codes (q m) ++ codes qv ++ scales (q m) ++ scales qv
  | _ => []

/-- The parameters as the optimiser steps of a tile take them (R120, R281): b1, omb1, b2, omb2, c1, c2, lr, eps, lrwd. -/
def RowCmd.desc (c : RowCmd) : Desc := { p := 0 :: c.params }

/-- A parameter of R281. -/
def RowCmd.prm (c : RowCmd) (i : Nat) : FV := f32 (c.params.getD i 0)

/-- The row accumulator of ADAGRAD_ROW after an update, and the step (R288). -/
def RowCmd.adagrad (c : RowCmd) (acc : Nat) (g : List FV) : FV × FV :=
  let x := sumTree (g.map fun x => if x.v.isFinite then fMul x x else Fp.fv .zero)
  let a := fAdd (f32 acc) (fMul x (c.prm 4))
  (a, fMul (c.prm 6) (fRsqrt (fAdd a (c.prm 7))))

/-- One element's new value and moments (R288, R290); the Boolean says that it was skipped. -/
def RowCmd.elem (c : RowCmd) (mode : Nat) (step w g m v : FV) : OptElem × Bool :=
  if !g.v.isFinite then (⟨w, m, v⟩, true)
  else
    let e : OptElem := match mode with
      | 0 => ⟨fFma (fNeg (c.prm 6)) g (fFma (fNeg (c.prm 8)) w w), m, v⟩
      | 1 => momentumStep c.desc w g m v
      | 2 => adamStep c.desc w g m v
      | _ => ⟨fFma (fNeg step) g w, m, v⟩
    if e.w.v == .nan then (⟨w, m, v⟩, true) else (e, false)

/-- Requantised rows: SCALE, OFFSET and codes (R289). A kept NaN leaves codes that the manual does not state.
Assumption log: 53 (DESIGN CHOICE). -/
def requantise (fmt wclamp : Nat) (ws : List FV) : Nat × Nat × List Nat :=
  let hiQ := if fmt = 1 then 255 else 15
  let cl := ws.map fun w => fMax (fNeg (f32 wclamp)) (fMin (f32 wclamp) w)
  let ext (f : FV → FV → FV) : FV := match cl with
    | [] => Fp.fv .zero
    | a :: r => r.foldl f a
  let lo := ext fMin
  let hi := ext fMax
  let d := fSub hi lo
  if d.v.isZero then (0, lo.code, cl.map fun _ => 0)
  else
    let q := fDiv d ⟨.num false hiQ 0, 0⟩
    let sc := if q.v.isZero then f32 1 else q
    (sc.code, lo.code, cl.map fun w =>
      match (Fp.fmaE w.v .one lo.v.neg).1, sc.v with
      | .num sg m e, .num sg2 n f =>
        if n = 0 then 0
        else if sg != sg2 then 0
        else let x := quot m e n f; min hiQ (rneInt x.1 x.2.1 x.2.2)
      | _, _ => Config.overZero (w.code + 2 ^ 32 * sc.code) % (hiQ + 1))

/-- Whether a mode fits the state form (R288). -/
def modeFits (mode form : Nat) : Bool :=
  match mode with
  | 0 => true
  | 1 => form == 2 || form == 3
  | 2 => form == 4 || form == 5
  | 3 => form == 1
  | _ => false

/-- APPLY in the owning unit (R288). -/
def State.applyRow (s : State) (k u : Nat) (p : InlPkt) (c : RowCmd) (h : List Byte) : State :=
  let mode := c.sub % 16
  let rd := readSlot c.double h
  let wr := writeSlot c.double h c.epoch
  let x := s.unitLoad k u (c.slotAt rd) (64 * c.dg)
  if x.code ≠ E_NONE then x.st.poisonCmd k u p
  else
    let y := x.st.unitLoad k u c.stateAt (64 * stateGranules c.form c.elems)
    if y.code ≠ E_NONE then y.st.poisonCmd k u p
    else
      let n := c.elems
      let ws := rowValues c.fmt n (at_ h (12 * rd) 4) (at_ h (12 * rd + 4) 4) x.data
      let gs := rowGradient (c.sub / 16 % 2 == 1) n c.body
      let ms := rowM c.form n y.data
      let vs := rowV c.form n y.data
      let ad := c.adagrad (at_ h 24 4) gs
      let z := Fp.fv .zero
      let es := (List.range n).map fun i =>
        c.elem mode ad.2 (ws.getD i z) (gs.getD i z) (ms.getD i z) (vs.getD i z)
      let rq := requantise c.fmt c.wclamp (es.map fun e => e.1.w)
      let codes := packCodes (if c.fmt = 1 then 8 else 4) rq.2.2
      let s := y.st.bump F.TBL_CNT_EXC_ELEM_SKIP (es.filter Prod.snd).length
      let s := s.unitStore k u (c.slotAt wr) (codes ++ x.data.drop codes.length)
      let st := rowState c.form n (es.map fun e => e.1.m) (es.map fun e => e.1.v)
      let s := if mode = 0 then s else s.unitStore k u c.stateAt (st ++ y.data.drop st.length)
      let acc := if mode = 3 then ad.1.code else at_ h 24 4
      let s := s.unitStore k u c.addr (newHeader h wr rq.1 rq.2.1 c.epoch acc)
      s.finishCmd k u p (toGranules (inlHead c.tag 0 IS_OK 0 0 0)) 0

/-- RMW_ROW (R281, R287, R288). -/
def State.runRmw (s : State) (k u : Nat) (p : InlPkt) : State :=
  let c := rowCmdOf p.bytes
  let mode := c.sub % 16
  let len := if mode = 4 then c.dg + 2 else 1 + (c.elems + c.elems / 16 + 63) / 64
  let clampOk := decide (0x00800000 ≤ c.wclamp) && decide (c.wclamp ≤ 0x7E800000)
  if !c.ok p.bytes.length || decide (4 < mode) || c.len != len || (mode != 4 && !(modeFits mode c.form && clampOk)) then
    s.badPacket k u p
  else s.rowHead k u p c fun s h =>
    if mode = 4 then (s.commitRow k u c h true).finishCmd k u p (toGranules (inlHead c.tag 0 IS_OK 0 0 0)) 0
    else s.applyRow k u p c h

/-! The commands of R157. -/

/-- The operations of R157. -/
def inlOps : List Nat := [0x10, 0x11, 0x20, 0x21, 0x22, 0x30]

/-- A unit runs the packet at the head of its command FIFO, if its OP is the given one; a packet with a reserved OP is
answered MALFORMED by whichever command comes (R172). It starts only with room for its result (R154). -/
def State.runUnit (s : State) (k u op : Nat) (f : InlPkt → State) : State :=
  if s.unitState k u = US_BUSY then
    match (packetsOf (s.unit k u).cmds).head? with
    | none => s
    | some p =>
      if 256 < granulesOf (s.unit k u).results + p.resultRoom then s
      else if p.op = op then f p
      else if inlOps.contains p.op then s
      else s.badPacket k u p
  else s

/-- A row of R157 on a unit. -/
def runInlay (op : Nat) (f : State → Nat → Nat → InlPkt → State) (stack unit : Nat) (s : State) : Res :=
  onUnit (stack < 12 && unit < 256) (if s.hasUnit stack unit then s.runUnit stack unit op (f s stack unit) else s)

/-- FENCE (R157): an empty result. -/
def State.runFence (s : State) (k u : Nat) (p : InlPkt) : State :=
  if at_ p.bytes 2 2 = 1 ∧ p.bytes.length = 64 then
    s.finishCmd k u p (toGranules (inlHead (at_ p.bytes 4 4) 0 IS_OK 0 0 0)) 0
  else s.badPacket k u p

/-- SCORE_PQ (R159). -/
def execScorePq (stack unit : Nat) (s : State) : Res := s.live <| runInlay 0x10 State.runScore stack unit s
/-- DOT_I8 (R163). -/
def execDotI8 (stack unit : Nat) (s : State) : Res := s.live <| runInlay 0x11 State.runScore stack unit s
/-- GATHER_ROW (R281). -/
def execGatherRow (stack unit : Nat) (s : State) : Res := s.live <| runInlay 0x20 State.runGather stack unit s
/-- REPLACE_ROW (R281). -/
def execReplaceRow (stack unit : Nat) (s : State) : Res := s.live <| runInlay 0x21 State.runReplace stack unit s
/-- RMW_ROW (R288). -/
def execRmwRow (stack unit : Nat) (s : State) : Res := s.live <| runInlay 0x22 State.runRmw stack unit s
/-- FENCE (R157). -/
def execFence (stack unit : Nat) (s : State) : Res := s.live <| runInlay 0x30 State.runFence stack unit s

/-! Scrub (R169). -/

/-- A scrub reads the word at an offset of a stack: a correctable one is written back whole, an uncorrectable one poisoned.
Assumption log: 38 (DESIGN CHOICE), 54 (DESIGN CHOICE). -/
def State.scrub (s : State) (k o : Nat) : State :=
  let a := stackBase k + o / 32 * 32
  match s.ecc.find? fun e => e.1 == a with
  | some e => if e.2 = 1 then (s.countCe a).setEcc a 0 else if e.2 = 2 then s.poisonWord 0 a else s
  | none => s

/-- SCRUB (R169).
Assumption log: 54 (DESIGN CHOICE). -/
def execScrub (stack offset : Nat) (s : State) : Res := s.live <|
  onUnit (stack < 12 && offset < 0x800000000) (if stack < s.nStacks then s.scrub stack offset else s)

/-! OFFLINE (R171). -/

/-- The results of the packets that a unit leaves undone: the running command POISON, the others ABORTED.
Assumption log: 55 (DEDUCED). -/
def offlineResults (poison : Bool) : List InlPkt → List InlPkt
  | [] => []
  | p :: r =>
    { p with bytes := failResult p (if poison then IS_POISON else IS_ABORTED), aux := 1 } :: offlineResults false r

/-- A unit goes OFFLINE (R171). Broadcasts still queued are not taken.
Assumption log: 55 (DEDUCED). -/
def State.takeOffline (s : State) (k u : Nat) : State :=
  let x := s.unit k u
  let s := s.setUnitState k u US_OFFLINE
  let rs := x.results ++ offlineResults true (packetsOf x.cmds) ++ offlineResults false (packetsOf x.waiting)
  let s := s.setUnit k u { x with cmds := [], waiting := [], pendBcast := [], results := rs }
  s.raise EV_INLAY_OFFLINE (k * 256 + u) []

/-- A parity error in a table store or a FIFO (R171); in an OFFLINE unit it is only recorded. -/
def State.inlayParity (s : State) (k u : Nat) : State :=
  let t := s.setBit (F.INL_UNIT_ERR_PARITY k u) true
  if s.unitState k u = US_OFFLINE then t else t.takeOffline k u

/-- INLAY_PARITY_ERROR (R171). -/
def execInlayParityError (stack unit : Nat) (s : State) : Res := s.live <|
  onUnit (stack < 12 && unit < 256) (if s.hasUnit stack unit then s.inlayParity stack unit else s)

/-- A running command exceeds CMD_LIMIT (R171).
Assumption log: 55 (DEDUCED). -/
def State.inlayHang (s : State) (k u : Nat) : State :=
  if s.unitState k u = US_BUSY then
    let s := s.reach ((s.unit k u).startAt + beatsNs (s.get (F.INL_LIMITS_CMD_LIMIT k)))
    (s.setBit (F.INL_UNIT_ERR_HANG k u) true).takeOffline k u
  else s

/-- INLAY_CMD_HANG (R171). -/
def execInlayCmdHang (stack unit : Nat) (s : State) : Res := s.live <|
  onUnit (stack < 12 && unit < 256) (if s.hasUnit stack unit then s.inlayHang stack unit else s)

/-- INL_UNIT_CTRL.ONLINE: the FIFOs are cleared and the copy begins (R171). The stack controller has read the results that its
engines have not taken yet. -/
def State.inlayOnline (s : State) (k u : Nat) : State :=
  let x := s.unit k u
  if s.unitState k u = US_OFFLINE then
    (s.setUnitState k u US_COPYING).setUnit k u { x with cmds := [], results := [], taken := x.taken ++ x.results }
  else s

/-- INLAY_ONLINE (R171). -/
def execInlayOnline (stack unit : Nat) (s : State) : Res := s.live <|
  onUnit (stack < 12 && unit < 256) (if s.hasUnit stack unit then s.inlayOnline stack unit else s)

/-- Table and filter slots with free contents, for a copy that has no source.
Assumption log: 48 (DESIGN CHOICE). -/
def freeTables (c : Nat) : InlSt :=
  { tslots := (List.range 64).foldl (fun m i => smPut (fun _ => zeros 1024) m i (leBytes 1024 (Config.freeValue (c + i)))) [],
    filters := (List.range 8).foldl (fun m i => smPut (fun _ => zeros 64) m i (leBytes 64 (Config.freeValue (c + 64 + i)))) [] }

/-- The copy ends: tables and filters of the lowest-numbered IDLE or BUSY unit, then the broadcasts issued meanwhile, then IDLE
(R171). Where no such unit is left the manual names no source, and the contents are free values.
Assumption log: 48 (DESIGN CHOICE). -/
def State.inlayCopied (s : State) (k u : Nat) : State :=
  if s.unitState k u = US_COPYING then
    let x := s.unit k u
    let src := (List.range 256).find? fun v => s.unitState k v == US_IDLE || s.unitState k v == US_BUSY
    let y := match src with
      | some v => s.unit k v
      | none => freeTables s.freeCtr
    let s := if src.isSome then s.bump (F.INL_PERF_BUS_BYTES k) 66048 else { s with freeCtr := s.freeCtr + 72 }
    let x := x.pendBcast.foldl InlSt.applyItem { x with tslots := y.tslots, filters := y.filters }
    ((s.setUnitState k u US_IDLE).setUnit k u { x with pendBcast := [] }).settleUnit k u
  else s

/-- INLAY_COPY_DONE (R171). -/
def execInlayCopyDone (stack unit : Nat) (s : State) : Res := s.live <|
  onUnit (stack < 12 && unit < 256) (if s.hasUnit stack unit then s.inlayCopied stack unit else s)

/-! What the engines take from a unit. -/

/-- The result FIFO's head, taken by the stack controller: its credits return (R154). -/
def State.takeResult (s : State) (k u : Nat) : Option (InlPkt × State) :=
  let x := s.unit k u
  match x.taken, x.results with
  | r :: rs, _ => some (r, s.setUnit k u { x with taken := rs })
  | [], r :: rs => some (r, (s.setUnit k u { x with results := rs }).settleUnit k u)
  | [], [] => none

end Sys2Proof.Machine
end

