-- ==== Sys2Proof/Machine/Selection.lean ====
section
/-! DEFINITION. Selection and merge (R257 to R271): passes, duplicates, merge buffers, payloads, and how a search ends. -/

namespace Sys2Proof.Machine

/-! Passes (R257). -/

/-- What a pass gives: the entries written, TIE_KEY, TIE_OUT. -/
structure PassOut where
  out : List Entry
  tieKey : Nat
  tieOut : Nat
  tied : List Entry

/-- One pass: the first `k` entries in entry order among those strictly after `after`; sentinels are ignored.
Assumption log: 78 (DESIGN CHOICE). -/
def topPass (es : List Entry) (k : Nat) (after : Option Entry) : PassOut :=
  let cand := sortEntries (es.filter fun e => !e.sentinel && (match after with
    | some a => decide (a.rank < e.rank)
    | none => true))
  let out := cand.take k
  match out.getLast? with
  | none => ⟨[], 0xFFFFFFFF, 0, []⟩
  | some l =>
    let tied := (cand.drop k).filter fun e => e.key == l.key
    ⟨out, l.key, tied.length, tied⟩

/-- The 16-byte trailer of a pass.
Assumption log: 78 (DESIGN CHOICE). -/
def PassOut.trailer (p : PassOut) : List Byte :=
  leBytes 4 p.out.length ++ leBytes 4 p.tieKey ++ leBytes 4 p.tieOut ++ zeros 4

/-! Duplicates within one stage (R260). -/

/-- A kept entry marked for a removed one: DUP_SEEN, and DUP_CONFLICT if the keys differ at one stage. -/
def Entry.markDup (kept removed : Entry) : Entry :=
  { kept with flags := Nat.lor kept.flags (if kept.stage = removed.stage ∧ kept.key ≠ removed.key then 3 else 1) }

/-- Whether removing an entry in favour of a kept one is a conflict. -/
def Entry.conflicts (kept removed : Entry) : Bool := kept.stage == removed.stage && kept.key != removed.key

/-- A list from which later entries with a VID already kept are removed: the list, removals, conflicts. -/
structure Dedup where
  kept : List Entry
  removed : Nat := 0
  conflict : Nat := 0

/-- One entry of a single-stage list in entry order (R260). -/
def Dedup.add (d : Dedup) (e : Entry) : Dedup :=
  match d.kept.find? fun k => k.vid == e.vid with
  | none => { d with kept := d.kept ++ [e] }
  | some _ =>
    let c := d.kept.any fun k => k.vid == e.vid && k.conflicts e
    { kept := d.kept.map fun k => if k.vid = e.vid then k.markDup e else k,
      removed := d.removed + 1, conflict := d.conflict + (if c then 1 else 0) }

/-- Entries in entry order joined to a kept list (R260).
Assumption log: 61 (DEDUCED). -/
def dedupInto (kept es : List Entry) : Dedup := es.foldl Dedup.add ⟨kept, 0, 0⟩

/-- Removals counted (R260, R267). -/
def State.countDups (s : State) (removed conflict : Nat) : State :=
  (s.bump F.SEL_CNT_DUP_REMOVED removed).bump F.SEL_CNT_DUP_CONFLICT conflict

/-! Sending a RESULT. -/

/-- The status flag DUP_CONFLICT where entries carry it. -/
def dupFlag (es : List Entry) : Nat := if es.any fun e => e.flags / 2 % 2 == 1 then SF_DUP_CONFLICT else 0

/-- The node tenant of a global tenant; 0 where the map has none (R70). -/
def State.tenantOf (s : State) (g : Nat) : Nat :=
  match s.img.tenants.find? fun e => e.global == g with
  | some e => e.node
  | none => 0

/-- The K slots of a RESULT: the entries, then sentinels (R269 step 2). -/
def fillSlots (k : Nat) (es : List Entry) : List Byte :=
  (es ++ List.replicate (k - es.length) sentinelEntry).flatMap Entry.bytes

/-- The RESULT of a job whose payloads are all in (R271). -/
def State.sendJob (s : State) (j : PayJob) : State :=
  if j.direct && s.silenced j.r.src j.r.reqId then s
  else
    let blank := zeros (8 * j.units)
    let pays := (j.pays ++ List.replicate (j.k - j.pays.length) blank).flatten
    let body := resultHead (statusWord j.flags E_NONE) j.k j.n j.tieOut j.partsIn j.partsMissing j.partsFailed j.dups j.units ++
      fillSlots j.k j.entries ++ pays
    let s := (s.sendResult j.unit j.r body).accountAnswer j.r.tenant j.flags E_NONE true
    if j.direct then s.leave j.r.src j.r.reqId else s

/-! Payloads (R270). -/

/-- The home that the route map gives for a shard (R67). -/
def State.homeOf (s : State) (kind object shard : Nat) : Option Nat :=
  (s.img.routes.find? fun e => e.kind == kind && e.object == object && e.shard == shard).map Route.home

/-- A request ID that no request of the node has; which IDs the node chooses is its own affair. -/
def State.newAsk (s : State) (unit dst : Nat) (hopped : Bool) : Nat × State :=
  let q := s.sko.askNext
  (q, { s with sko := { s.sko with askNext := q + 1, asks := s.sko.asks ++ [⟨q, unit, dst, hopped⟩] } })

/-- The answer to a request of the node, taken from where it waits. -/
def State.takeAnswer (s : State) (reqId : Nat) : Option (Answer × State) :=
  match s.sko.inbox.find? fun a => a.reqId == reqId with
  | none => none
  | some a =>
    some (a, { s with sko := { s.sko with inbox := s.sko.inbox.filter (fun a => a.reqId != reqId),
                                          asks := s.sko.asks.filter (fun a => a.reqId != reqId) } })

/-- A request of the node is given up. -/
def State.dropAsk (s : State) (reqId : Nat) : State :=
  { s with sko := { s.sko with inbox := s.sko.inbox.filter (fun a => a.reqId != reqId),
                               asks := s.sko.asks.filter (fun a => a.reqId != reqId) } }

/-- The LOOKUP body for one payload row (R270, R283). -/
def lookupBody (table shard row reply len : Nat) : List Byte :=
  leBytes 1 table ++ zeros 1 ++ leBytes 2 shard ++ zeros 2 ++ leBytes 2 1 ++ zeros 2 ++ leBytes 2 len ++ zeros 4 ++
    leBytes 6 reply ++ zeros 10 ++ leBytes 4 row

/-- The job of a request. -/
def State.payJob (s : State) (src reqId : Nat) : Option PayJob :=
  s.sel.pays.find? fun j => j.r.src == src && j.r.reqId == reqId

/-- A job, replaced. -/
def State.setJob (s : State) (j : PayJob) : State :=
  { s with sel := { s.sel with pays := s.sel.pays.map fun i => if i.r.src = j.r.src ∧ i.r.reqId = j.r.reqId then j else i } }

/-- A job, removed. -/
def State.dropJob (s : State) (j : PayJob) : State :=
  { s with sel := { s.sel with pays := s.sel.pays.filter fun i => !(i.r.src == j.r.src && i.r.reqId == j.r.reqId) } }

/-- Slot i gets no payload: zeros, and PAYLOAD_MISSING on its entry. -/
def PayJob.missing (j : PayJob) : PayJob :=
  let i := j.pays.length
  { j with pays := j.pays ++ [zeros (8 * j.units)], ask := none, hopped := false,
           entries := j.entries.mapIdx fun x e => if x = i then { e with flags := Nat.lor e.flags 4 } else e }

/-- Slot i gets its payload. -/
def PayJob.got (j : PayJob) (d : List Byte) : PayJob :=
  { j with pays := j.pays ++ [padTo (8 * j.units) d], ask := none, hopped := false }

/-- The lookup of one slot sent to a node.
Assumption log: 75 (DESIGN CHOICE). -/
def State.sendLookup (s : State) (j : PayJob) (dst shard row : Nat) (hopped : Bool) : State :=
  let x := s.newAsk U_SELECT dst hopped
  (x.2.setJob { j with ask := some x.1, hopped := hopped }).sendHaldio U_SELECT 0 dst j.r.cls j.r.gten T_LOOKUP x.1
    j.r.deadline j.r.rehearsal (lookupBody j.table shard row j.area (8 * j.units))

/-- The next slot's lookup goes out, or the RESULT does (R270). A job waits while another uses its reply area.
Assumption log: 75 (DESIGN CHOICE). -/
def State.payNext (s : State) (j : PayJob) : Nat → State
  | 0 => s
  | fuel + 1 =>
    match j.entries[j.pays.length]? with
    | none => (s.dropJob j).sendJob j
    | some e =>
      let base := s.get (F.SEL_PAY_BASE_VID_BASE j.table)
      match s.homeOf 1 j.table e.shard with
      | some h =>
        if e.vid < base ∨ 2 ^ 32 ≤ e.vid - base ∨ s.get F.SEL_BUF_CFG_COUNT = 0 then s.payNext j.missing fuel
        else if s.sel.pays.any fun i => i.area == j.area && i.ask.isSome then s.setJob { j with ask := none }
        else s.sendLookup j h e.shard (e.vid - base) false
      | none => s.payNext j.missing fuel

/-- A job whose area has become free goes on. -/
def State.payWake (s : State) (area : Nat) : State :=
  match s.sel.pays.find? fun j => j.area == area && j.ask.isNone with
  | some j => s.payNext j (j.entries.length + 1)
  | none => s

/-- A RESULT is ready but for its payloads.
Assumption log: 75 (DESIGN CHOICE). -/
def State.startJob (s : State) (j : PayJob) : State :=
  if j.units = 0 then s.sendJob j
  else { s with sel := { s.sel with pays := s.sel.pays ++ [j] } }.payNext j (j.entries.length + 1)

/-- The answer to a job's lookup (R270): the record's data, or nothing; a redirect is followed once. -/
def State.payAnswer (s : State) (j : PayJob) (a : Answer) : State :=
  let i := j.pays.length
  let e := j.entries.getD i sentinelEntry
  let row := e.vid - s.get (F.SEL_PAY_BASE_VID_BASE j.table)
  let rec_ := s.load j.area (16 + 8 * j.units)
  let code := at_ rec_.data 4 2
  if a.ty = T_REDIRECT then
    (if j.hopped then s.payNext j.missing (j.entries.length + 1) else s.sendLookup j (at_ a.payload 4 2) e.shard row true)
  else if at_ a.payload 2 2 = E_NONE ∧ rec_.code = E_NONE ∧ code = E_NONE then
    rec_.st.payNext (j.got (rec_.data.drop 16)) (j.entries.length + 1)
  else if at_ a.payload 2 2 = E_REDIRECT ∧ rec_.code = E_NONE ∧ code = E_REDIRECT ∧ !j.hopped then
    rec_.st.sendLookup j (at_ rec_.data 8 2) e.shard row true
  else s.payNext j.missing (j.entries.length + 1)

/-- PAYLOAD_LOOKUP_DONE: a payload LOOKUP of a request has been answered (R270). -/
def State.payDone (s : State) (src reqId : Nat) : State :=
  match s.payJob src reqId with
  | none => s
  | some j =>
    match j.ask with
    | none => s
    | some q =>
      match s.takeAnswer q with
      | none => s
      | some (a, s) => (s.payAnswer { j with ask := none } a).payWake j.area

/-- PAYLOAD_LOOKUP_DONE (R270). -/
def execPayloadLookupDone (src reqId : Nat) (s : State) : Res := s.live <| .next (s.payDone src reqId)

/-- Whether the boundary of beat DEADLINE − FINAL_MARGIN has come. -/
def State.finalBeat (s : State) (deadline : Nat) : Bool :=
  deadline != 0 && s.beat.valid &&
    !beatAfter ((deadline + beatMod - s.get F.SEL_CFG_FINAL_MARGIN) % beatMod) s.beat.beat

/-- PAYLOAD_DEADLINE: the lookups that have not returned give no payload, and the RESULT is sent (R270). -/
def State.payDeadline (s : State) (src reqId : Nat) : State :=
  match s.payJob src reqId with
  | none => s
  | some j =>
    if s.finalBeat j.r.deadline then
      let s := match j.ask with
        | some q => s.dropAsk q
        | none => s
      let m := (List.range (j.entries.length - j.pays.length)).foldl (fun j _ => j.missing) j
      ((s.dropJob j).sendJob { m with flags := addFlag j.flags SF_DEADLINE_PARTIAL }).payWake j.area
    else s

/-- PAYLOAD_DEADLINE (R270). -/
def execPayloadDeadline (src reqId : Nat) (s : State) : Res := s.live <| .next (s.payDeadline src reqId)

/-! How a search ends (R263, R264). -/

/-- A partial list (R261): entries in entry order, cut to K, flags, code, the entries left out at the last key. -/
structure Partial where
  shard : Nat
  k : Nat
  flags : Nat
  code : Nat
  tieOut : Nat
  entries : List Entry

/-- TIE_KEY of a partial list (R264). -/
def Partial.tieKey (p : Partial) : Nat :=
  if p.entries.length < p.k then 0xFFFFFFFF else (p.entries.getLast?.map Entry.key).getD 0xFFFFFFFF

/-- The contribution of a partial list (R264). -/
def contribBytes (r : Req) (m : MergeTo) (p : Partial) : List Byte :=
  leBytes 8 r.reqId ++ leBytes 6 r.deadline ++ leBytes 2 r.src ++ leBytes 2 p.shard ++ leBytes 2 p.k ++ leBytes 2 m.npart ++
    leBytes 2 m.buf ++ leBytes 4 (statusWord p.flags p.code) ++ leBytes 4 p.tieKey ++ leBytes 4 p.tieOut ++
    leBytes 2 p.entries.length ++ leBytes 1 r.cls ++ leBytes 1 m.payTable ++ leBytes 1 m.payUnits ++ zeros 1 ++
    leBytes 2 r.gten ++ leBytes 4 r.epoch ++ zeros 16 ++ p.entries.flatMap Entry.bytes

/-- The partial list that carries only a code.
Assumption log: 94 (DEDUCED). -/
def failPart (shard k flags code : Nat) : Partial := ⟨shard, k, flags, code, 0, []⟩

/-- A contribution leaves for the coordinator; it is the node's answer (R264).
Assumption log: 76 (DEDUCED), 94 (DEDUCED). -/
def State.sendContribution (s : State) (unit : Nat) (r : Req) (m : MergeTo) (p : Partial) : State :=
  if s.silenced r.src r.reqId then s
  else
    let fl := orFlags p.flags (s.reqFlags r p.code)
    let b := contribBytes r m { p with flags := fl }
    ((s.issue { op := OP_MERGE, dst := m.node, cls := r.cls, gten := r.gten, issuer := unit, total := b.length,
                data := b, rehearsal := r.rehearsal }).accountAnswer r.tenant fl p.code false).leave r.src r.reqId

/-- A search's answer: a contribution, or the RESULT built from the node's own partial list (R263, R264). -/
def State.finishSearch (s : State) (unit : Nat) (r : Req) (m : MergeTo) (p : Partial) : State :=
  if m.node ≠ 0xFFFF then s.sendContribution unit r m p
  else if p.code ≠ E_NONE then s.answerWith unit r p.flags p.code 0 0 0 []
  else
    let n := p.entries.length
    let fl := orFlags (orFlags p.flags (s.reqFlags r p.code)) (dupFlag p.entries)
    let fl := if n < p.k then addFlag fl SF_SHORT else fl
    let tie := if n < p.k then 0 else p.tieOut
    let fl := if tie = 0 then fl else addFlag fl SF_TIE_AT_K
    s.startJob { unit := unit, r := r, direct := true, area := s.get F.SEL_BUF_BASE_ADDR, flags := fl, k := p.k, n := n,
                 tieOut := tie, partsIn := 1, partsMissing := 0, partsFailed := 0, dups := 0, table := m.payTable,
                 units := m.payUnits, entries := p.entries }

/-- A search that fails (R35). -/
def State.failSearch (s : State) (unit : Nat) (r : Req) (m : MergeTo) (shard k flags code : Nat) : State :=
  s.finishSearch unit r m (failPart shard k flags code)

/-- A redirected search that names a merge target also sends a contribution with E_REDIRECT (R401). -/
def State.redirectSearch (s : State) (unit : Nat) (r : Req) (m : MergeTo) (shard k kind object home : Nat) : State :=
  let s := if m.node ≠ 0xFFFF ∧ !s.silenced r.src r.reqId then
      let b := contribBytes r m (failPart shard k (s.reqFlags r E_REDIRECT) E_REDIRECT)
      s.issue { op := OP_MERGE, dst := m.node, cls := r.cls, gten := r.gten, issuer := unit, total := b.length, data := b,
                rehearsal := r.rehearsal }
    else s
  s.redirect unit r kind object shard home 0

/-! Selections in passes (R259). -/

/-- The selection of a request. -/
def State.topJob (s : State) (src reqId : Nat) : Option TopJob :=
  s.sel.tops.find? fun j => j.r.src == src && j.r.reqId == reqId

/-- A selection removed. -/
def State.dropTop (s : State) (src reqId : Nat) : State :=
  { s with sel := { s.sel with tops := s.sel.tops.filter fun j => !(j.r.src == src && j.r.reqId == reqId) } }

/-- The local TYPE of a pass, and the role of SELECT panels (R259). -/
def T_SEL_TOPK : Nat := 0xCC

/-- The pass of a selection sent to a SELECT panel: entry count, k, AFTER, the entries. -/
def State.sendPass (s : State) (j : TopJob) : State :=
  let a := (j.after.getD sentinelEntry).bytes
  s.sendWork 6 T_SEL_TOPK j.r (leBytes 4 j.input.length ++ leBytes 4 (min 256 (j.k - j.kept.length)) ++ zeros 8 ++ a ++
    j.input.flatMap Entry.bytes)

/-- A selection of the K best starts. -/
def State.startSelect (s : State) (unit : Nat) (r : Req) (m : MergeTo) (shard k flags : Nat) (es : List Entry)
    (ls : Option LsQuery) (old : Bool) : State :=
  let j : TopJob := { unit := unit, r := r, merge := m, shard := shard, k := k, flags := flags, input := es, ls := ls, old := old }
  { s with sel := { s.sel with tops := s.sel.tops ++ [j] } }.sendPass j

/-- Whether work of a request still waits for room in a ring. -/
def State.unsent (s : State) (ty src reqId : Nat) : Bool := s.work.any fun w => w.ty == ty && w.src == src && w.reqId == reqId

/-- Whether the request of a list-scan query is sampled (R219). -/
def State.sampled (s : State) (q : LsQuery) : Bool :=
  s.get F.LS_SHADOW_CFG_DIV != 0 && !q.noShadow && q.r.reqId % s.get F.LS_SHADOW_CFG_DIV == 0

/-- LS_STATUS follows the scanner: queries in progress, selections included, and shadow copies. -/
def State.countLs (s : State) : State :=
  (s.set F.LS_STATUS_OPEN (min 65535 (s.ls.queries.length + (s.sel.tops.filter fun j => j.ls.isSome).length))).set
    F.LS_STATUS_SHADOW_Q s.ls.shadows.length

/-- After its answer has left, a sampled query's shadow copy joins the queue of 64, or is dropped and counted (R219).
Assumption log: 67 (DESIGN CHOICE). -/
def State.sample (s : State) (ls : Option LsQuery) (es : List Entry) : State :=
  match ls with
  | none => s
  | some q =>
    if s.sampled q then
      if s.ls.shadows.length < 64 then
        State.countLs { s with ls := { s.ls with shadows := s.ls.shadows ++ [⟨q, es.map Entry.vid⟩] } }
      else (s.bump F.LS_SHADOW_DROP_DROPPED 1).countLs
    else s.countLs

/-- A pass returns: its entries are kept without duplicates, and the next pass goes out or the selection ends (R259 to R261). -/
def State.topkDone (s : State) (src reqId : Nat) : State :=
  match s.topJob src reqId with
  | none => s
  | some j =>
    if s.unsent T_SEL_TOPK src reqId then s
    else match s.workFail T_SEL_TOPK src reqId with
      | some code => ((s.dropTop src reqId).dropWork src reqId).failSearch j.unit j.r j.merge j.shard j.k j.flags code
      | none =>
        if s.cancelled src reqId then
          (s.dropTop src reqId).failSearch j.unit j.r j.merge j.shard j.k j.flags E_CANCELLED
        else
          let want := min 256 (j.k - j.kept.length)
          let p := topPass j.input want j.after
          let d := dedupInto j.kept p.out
          let s := s.countDups d.removed d.conflict
          if j.k ≤ d.kept.length ∨ p.out.length < want then
            let tied := p.tied.filter fun e => !(d.kept.any fun k => k.vid == e.vid)
            let tie := if d.kept.length < j.k then 0 else (dedupInto [] tied).kept.length
            ((s.dropTop src reqId).finishSearch j.unit j.r j.merge
              ⟨j.shard, j.k, orFlags j.flags (dupFlag d.kept), E_NONE, tie, d.kept⟩).sample j.ls d.kept
          else
            let j := { j with kept := d.kept, after := p.out.getLast? }
            let s := s.dropTop src reqId
            { s with sel := { s.sel with tops := s.sel.tops ++ [j] } }.sendPass j

/-- SEL_TOPK_DONE (R259).
Assumption log: 58 (DESIGN CHOICE). -/
def execSelTopkDone (src reqId : Nat) (s : State) : Res := s.live <| .next (s.topkDone src reqId)

/-! Merge buffers (R265 to R269). -/

/-- A merge buffer. -/
def State.mbuf (s : State) (b : Nat) : MergeBuf := smGet (fun _ => {}) s.sel.bufs b

/-- A merge buffer, replaced; SEL_STATUS.OPEN follows. -/
def State.setMbuf (s : State) (b : Nat) (v : MergeBuf) : State :=
  let s := { s with sel := { s.sel with bufs := smPut (fun _ => {}) s.sel.bufs b v } }
  s.set F.SEL_STATUS_OPEN (s.sel.bufs.filter fun e => e.2.st == 1).length

/-- The entries that a buffer holds: 2^ENTRIES_LOG2.
Assumption log: 73 (DESIGN CHOICE). -/
def State.bufEntries (s : State) : Nat := 2 ^ s.get F.SEL_BUF_CFG_ENTRIES_LOG2

/-- Node offset of a buffer (R265).
Assumption log: 73 (DESIGN CHOICE). -/
def State.bufAddr (s : State) (b : Nat) : Nat := s.get F.SEL_BUF_BASE_ADDR + b * s.bufEntries * 16

/-- A contribution's header and entries (R264). -/
structure Contrib where
  reqId : Nat
  deadline : Nat
  requester : Nat
  shard : Nat
  k : Nat
  npart : Nat
  buf : Nat
  status : Nat
  tieKey : Nat
  tieOut : Nat
  n : Nat
  cls : Nat
  payTable : Nat
  payUnits : Nat
  gten : Nat
  epoch : Nat
  entries : List Entry

/-- A contribution from its bytes; sentinels are dropped on arrival (R255). -/
def contribOf (b : List Byte) : Contrib :=
  { reqId := at_ b 0 8, deadline := at_ b 8 6, requester := at_ b 14 2, shard := at_ b 16 2, k := at_ b 18 2,
    npart := at_ b 20 2, buf := at_ b 22 2, status := at_ b 24 4, tieKey := at_ b 28 4, tieOut := at_ b 32 4, n := at_ b 36 2,
    cls := at_ b 38 1 % 8, payTable := at_ b 39 1, payUnits := at_ b 40 1 % 64, gten := at_ b 42 2, epoch := at_ b 44 4,
    entries := (entriesOf (at_ b 36 2) (b.drop 64)).filter fun e => !e.sentinel }

/-- A contribution that Skorath passes on: its length fits, and no entry has a STAGE above 2 (R252, R396).
Assumption log: 74 (DEDUCED). -/
def contribOk (b : List Byte) : Bool :=
  decide (64 ≤ b.length) && decide (b.length = 64 + 16 * at_ b 36 2) &&
    (entriesOf (at_ b 36 2) (b.drop 64)).all fun e => decide (e.stage ≤ 2)

/-- The places of a buffer in ascending shard order. -/
def MergeBuf.held (m : MergeBuf) : List (Nat × Place) :=
  m.places.filterMap fun e => e.2.map fun p => (e.1, p)

/-- The successful places. -/
def MergeBuf.good (m : MergeBuf) : List (Nat × Place) := m.held.filter fun e => e.2.code == E_NONE

/-- Which of two entries of one VID is kept (R267): the higher stage, the smaller key, the lower shard.
Assumption log: 72 (DESIGN CHOICE). -/
def Entry.beats (a b : Entry) : Bool :=
  decide (b.stage < a.stage) || (a.stage == b.stage && (decide (a.key < b.key) || (a.key == b.key && decide (a.shard < b.shard))))

/-- An order that puts the entry kept of each VID first (R267).
Assumption log: 72 (DESIGN CHOICE). -/
def insertBeats (e : Entry) : List Entry → List Entry
  | [] => [e]
  | d :: r => if e.beats d then e :: d :: r else d :: insertBeats e r

/-- One entry per VID over all entries (R267): kept entries, removals, conflicts. -/
def mergeDups (es : List Entry) : Dedup :=
  (es.foldl (fun a e => insertBeats e a) []).foldl Dedup.add ⟨[], 0, 0⟩

/-- The request that a buffer serves, as its RESULT is addressed.
Assumption log: 77 (DEDUCED). -/
def State.bufReq (s : State) (m : MergeBuf) : Req :=
  { ty := 0, cls := m.cls, tenant := s.tenantOf m.gten, gten := m.gten, epoch := s.mapEpoch, reqId := m.reqId,
    deadline := m.deadline, src := m.requester, rehearsal := m.rehearsal, payload := [] }

/-- The flags that a merged result takes from its contributions (R269 step 4). -/
def carriedFlags : Nat := SF_FILTER_WIDENED + SF_DEADLINE_PARTIAL + SF_EPOCH_OLD_SERVED + SF_REHEARSAL + SF_DUP_CONFLICT

/-- A RESULT of a buffer with a code and no entries. -/
def State.failBuf (s : State) (m : MergeBuf) (code missing failed : Nat) : State :=
  let r := s.bufReq m
  let fl := if m.rehearsal then SF_REHEARSAL else 0
  (s.sendResult U_SELECT r (resultHead (statusWord fl code) 0 0 0 0 missing failed 0 0)).accountAnswer r.tenant fl code true

/-- A buffer finalises (R268, R269): it closes, and its RESULT is formed from the places held. -/
def State.finalise (s : State) (b : Nat) : State :=
  let m := s.mbuf b
  let s := s.setMbuf b { m with st := 2 }
  let held := m.held
  let good := m.good
  let failed := held.length - good.length
  let missing := if good.length < m.npart then m.npart - held.length else 0
  match good with
  | [] =>
    match held with
    | [] => s.failBuf m E_DEADLINE missing 0
    | e :: _ => s.failBuf m e.2.code missing failed
  | _ =>
    let d := mergeDups (good.flatMap fun e => e.2.entries)
    let es := sortEntries d.kept
    let out := es.take m.k
    let n := out.length
    let last := (out.getLast?.map Entry.key).getD 0xFFFFFFFF
    let tie := if n < m.k ∨ n = 0 then 0
      else ((es.drop m.k).filter fun e => e.key == last).length +
        ((good.filter fun e => e.2.tieKey == last).map fun e => e.2.tieOut).sum
    let fl := good.foldl (fun a e => orFlags a (Nat.land e.2.flags carriedFlags)) 0
    let fl := if d.conflict = 0 then fl else addFlag fl SF_DUP_CONFLICT
    let fl := if n < m.k then addFlag fl SF_SHORT else fl
    let fl := if tie = 0 then fl else addFlag fl SF_TIE_AT_K
    let fl := if good.length < m.npart then addFlag fl SF_DEADLINE_PARTIAL else fl
    (s.countDups d.removed d.conflict).startJob
      { unit := U_SELECT, r := s.bufReq m, direct := false, area := s.bufAddr b, flags := fl, k := m.k, n := n,
        tieOut := min tie (2 ^ 32 - 1), partsIn := good.length, partsMissing := missing,
        partsFailed := if good.length < m.npart then failed else 0, dups := min d.conflict 65535, table := m.payTable,
        units := m.payUnits, entries := out }

/-- A contribution takes or replaces a place (R266): its entries join the buffer, in memory in the order of their arrival.
Assumption log: 73 (DESIGN CHOICE). -/
def State.takePlace (s : State) (b : Nat) (c : Contrib) : State :=
  let m := s.mbuf b
  let code := c.status / 65536
  let es := if code = E_NONE then c.entries else []
  let p : Place := ⟨code, c.status % 65536, c.tieKey, c.tieOut, es⟩
  let s := (s.store (s.bufAddr b + 16 * m.used) (es.flatMap Entry.bytes)).2
  let s := s.setMbuf b { m with places := smPut (fun _ => none) m.places c.shard (some p), used := m.used + es.length,
                                progress := s.now, rehearsal := m.rehearsal || hasFlag c.status SF_REHEARSAL }
  (s.bump F.SEL_CNT_MERGE_CONTRIB 1).charge (s.tenantOf m.gten) 14 es.length

/-- Whether a buffer has NPART successful places (R268).
Assumption log: 77 (DEDUCED). -/
def State.bufFull (s : State) (b : Nat) : Bool := decide ((s.mbuf b).npart ≤ (s.mbuf b).good.length)

/-- A contribution of the request that its buffer is open for (R266), then the first of the moments of R268. -/
def State.mergeOpen (s : State) (b : Nat) (c : Contrib) : State :=
  let m := s.mbuf b
  let take := match smGet (fun _ => none) m.places c.shard with
    | none => true
    | some p => p.code != E_NONE && c.status / 65536 == E_NONE
  let s := if take then s.takePlace b c else s.bump F.SEL_CNT_EXC_DUP_PART 1
  if s.bufFull b then s.finalise b else s

/-- A buffer opens for a request with its first contribution (R265, R268). -/
def State.mergeFirst (s : State) (b : Nat) (c : Contrib) : State :=
  let m : MergeBuf :=
    { st := 1, requester := c.requester, reqId := c.reqId, deadline := c.deadline, k := c.k, npart := c.npart, cls := c.cls,
      gten := c.gten, payTable := c.payTable, payUnits := c.payUnits, rehearsal := hasFlag c.status SF_REHEARSAL,
      progress := s.now, conflicts := (s.mbuf b).conflicts }
  if s.bufEntries < c.k * c.npart then (s.setMbuf b { m with st := 2 }).failBuf m E_CAPACITY 0 1
  else
    let s := (s.setMbuf b m).mergeOpen b c
    if (s.mbuf b).st = 1 ∧ s.finalBeat c.deadline then s.finalise b else s

/-- A conflict (R265): once per buffer and request for another request's.
Assumption log: 77 (DEDUCED). -/
def State.mergeConflict (s : State) (b : Nat) (c : Contrib) (once : Bool) : State :=
  let s := s.bump F.SEL_CNT_EXC_REFUSED 1
  let m := s.mbuf b
  if once then
    (if m.conflicts.contains (c.requester, c.reqId) then s
     else (s.setMbuf b { m with conflicts := m.conflicts ++ [(c.requester, c.reqId)] }).raiseReq EV_SEL_MERGE_CONFLICT 0 []
            (s.tenantOf c.gten) c.reqId)
  else s.raiseReq EV_SEL_MERGE_CONFLICT 0 [] (s.tenantOf c.gten) c.reqId

/-- A whole contribution decided against its buffer (R265).
Assumption log: 73 (DESIGN CHOICE). -/
def State.mergeIn (s : State) (bytes : List Byte) : State :=
  let c := contribOf bytes
  let b := c.buf
  let m := s.mbuf b
  let same := m.requester == c.requester && m.reqId == c.reqId
  if s.get F.SEL_BUF_CFG_COUNT ≤ b then (s.bump F.SEL_CNT_EXC_REFUSED 1).raiseReq EV_SEL_NO_BUFFER 0 [] (s.tenantOf c.gten) c.reqId
  else if m.st = 0 ∨ (m.st = 2 ∧ !same) then s.mergeFirst b c
  else if m.st = 1 ∧ same then
    (if m.k = c.k ∧ m.npart = c.npart then s.mergeOpen b c else s.mergeConflict b c false)
  else if m.st = 1 then s.mergeConflict b c true
  else s.bump F.SEL_CNT_EXC_LATE_PART 1

/-- MERGE_DEADLINE: the boundary of beat DEADLINE − FINAL_MARGIN finalises an OPEN buffer (R268). -/
def execMergeDeadline (buf : Nat) (s : State) : Res := s.live <|
  onUnit (buf < 4096) (if (s.mbuf buf).st = 1 ∧ s.finalBeat (s.mbuf buf).deadline then s.finalise buf else s)

/-- MERGE_IDLE_TIMEOUT: IDLE_LIMIT beats without a place taken finalise an OPEN buffer (R268). -/
def execMergeIdleTimeout (buf : Nat) (s : State) : Res := s.live <|
  onUnit (buf < 4096) <|
    if (s.mbuf buf).st = 1 then
      let s := s.reach ((s.mbuf buf).progress + beatsNs (s.get F.SEL_CFG_IDLE_LIMIT))
      ((s.bump F.SEL_CNT_EXC_TIMEOUT 1).raiseReq EV_SEL_MERGE_TIMEOUT 0 [] (s.tenantOf (s.mbuf buf).gten)
        (s.mbuf buf).reqId).finalise buf
    else s

/-- SEL_BUF_INFO of the selected buffer (R274). -/
def State.bufInfo (s : State) : Nat :=
  let b := s.get F.SEL_BUF_SEL_BUF
  let m := s.mbuf b
  if s.get F.SEL_BUF_CFG_COUNT ≤ b then 0 else m.st + m.held.length * 2 ^ 16 + m.reqId % 2 ^ 32 * 2 ^ 32

/-- A reset that covers the merge units (R274): every buffer FREE, no RESULT. -/
def State.mergeReset (s : State) : State :=
  ({ s with sel := {} }.set F.SEL_STATUS_OPEN 0)

end Sys2Proof.Machine
end

