-- ==== Sys2Proof/Machine/SearchMath.lean ====
section
/-! DEFINITION. The arithmetic of list-scan search (R201 to R207, R217): descriptors, coarse keys, query tables, the scan of list pages
and exact distances. The list scanner and the search operators of a tile share it. -/

namespace Sys2Proof.Machine

/-! Descriptors (R200, R201). -/

/-- A descriptor from its 256 bytes. -/
def lsDescOf (b : List Byte) : LsDesc :=
  { index := at_ b 0 1, metric := at_ b 1 1, residual := at_ b 2 1 == 1, m := at_ b 3 1, width8 := at_ b 4 1 % 2 == 1,
    attr := at_ b 4 1 / 2 % 2 == 1, qshift := signed 8 (at_ b 5 1), shard := at_ b 6 2, nlist := at_ b 8 4, dim := at_ b 12 2,
    centFmt := at_ b 14 1, cbFmt := at_ b 15 1, centOff := at_ b 16 6, centScaleOff := at_ b 24 6, normOff := at_ b 32 6,
    cbOff := at_ b 40 6, dirOff := at_ b 48 6, spareOff := at_ b 56 6, vecOff := at_ b 64 6, vecFmt := at_ b 70 1,
    vecScale := at_ b 72 4, vidBase := at_ b 80 6, vidSpan := at_ b 88 4 }

/-- Bytes of a code (R200). -/
def LsDesc.codeBytes (d : LsDesc) : Nat := if d.width8 then d.m else d.m / 2

/-- ATTR_OFF (R201). -/
def LsDesc.attrOff (d : LsDesc) : Nat := 8 * ((d.codeBytes + 7) / 8)

/-- Bytes that a slot needs. -/
def LsDesc.need (d : LsDesc) : Nat := if d.attr then d.attrOff + 8 else d.codeBytes

/-- Slot size, 32 or 64 (R201). -/
def LsDesc.slot64 (d : LsDesc) : Bool := decide (32 < d.need)

/-- Bytes of a slot. -/
def LsDesc.slotBytes (d : LsDesc) : Nat := if d.slot64 then 64 else 32

/-- Slots of a page: C (R203). -/
def LsDesc.perPage (d : LsDesc) : Nat := if d.slot64 then 896 else 1600

/-- Page offset of the first slot (R203). -/
def LsDesc.slotBase (d : LsDesc) : Nat := if d.slot64 then 128 else 256

/-- Page offset of the VID array (R203). -/
def LsDesc.vidOff (d : LsDesc) : Nat := if d.slot64 then 57472 else 51456

/-- Codewords of a subspace: 2^w. -/
def LsDesc.words (d : LsDesc) : Nat := if d.width8 then 256 else 16

/-- Elements of a subspace. -/
def LsDesc.subDim (d : LsDesc) : Nat := d.dim / d.m

/-- Bytes of a full vector: vb (R204). -/
def LsDesc.vecBytes (d : LsDesc) : Nat := if d.vecFmt = 0x02 then d.dim else 2 * d.dim

/-- Node offset of a tiered page. -/
def pageAddr (p : Nat) : Nat := tierBase + p * 65536

/-! Loads in sequence. -/

/-- A load, then what follows it unless it failed. -/
def Acc.bind (x : Acc) (f : List Byte → State → Acc) : Acc := if x.code = E_NONE then f x.data x.st else x

/-! Queries (R205). -/

/-- A query widened to FP32: INT8 elements are scaled. -/
def widenQuery (fmt scale n : Nat) (b : List Byte) : List FV :=
  (List.range n).map fun i => if fmt = 0x02 then fMul (elemFV fmt b i) (f32 scale) else elemFV fmt b i

/-- FP32 values as bytes. -/
def f32Bytes (xs : List FV) : List Byte := xs.flatMap fun x => leBytes 4 x.code

/-- The operand that COARSE makes of a query for centroids of a format: quantised with BF16 scales, or rounded to BF16. -/
def coarseQuery (fmt : Nat) (q : List FV) : Operand :=
  if fmt = 0x0B then ⟨0x0B, packCodes 16 (q.map fun x => (convert 0x0B false x).code), 0, []⟩
  else
    let gs := (chunks 32 q.length q).map (quantGroup fmt 0 (Fp.fv .one))
    ⟨fmt, packCodes 8 ((gs.flatMap Prod.snd).map Conv.code), 1, gs.flatMap fun g => leBytes 2 g.1⟩

/-- dot_j by R99 with G = 32 and one block, row j of a centroid operand. -/
def coarseDot (q c : Operand) (j dim : Nat) : FV := combine (partials q c 0 j dim 32 dim)

/-- The key of a distance or score (R106, R253). -/
def distKey (x : FV) : Nat := keyOfBits (canonScore x).code

/-- The coarse key of a list (R205). -/
def coarseKey (metric : Nat) (dot norm : FV) : Nat :=
  if metric = 0 then distKey (fFma (f32 0xC0000000) dot norm) else distKey (fNeg dot)

/-- A ranked list number inserted by key, then by number. -/
def insertRank (x : Nat × Nat) : List (Nat × Nat) → List (Nat × Nat)
  | [] => [x]
  | y :: r => if x.2 < y.2 ∨ (x.2 = y.2 ∧ x.1 < y.1) then x :: y :: r else y :: insertRank x r

/-- The first `n` of ranked lists.
Assumption log: 61 (DEDUCED). -/
def rankLists (xs : List (Nat × Nat)) (n : Nat) : List (Nat × Nat) := (xs.foldl (fun a x => insertRank x a) []).take n

/-- Centroid j with its scales. -/
def State.centroid (s : State) (d : LsDesc) (j : Nat) (f : Operand → State → Acc) : Acc :=
  let rb := elemBytes d.centFmt d.dim
  (s.load (d.centOff + j * rb) rb).bind fun c s =>
    if d.centFmt = 0x0B then f ⟨d.centFmt, c, 0, []⟩ s
    else (s.load (d.centScaleOff + j * (d.dim / 32) * 2) (d.dim / 32 * 2)).bind fun sc s => f ⟨d.centFmt, c, 1, sc⟩ s

/-- The dot product of a query with centroid j. -/
def State.dotOf (s : State) (d : LsDesc) (q : Operand) (j : Nat) (f : FV → State → Acc) : Acc :=
  s.centroid d j fun c s => f (coarseDot q c 0 d.dim) s

/-- The coarse key of every list from j on: 8 bytes each, list number and key. -/
def State.coarseAll (s : State) (d : LsDesc) (q : Operand) : Nat → Nat → Acc
  | 0, _ => ⟨E_NONE, [], s⟩
  | n + 1, j =>
    s.dotOf d q j fun dot s =>
      (if d.metric = 0 then s.load (d.normOff + 4 * j) 4 else ⟨E_NONE, zeros 4, s⟩).bind fun nb s =>
        let key := coarseKey d.metric dot (f32 (leNat nb))
        let y := s.coarseAll d q n (j + 1)
        if y.code = E_NONE then { y with data := leBytes 4 j ++ leBytes 4 key ++ y.data } else y

/-- Pairs of numbers of 4 bytes each. -/
def pairsOf : Nat → List Byte → List (Nat × Nat)
  | 0, _ => []
  | n + 1, b => (leNat (b.take 4), leNat ((b.drop 4).take 4)) :: pairsOf n (b.drop 8)

/-! Query tables (R206, R207). -/

/-- A value × 2^shift rounded to an integer, ties to even, and clamped to a range; NaN gives 32,767 (R207). -/
def fixedOf (shift lo hi : Int) (x : FV) : Int :=
  match x.v with
  | .nan => 32767
  | .inf s => if s then lo else hi
  | .num s m e =>
    let v : Int := rneInt m (e + shift) false
    max lo (min hi (if s then -v else v))

/-- A table value x[i][b] over its subspace (R206). -/
def tableValue (metric : Nat) (y cw : List FV) : FV :=
  let z := Fp.fv .zero
  if metric = 0 then (List.zip y cw).foldl (fun acc p => let t := fSub p.1 p.2; fFma t t acc) z
  else fNeg ((List.zip y cw).foldl (fun acc p => fFma p.1 p.2 acc) z)

/-- The table of a query, M rows of 2^w entries of two bytes, from the elements of the codebooks. -/
def tableBytes (metric m words sub : Nat) (qshift : Int) (y : List FV) (cb : Nat → FV) : List Byte :=
  (List.range m).flatMap fun i => (List.range words).flatMap fun b =>
    let cw := (List.range sub).map fun e => cb ((i * words + b) * sub + e)
    leBytes 2 (unsigned 16 (fixedOf qshift (-32768) 32767 (tableValue metric ((y.drop (i * sub)).take sub) cw)))

/-- A centroid dequantised (R117). -/
def dequantCentroid (dim : Nat) (c : Operand) : List FV :=
  (List.range dim).map fun i => if c.kind = 0 then c.elem i else dequant (c.elem i) (c.scale (i / 32))

/-- What a query takes its differences from: y of R206. -/
def residualOf (q c : List FV) : List FV := List.zipWith fSub q c

/-- The table and bias of a query for a list: 4 bytes of bias, then the table (R206, R207). -/
def State.listTable (s : State) (d : LsDesc) (q : List FV) (j : Nat) : Acc :=
  let n := d.m * d.words * d.subDim
  (s.load d.cbOff (elemBytes d.cbFmt n)).bind fun cb s =>
    s.centroid d j fun c s =>
      let y := if d.residual ∧ d.metric = 0 then residualOf q (dequantCentroid d.dim c) else q
      let bias := if d.residual ∧ d.metric = 1 then
          fixedOf d.qshift (-(2 ^ 31)) (2 ^ 31 - 1) (fNeg (coarseDot (coarseQuery d.centFmt q) c 0 d.dim))
        else 0
      ⟨E_NONE, leBytes 4 (unsigned 32 bias) ++ tableBytes d.metric d.m d.words d.subDim d.qshift y (elemFV d.cbFmt cb), s⟩

/-! Scanning list pages (R203, R209, R214, R216). -/

/-- What a query brings to a scan. -/
structure ScanQ where
  table : List Byte
  bias : Int
  bound : Nat
  cand : Nat
  fen : Bool
  fany : Bool
  filter : List Byte

/-- What a scan gives a query: its smallest entries, how many met the bound, the slots that passed. -/
structure ScanOut where
  list : List Entry := []
  met : Nat := 0
  passed : Nat := 0

/-- One slot for one query. -/
def ScanQ.slot (q : ScanQ) (d : LsDesc) (tomb : Bool) (code : List Byte) (attr vid : Nat) (o : ScanOut) : ScanOut :=
  if tomb || (q.fen && !filterPass q.filter q.fany attr) then o
  else
    let key := fixedKey (q.bias + pqSum d.width8 d.words q.table code d.m)
    let o := { o with passed := o.passed + 1 }
    if key ≤ q.bound then
      { o with list := (insertEntry { vid := vid, key := key, shard := d.shard } o.list).take q.cand, met := o.met + 1 }
    else o

/-- The slots of one page, whose parts have been read. -/
def scanSlots (d : LsDesc) (qs : List ScanQ) (first : Nat) (map slots vids : List Byte) : Nat → List ScanOut → List ScanOut
  | 0, os => os
  | n + 1, os =>
    let os := scanSlots d qs first map slots vids n os
    let i := first + n
    let tomb := at_ map (i / 8) 1 / 2 ^ (i % 8) % 2 == 1
    let sl := (slots.drop (n * d.slotBytes)).take d.slotBytes
    List.zipWith (fun q o => q.slot d tomb sl (at_ sl d.attrOff 8) (at_ vids (8 * n) 6) o) qs os

/-- A scan's outcome with the state after its reads. -/
structure ScanRes where
  code : Nat
  outs : List ScanOut
  st : State

/-- Slots `first` to `first + n − 1` of a tiered list page. -/
def State.scanPage (s : State) (d : LsDesc) (qs : List ScanQ) (page first n : Nat) (os : List ScanOut) : ScanRes :=
  let a := pageAddr page
  let x := s.load a (d.perPage / 8)
  if x.code ≠ E_NONE then ⟨x.code, os, x.st⟩
  else
    let y := x.st.load (a + d.slotBase + first * d.slotBytes) (n * d.slotBytes)
    if y.code ≠ E_NONE then ⟨y.code, os, y.st⟩
    else
      let z := y.st.load (a + d.vidOff + 8 * first) (8 * n)
      if z.code ≠ E_NONE then ⟨z.code, os, z.st⟩
      else ⟨E_NONE, scanSlots d qs first x.data y.data z.data n os, z.st⟩

/-- The pages of a list from a slot on. -/
def State.scanPages (s : State) (d : LsDesc) (qs : List ScanQ) (len : Nat) : Nat → List Nat → List ScanOut → ScanRes
  | _, [], os => ⟨E_NONE, os, s⟩
  | i, p :: r, os =>
    let n := min d.perPage (len - i * d.perPage)
    if n = 0 then ⟨E_NONE, os, s⟩
    else
      let x := s.scanPage d qs p 0 n os
      if x.code ≠ E_NONE then x else x.st.scanPages d qs len (i + 1) r x.outs

/-- A list's snapshot: LEN as it is scanned, its page numbers; whether LEN was above NPAGES × C (R202, R214). -/
structure Snapshot where
  code : Nat
  len : Nat
  npages : Nat
  pages : List Nat
  bad : Bool
  st : State

/-- Page numbers from a pointer array. -/
def ptrsOf : Nat → List Byte → List Nat
  | 0, _ => []
  | n + 1, b => leNat (b.take 4) :: ptrsOf n (b.drop 4)

/-- The snapshot of a list (R208, R214). -/
def State.snapshot (s : State) (d : LsDesc) (j : Nat) : Snapshot :=
  let x := s.load (d.dirOff + 32 * j) 32
  let len := at_ x.data 0 4
  let np := at_ x.data 4 2
  let y := x.st.load (at_ x.data 8 6) (4 * np)
  if x.code ≠ E_NONE then ⟨x.code, 0, 0, [], false, x.st⟩
  else if y.code ≠ E_NONE then ⟨y.code, 0, 0, [], false, y.st⟩
  else ⟨E_NONE, min len (np * d.perPage), np, ptrsOf np y.data, decide (np * d.perPage < len), y.st⟩

/-! Exact distances (R217). -/

/-- The exact distance of a query to a vector: elementwise, summed by registers, IP negated. -/
def exactDist (metric : Nat) (q x : List FV) : FV :=
  if metric = 0 then sumTree (List.zipWith (fun a b => let t := fSub a b; fMul t t) q x)
  else fNeg (sumTree (List.zipWith fMul q x))

/-- A full vector dequantised. -/
def vecValues (fmt scale n : Nat) (b : List Byte) : List FV := widenQuery fmt scale n b

/-- The stage-1 entries of candidates, in the candidates' order (R217). -/
def State.rerankAll (s : State) (d : LsDesc) (q : List FV) : List Entry → Acc
  | [] => ⟨E_NONE, [], s⟩
  | e :: r =>
    (s.load (d.vecOff + (e.vid - d.vidBase) * d.vecBytes) d.vecBytes).bind fun b s =>
      let k := distKey (exactDist d.metric q (vecValues d.vecFmt d.vecScale d.dim b))
      let y := s.rerankAll d q r
      if y.code = E_NONE then { y with data := ({ vid := e.vid, stage := 1, key := k, shard := d.shard } : Entry).bytes ++ y.data }
      else y

end Sys2Proof.Machine
end

