-- ==== Sys2Proof/Machine/Index.lean ====
section
/-! DEFINITION. Descriptor slots of the list scanner and of the walker (R199 to R201, R228, R229), and what the two search units share:
late points (R188, R189) and the flash reads that are still out. -/

namespace Sys2Proof.Machine

/-! Arrays. -/

/-- Whether an array lies wholly in one existing stack window or below the tiered EXTENT (R200). -/
def State.arrayOk (s : State) (a n : Nat) : Bool :=
  n == 0 || (decide (0x001000000000 ≤ a) && decide (a < 0x500000000000) && s.rangeCode a n == E_NONE)

/-- Whether a pair is enabled in a slot of the list scanner. -/
def State.lsSlot (s : State) (index shard : Nat) : Option (Nat × LsDesc) :=
  s.ls.copies.findSome? fun e => match e.2 with
    | some d => if d.index = index ∧ d.shard = shard ∧ s.bit (F.LS_IDX_CTL_EN e.1) then some (e.1, d) else none
    | none => none

/-- Whether a pair is enabled in a slot of the walker. -/
def State.gwSlot (s : State) (index shard : Nat) : Option (Nat × GwDesc) :=
  s.gw.copies.findSome? fun e => match e.2 with
    | some d => if d.index = index ∧ d.shard = shard ∧ s.bit (F.WLK_IDX_CTL_EN e.1) then some (e.1, d) else none
    | none => none

/-- Whether a pair is enabled in a slot of either unit (R228). -/
def State.pairTaken (s : State) (index shard : Nat) : Bool := (s.lsSlot index shard).isSome || (s.gwSlot index shard).isSome

/-! The list scanner's slots (R199 to R201, R225). -/

/-- The reason why a list-scan descriptor is rejected; 0 for none (R200, R201, R225, R255). -/
def State.lsReason (s : State) (b : List Byte) : Nat :=
  let d := lsDescOf b
  let rb := elemBytes d.centFmt d.dim
  let fields := decide (d.index ≤ 63) && decide (d.metric ≤ 1) && decide (at_ b 2 1 ≤ 1) &&
    [8, 16, 24, 32, 48, 64, 96, 128].contains d.m && decide (-24 ≤ d.qshift) && decide (d.qshift ≤ 24) &&
    decide (1 ≤ d.nlist) && decide (d.nlist ≤ 1048576) && decide (64 ≤ d.dim) && decide (d.dim ≤ 4096) &&
    decide (d.dim % 32 = 0) && decide (d.dim % d.m = 0) && [2, 5, 6, 0x0B].contains d.centFmt &&
    [0x0B, 0x0C].contains d.cbFmt && decide (d.dirOff % 32 = 0) && [0, 2, 0x0A, 0x0B].contains d.vecFmt &&
    decide (1 ≤ d.vidSpan) && decide (d.vidBase + d.vidSpan ≤ sentinelVid)
  let arrays := s.arrayOk d.centOff (d.nlist * rb) &&
    (d.centFmt == 0x0B || s.arrayOk d.centScaleOff (d.nlist * (d.dim / 32) * 2)) &&
    (d.metric == 1 || s.arrayOk d.normOff (4 * d.nlist)) &&
    s.arrayOk d.cbOff (elemBytes d.cbFmt (d.m * d.words * d.subDim)) && s.arrayOk d.dirOff (32 * d.nlist) &&
    s.arrayOk d.spareOff 8 && (d.vecFmt == 0 || s.arrayOk d.vecOff (d.vidSpan * d.vecBytes))
  if !fields then 1
  else if 64 < d.need then 2
  else if !arrays then 3
  else if s.pairTaken d.index d.shard then 4
  else 0

/-- EN set in a slot of the list scanner: the descriptor is checked and copied, or rejected with a reason (R199). -/
def State.lsEnable (s : State) (n : Nat) : State :=
  if s.get (F.LS_IDX_CTL_STATE n) = 1 then s
  else
    let x := s.load (s.get (F.LS_IDX_BASE_ADDR n)) 256
    let s := x.st
    let why := if x.code ≠ E_NONE then 3 else s.lsReason x.data
    if why = 0 then
      let s := ((s.setBit (F.LS_IDX_CTL_EN n) true).set (F.LS_IDX_CTL_STATE n) 1).set (F.LS_IDX_CTL_REASON n) 0
      { s with ls := { s.ls with copies := smPut (fun _ => none) s.ls.copies n (some (lsDescOf x.data)) } }
    else
      let s := ((s.setBit (F.LS_IDX_CTL_EN n) false).set (F.LS_IDX_CTL_STATE n) 2).set (F.LS_IDX_CTL_REASON n) why
      s.raise EV_LS_INDEX_REJECTED 0 []

/-- EN cleared in a slot of the list scanner: new requests for the shard are refused (R199). -/
def State.lsDisable (s : State) (n : Nat) : State :=
  let s := ((s.setBit (F.LS_IDX_CTL_EN n) false).set (F.LS_IDX_CTL_STATE n) 0).set (F.LS_IDX_CTL_REASON n) 0
  { s with ls := { s.ls with copies := smPut (fun _ => none) s.ls.copies n none } }

/-- LS_INDEX_ENABLE (R199). -/
def execLsIndexEnable (slot : Nat) (s : State) : Res := s.live <| onUnit (slot < 64) (s.lsEnable slot)
/-- LS_INDEX_DISABLE (R199). -/
def execLsIndexDisable (slot : Nat) (s : State) : Res := s.live <| onUnit (slot < 64) (s.lsDisable slot)

/-! The walker's slots (R228, R229, R251). -/

/-- A graph descriptor from its 256 bytes. -/
def gwDescOf (b : List Byte) : GwDesc :=
  { index := at_ b 0 1, metric := at_ b 1 1, vecFmt := at_ b 2 1, degree := at_ b 3 1, attr := at_ b 4 1 % 2 == 1,
    shard := at_ b 6 2, nslots := at_ b 8 4, dim := at_ b 12 2, efInsert := at_ b 14 2, alpha := at_ b 16 4,
    vecScale := at_ b 20 4, recOff := at_ b 24 6, genOff := at_ b 32 6, entryOff := at_ b 40 6, vidBase := at_ b 48 6,
    vidSpan := at_ b 56 4, stateOff := at_ b 64 6 }

/-- Bytes of a record's vector: vb (R230). -/
def GwDesc.vecBytes (d : GwDesc) : Nat := if d.vecFmt = 0x02 then d.dim else 2 * d.dim

/-- Bytes of a record: RB (R230). -/
def GwDesc.recBytes (d : GwDesc) : Nat := roundUp (32 + d.vecBytes + 8 * d.degree) 64

/-- Whether ALPHA lies from 1.0 to 4.0. -/
def alphaOk (code : Nat) : Bool := decide (0x3F800000 ≤ code) && decide (code ≤ 0x40800000)

/-- The reason why a graph descriptor is rejected; 0 for none (R229, R251, R255). -/
def State.gwReason (s : State) (b : List Byte) : Nat :=
  let d := gwDescOf b
  let fields := decide (d.index ≤ 63) && decide (d.metric ≤ 1) && [2, 0x0A, 0x0B].contains d.vecFmt &&
    decide (1 ≤ d.degree) && decide (d.degree ≤ 64) && decide (1 ≤ d.nslots) && decide (64 ≤ d.dim) &&
    decide (d.dim ≤ 4096) && decide (d.dim % 32 = 0) && decide (1 ≤ d.efInsert) && decide (d.efInsert ≤ 512) &&
    alphaOk d.alpha && decide (1 ≤ d.vidSpan) && decide (d.vidBase + d.vidSpan ≤ sentinelVid)
  let arrays := s.arrayOk d.recOff (d.nslots * d.recBytes) && s.arrayOk d.genOff d.nslots && s.arrayOk d.entryOff 128 &&
    s.arrayOk d.stateOff 64
  if !fields then 1
  else if !arrays then 2
  else if s.pairTaken d.index d.shard then 3
  else if d.vidSpan < d.nslots then 4
  else 0

/-- EN set in a slot of the walker (R228). -/
def State.gwEnable (s : State) (n : Nat) : State :=
  if s.get (F.WLK_IDX_CTL_STATE n) = 1 then s
  else
    let x := s.load (s.get (F.WLK_IDX_BASE_ADDR n)) 256
    let s := x.st
    let why := if x.code ≠ E_NONE then 2 else s.gwReason x.data
    if why = 0 then
      let s := ((s.setBit (F.WLK_IDX_CTL_EN n) true).set (F.WLK_IDX_CTL_STATE n) 1).set (F.WLK_IDX_CTL_REASON n) 0
      { s with gw := { s.gw with copies := smPut (fun _ => none) s.gw.copies n (some (gwDescOf x.data)) } }
    else
      let s := ((s.setBit (F.WLK_IDX_CTL_EN n) false).set (F.WLK_IDX_CTL_STATE n) 2).set (F.WLK_IDX_CTL_REASON n) why
      s.raise EV_GW_INDEX_REJECTED n [why]

/-- EN cleared in a slot of the walker (R228). -/
def State.gwDisable (s : State) (n : Nat) : State :=
  let s := ((s.setBit (F.WLK_IDX_CTL_EN n) false).set (F.WLK_IDX_CTL_STATE n) 0).set (F.WLK_IDX_CTL_REASON n) 0
  { s with gw := { s.gw with copies := smPut (fun _ => none) s.gw.copies n none } }

/-- GW_INDEX_ENABLE (R228). -/
def execGwIndexEnable (slot : Nat) (s : State) : Res := s.live <| onUnit (slot < 64) (s.gwEnable slot)
/-- GW_INDEX_DISABLE (R228). -/
def execGwIndexDisable (slot : Nat) (s : State) : Res := s.live <| onUnit (slot < 64) (s.gwDisable slot)

/-! Late points (R188, R189). -/

/-- Whether a range touches a page whose home is flash. -/
def State.onFlash (s : State) (a n : Nat) : Bool :=
  decide (tierBase ≤ a) && s.tier.pages.any fun e =>
    (e.2.st == 2 || e.2.st == 3 || (e.2.st == 6 && e.2.prev == 2)) && decide (pageAddr e.1 < a + n) &&
      decide (a < pageAddr e.1 + 65536)

/-- Whether a request has a late point at all (R189).
Assumption log: 63 (DEDUCED). -/
def hasLatePoint (late : Nat) (r : Req) : Bool := r.deadline != 0 && late != 3

/-- Whether a request's late point has come: the boundary of beat D − LATE_MARGIN (R189). -/
def State.pastLate (s : State) (late : Nat) (r : Req) : Bool :=
  hasLatePoint late r && s.beat.valid &&
    !beatAfter ((r.deadline + beatMod - s.get F.TIER_CFG2_LATE_MARGIN) % beatMod) s.beat.beat

/-- LATE counts a request; where a rehearsal script made its read late, the injection is counted too (R189, R495). -/
def State.countLate (s : State) (r : Req) : State :=
  let s := s.bump F.TIER_CNT_EXC_LATE 1
  match s.lateScript r with
  | some n => s.injected n
  | none => s

/-- Whether a rehearsal script keeps a request's flash reads from completing before its late point (R495). -/
def State.heldLate (s : State) (late : Nat) (r : Req) : Bool := hasLatePoint late r && (s.lateScript r).isSome

end Sys2Proof.Machine
end

