-- ==== Sys2Proof/Machine/ListScan.lean ====
section
/-! DEFINITION. List-scan search (R205 to R225): a query from its message to its candidates, the gather window, the dense and the thin
path, rerank, updates and shadow copies. -/

namespace Sys2Proof.Machine

def T_LS_COARSE : Nat := 0xC0
def T_LS_TABLE : Nat := 0xC1
def T_LS_DENSE : Nat := 0xC2
def T_LS_RERANK : Nat := 0xC4
def T_LS_MODEL : Nat := 0xC5

/-! Queries. -/

/-- A query in progress by its name. -/
def State.lsQuery (s : State) (src reqId : Nat) : Option LsQuery :=
  s.ls.queries.find? fun q => q.r.src == src && q.r.reqId == reqId

/-- A query, replaced where it stands. -/
def State.setLs (s : State) (q : LsQuery) : State :=
  { s with ls := { s.ls with queries := s.ls.queries.map fun p => if p.r.src = q.r.src ∧ p.r.reqId = q.r.reqId then q else p } }

/-- A query leaves the scanner, with the messages of its work.
Assumption log: 64 (DEDUCED). -/
def State.dropLs (s : State) (q : LsQuery) : State :=
  let qs := s.ls.queries.filter fun p => !(p.r.src == q.r.src && p.r.reqId == q.r.reqId)
  ({ s with ls := { s.ls with queries := qs } }.dropWork q.r.src q.r.reqId).countLs

/-- A query reaches the scanner's order at its end. -/
def State.joinLs (s : State) (q : LsQuery) : State :=
  let qs := s.ls.queries.filter fun p => !(p.r.src == q.r.src && p.r.reqId == q.r.reqId)
  { s with ls := { s.ls with queries := qs ++ [q] } }

/-- A query ends with a code and no entries. -/
def State.lsFail (s : State) (q : LsQuery) (code : Nat) : State :=
  (s.dropLs q).failSearch U_SEARCH q.r q.merge q.desc.shard q.k q.flags code

/-- A query's entries go to selection (R217, R259). -/
def State.lsSelect (s : State) (q : LsQuery) (es : List Entry) : State :=
  ((s.dropLs q).startSelect U_SEARCH q.r q.merge q.desc.shard q.k q.flags es (some q) q.old).countLs

/-- The candidates that a query keeps: CAND, or K where it is not reranked (R221).
Assumption log: 78 (DESIGN CHOICE). -/
def LsQuery.keep (q : LsQuery) : Nat := if q.rerank = 0 then q.k else q.cand

/-- The stage-0 candidates so far, distinct by VID (R210, R260). -/
def LsQuery.best (q : LsQuery) : Dedup := dedupInto [] (sortEntries q.entries)

/-- The query widened to FP32 (R205). -/
def LsQuery.values (q : LsQuery) : List FV := widenQuery q.qfmt q.qscale q.desc.dim q.query

/-- The lists of the running widening step (R216). -/
def LsQuery.group (q : LsQuery) : List Nat := (q.ranking.drop (q.step * q.nprobe)).take q.nprobe

/-- BOUND of a query (R210). -/
def LsQuery.bound (q : LsQuery) : Nat :=
  match q.best.kept[q.keep - 1]? with
  | some e => e.key
  | none => 0xFFFFFFFF

/-- The scanner's work header (R211). -/
def lsHeader (slot nq list len npages cand : Nat) : List Byte :=
  leBytes 1 slot ++ zeros 1 ++ leBytes 2 nq ++ leBytes 4 list ++ leBytes 4 len ++ leBytes 2 npages ++ zeros 2 ++
    leBytes 4 cand ++ zeros 12

/-! Late points (R189). -/

/-- Whether a query's running stage needs a flash read that is still out. -/
def State.lsOnFlash (s : State) (q : LsQuery) : Bool :=
  let d := q.desc
  match q.stage with
  | .coarse =>
    s.onFlash d.centOff (d.nlist * elemBytes d.centFmt d.dim) || s.onFlash d.centScaleOff (d.nlist * (d.dim / 32) * 2) ||
      (d.metric == 0 && s.onFlash d.normOff (4 * d.nlist))
  | .tables =>
    s.onFlash d.cbOff (elemBytes d.cbFmt (d.m * d.words * d.subDim)) ||
      q.group.any fun j => s.onFlash (d.centOff + j * elemBytes d.centFmt d.dim) (elemBytes d.centFmt d.dim)
  | .window => false
  | .scan =>
    (s.heldLate q.late q.r && decide (0 < q.pend)) ||
      s.ls.runs.any fun x => x.members.contains (q.r.src, q.r.reqId) &&
        x.runs.any fun p => s.onFlash (pageAddr p.page) 65536
  | .rerank => q.cands.any fun e => s.onFlash (d.vecOff + (e.vid - d.vidBase) * d.vecBytes) d.vecBytes
  | .model => false

/-- The candidates whose full vectors do not stand on flash. -/
def State.nearCands (s : State) (q : LsQuery) : List Entry :=
  q.cands.filter fun e => !s.onFlash (q.desc.vecOff + (e.vid - q.desc.vidBase) * q.desc.vecBytes) q.desc.vecBytes

/-- A query that meets a late read follows its LATE_PATH (R189).
Assumption log: 63 (DEDUCED). -/
def State.lsLate (s : State) (q : LsQuery) : State :=
  let s := s.countLate q.r
  let part := { q with flags := addFlag q.flags SF_DEADLINE_PARTIAL }
  if q.late = 0 then s.lsFail q E_DEADLINE
  else if q.stage = .rerank ∧ q.late = 2 then
    let x := (s.serveFor q.r).rerankAll q.desc q.values (s.nearCands q)
    let s := x.st.serveEnd
    if x.code ≠ E_NONE then s.lsFail q x.code
    else if x.data.isEmpty then s.lsSelect part q.cands
    else s.lsSelect part (entriesOf (x.data.length / 16) x.data)
  else if q.stage = .rerank then s.lsSelect part q.cands
  else s.lsSelect part q.best.kept

/-- A stage begins: a flash read issued after the late point is late at once (R189). -/
def State.lsBegun (s : State) (q : LsQuery) : State :=
  match s.lsQuery q.r.src q.r.reqId with
  | some q => if s.pastLate q.late q.r && s.lsOnFlash q then s.lsLate q else s
  | none => s

/-! Coarse assignment and tables (R205 to R207). -/

/-- LS_COARSE goes to a COARSE panel: request ID, widened query, ranking length (R211). -/
def State.lsSendCoarse (s : State) (q : LsQuery) : State :=
  (s.sendWork 2 T_LS_COARSE q.r (lsHeader q.slot 1 0 0 0 q.keep ++ leBytes 8 q.r.reqId ++ f32Bytes q.values ++
    leBytes 4 (min q.desc.nlist (q.nprobe * q.expand)))).lsBegun q

/-- LS_TABLE goes to a COARSE panel for one list: the query, and where its centroid and its scales stand. -/
def State.lsSendTable (s : State) (q : LsQuery) (j : Nat) : State :=
  let d := q.desc
  s.sendWork 2 T_LS_TABLE q.r (lsHeader q.slot 1 j 0 0 q.keep ++ f32Bytes q.values ++
    leBytes 8 (d.centOff + j * elemBytes d.centFmt d.dim) ++ leBytes 8 (d.centScaleOff + j * (d.dim / 32) * 2))

/-- The tables of the running step are asked for. -/
def State.lsStep (s : State) (q : LsQuery) : State :=
  let q := { q with stage := .tables, tabs := [] }
  (q.group.foldl (fun s j => s.lsSendTable q j) (s.setLs q)).lsBegun q

/-- LS_COARSE_DONE: the ranking returns (R205). -/
def State.lsCoarseDone (s : State) (src reqId : Nat) : State :=
  match s.lsQuery src reqId with
  | none => s
  | some q =>
    if q.stage ≠ .coarse ∨ s.unsent T_LS_COARSE src reqId then s
    else match s.workFail T_LS_COARSE src reqId with
      | some c => s.lsFail q c
      | none =>
        if s.lsOnFlash q && s.heldLate q.late q.r then s
        else
          let x := (s.serveFor q.r).coarseAll q.desc (coarseQuery q.desc.centFmt q.values) q.desc.nlist 0
          let s := x.st.serveEnd
          if x.code ≠ E_NONE then s.lsFail q x.code
          else
            let rk := rankLists (pairsOf q.desc.nlist x.data) (min q.desc.nlist (q.nprobe * q.expand))
            s.lsStep { q with ranking := rk.map Prod.fst }

/-- Tables of lists in turn. -/
def State.lsTables (s : State) (d : LsDesc) (q : List FV) : List Nat → Nat × List LsTab × State
  | [] => (E_NONE, [], s)
  | j :: r =>
    let x := s.listTable d q j
    if x.code ≠ E_NONE then (x.code, [], x.st)
    else
      let y := x.st.lsTables d q r
      (y.1, ⟨j, signed 32 (at_ x.data 0 4), x.data.drop 4⟩ :: y.2.1, y.2.2)

/-- LS_TABLE_DONE: the tables of a step return, and its lists join the open window (R207, R208). -/
def State.lsTableDone (s : State) (src reqId : Nat) : State :=
  match s.lsQuery src reqId with
  | none => s
  | some q =>
    if q.stage ≠ .tables ∨ s.unsent T_LS_TABLE src reqId then s
    else match s.workFail T_LS_TABLE src reqId with
      | some c => s.lsFail q c
      | none =>
        if s.lsOnFlash q && s.heldLate q.late q.r then s
        else
          let x := (s.serveFor q.r).lsTables q.desc q.values q.group
          let s := x.2.2.serveEnd
          if x.1 ≠ E_NONE then s.lsFail q x.1
          else s.joinLs { q with stage := .window, tabs := x.2.1 }

/-- LS_COARSE_DONE (R205).
Assumption log: 58 (DESIGN CHOICE). -/
def execLsCoarseDone (src reqId : Nat) (s : State) : Res := s.live <| .next (s.lsCoarseDone src reqId)
/-- LS_TABLE_DONE (R207).
Assumption log: 58 (DESIGN CHOICE). -/
def execLsTableDone (src reqId : Nat) (s : State) : Res := s.live <| .next (s.lsTableDone src reqId)

/-! Rerank (R217). -/

/-- Candidates go to a RERANK panel, or to selection where none is wanted (R217). -/
def State.lsCands (s : State) (q : LsQuery) : State :=
  let d := q.best
  let s := s.countDups d.removed d.conflict
  let cs := d.kept.take q.keep
  if q.rerank = 0 then s.lsSelect q cs
  else
    let q := { q with stage := .rerank, cands := cs }
    ((s.setLs q).sendWork 4 T_LS_RERANK q.r (lsHeader q.slot 1 0 0 0 q.cand ++ leBytes 4 cs.length ++
      cs.flatMap Entry.bytes ++ f32Bytes q.values)).lsBegun q

/-- Entries go to a MODEL panel (R217). -/
def State.sendModel (s : State) (slot cand : Nat) (r : Req) (es : List Entry) : State :=
  s.sendWork 7 T_LS_MODEL r (lsHeader slot 1 0 0 0 cand ++ leBytes 4 es.length ++ es.flatMap Entry.bytes)

/-- LS_RERANK_DONE: stage-1 entries return (R217). -/
def State.lsRerankDone (s : State) (src reqId : Nat) : State :=
  match s.lsQuery src reqId with
  | none => s
  | some q =>
    if q.stage ≠ .rerank ∨ s.unsent T_LS_RERANK src reqId then s
    else match s.workFail T_LS_RERANK src reqId with
      | some c => s.lsFail q c
      | none =>
        if s.lsOnFlash q && s.heldLate q.late q.r then s
        else
          let x := (s.serveFor q.r).rerankAll q.desc q.values q.cands
          let s := x.st.serveEnd
          if x.code ≠ E_NONE then s.lsFail q x.code
          else
            let es := sortEntries (entriesOf (x.data.length / 16) x.data)
            if q.rerank = 2 then
              let q := { q with stage := .model, cands := es }
              (s.setLs q).sendModel q.slot q.cand q.r es
            else s.lsSelect q (es.take q.k)

/-- LS_RERANK_DONE (R217).
Assumption log: 58 (DESIGN CHOICE). -/
def execLsRerankDone (src reqId : Nat) (s : State) : Res := s.live <| .next (s.lsRerankDone src reqId)

/-- The stage-2 entries that a model's keys make of stage-1 entries. -/
def modelEntries : List Entry → List Nat → List Entry
  | [], _ => []
  | e :: r, ks => { e with stage := 2, flags := 0, key := ks.headD 0 % 2 ^ 32 } :: modelEntries r ks.tail

/-! Steps (R216). -/

/-- A step of a query's ranking has been scanned completely: the next one, or the candidates. -/
def State.lsStepDone (s : State) (q : LsQuery) : State :=
  let q := { q with step := q.step + 1 }
  if q.passed < q.k ∧ q.step < q.expand ∧ !q.group.isEmpty then s.lsStep q
  else if 1 < q.step then
    (s.bump F.LS_CNT_EXC_WIDENED 1).lsCands { q with flags := addFlag q.flags SF_FILTER_WIDENED }
  else s.lsCands q

/-- A piece of a query's step returns its entries and PASSED. -/
def State.lsPiece (s : State) (src reqId : Nat) (es : List Entry) (passed : Nat) : State :=
  match s.lsQuery src reqId with
  | none => s
  | some q =>
    let q := { q with entries := q.entries ++ es, passed := q.passed + passed, pend := q.pend - 1 }
    let s := s.setLs q
    if q.pend = 0 then s.lsStepDone q else s

/-- More pieces of a query's step are out. -/
def State.lsPend (s : State) (n : Nat) (ms : List (Nat × Nat)) : State :=
  ms.foldl (fun s m => match s.lsQuery m.1 m.2 with
    | some q => s.setLs { q with pend := q.pend + n }
    | none => s) s

/-- Every one of several queries ends with a code. -/
def State.lsFailAll (s : State) (ms : List (Nat × Nat)) (code : Nat) : State :=
  ms.foldl (fun s m => match s.lsQuery m.1 m.2 with
    | some q => s.lsFail q code
    | none => s) s

/-! The dense path (R209). -/

/-- The largest ring of a role's panels, in bytes. -/
def State.roleRoom (s : State) (role : Nat) : Nat := (s.roleRings role).foldl (fun a r => max a (s.ring r).size) 0

/-- The per-query data of LS_DENSE: table, bias, BOUND, filter (R211). -/
def LsQuery.denseData (q : LsQuery) (list : Nat) : List Byte :=
  let t := (q.tabs.find? fun t => t.list == list).getD ⟨list, 0, []⟩
  t.table ++ leBytes 4 (unsigned 32 t.bias) ++ leBytes 4 q.bound ++ leBytes 1 ((if q.fen then 1 else 0) + (if q.fany then 2 else 0)) ++
    zeros 3 ++ q.filter

/-- A batch of a dense scan is sent, under a serial of its own; a re-issued run names its page, first slot and length. -/
def State.lsSendDense (s : State) (x : LsRun) (again : Bool) : State :=
  let tag := s.ls.next
  let x := { x with tag := tag }
  let s := { s with ls := { s.ls with next := tag + 1, runs := s.ls.runs ++ [x] } }
  let qs := x.members.filterMap fun m => s.lsQuery m.1 m.2
  match qs with
  | [] => s
  | q :: _ =>
    let r := { q.r with src := s.node, reqId := tag, deadline := 0, rehearsal := false }
    let more := if again then x.runs.flatMap fun p => leBytes 4 p.page ++ leBytes 2 p.first ++ leBytes 2 p.count else []
    s.sendWork 3 T_LS_DENSE r (lsHeader x.slot qs.length x.list x.len x.npages (qs.foldl (fun a q => max a q.keep) 0) ++
      qs.flatMap (fun q => q.denseData x.list) ++ more)

/-- A list scanned densely: batches of up to 256 queries, in the order in which they reached the scanner, no larger than a ring. -/
def State.lsDense (s : State) (x : LsRun) (again : Bool) : State :=
  let per := 64 + 84 + x.desc.m * x.desc.words * 2
  let cap := max 1 (min 256 ((s.roleRoom 3 - 128) / per))
  (chunks cap x.members.length x.members).foldl (fun s ms => s.lsSendDense { x with members := ms } again) s

/-- What a query brings to a dense scan. -/
def LsQuery.scanQ (q : LsQuery) (list : Nat) : ScanQ :=
  let t := (q.tabs.find? fun t => t.list == list).getD ⟨list, 0, []⟩
  ⟨t.table, t.bias, q.bound, q.keep, q.fen, q.fany, q.filter⟩

/-- Runs of slots scanned in turn. -/
def State.scanRuns (s : State) (d : LsDesc) (qs : List ScanQ) : List PageRun → List ScanOut → ScanRes
  | [], os => ⟨E_NONE, os, s⟩
  | p :: r, os =>
    let x := s.scanPage d qs p.page p.first p.count os
    if x.code ≠ E_NONE then x else x.st.scanRuns d qs r x.outs

/-- A dense scan for some of its queries: each gets its smallest entries and PASSED; a media error ends them. -/
def State.lsScanFor (s : State) (x : LsRun) (qs : List LsQuery) : State :=
  match qs with
  | [] => s
  | q :: _ =>
    let y := (s.serveFor q.r).scanRuns x.desc (qs.map fun q => q.scanQ x.list) x.runs (qs.map fun _ => {})
    let s := y.st.serveEnd
    if y.code ≠ E_NONE then s.lsFailAll (qs.map fun q => (q.r.src, q.r.reqId)) y.code
    else (List.zip qs y.outs).foldl (fun s p => s.lsPiece p.1.r.src p.1.r.reqId p.2.list p.2.passed) s

/-- LS_DENSE_DONE: a dense scan's candidates and PASSED return (R209). A member whose flash reads a rehearsal script holds stays out. -/
def State.lsDenseDone (s : State) (tag : Nat) : State :=
  match s.ls.runs.find? fun x => x.tag == tag with
  | none => s
  | some x =>
    if s.unsent T_LS_DENSE s.node tag then s
    else
      let fail := s.workFail T_LS_DENSE s.node tag
      let s := { s with ls := { s.ls with runs := s.ls.runs.filter fun y => y.tag != tag } }.dropWork s.node tag
      match fail with
      | some c => s.lsFailAll x.members c
      | none =>
        let qs := x.members.filterMap fun m => s.lsQuery m.1 m.2
        let flash := x.runs.any fun p => s.onFlash (pageAddr p.page) 65536
        let held := if flash then qs.filter fun q => s.heldLate q.late q.r else []
        let late := if flash then qs.filter fun q => s.pastLate q.late q.r && !s.heldLate q.late q.r else []
        let go := qs.filter fun q => !held.contains q && !late.contains q
        let s := late.foldl (fun s q => s.lsLate q) s
        (s.lsScanFor x (go.filter fun q => !q.r.rehearsal)).lsScanFor x (go.filter fun q => q.r.rehearsal)

/-- LS_DENSE_DONE (R209).
Assumption log: 58 (DESIGN CHOICE). -/
def execLsDenseDone (tag : Nat) (s : State) : Res := s.live <| .next (s.lsDenseDone tag)

/-! The thin path (R166, R210). -/

/-- The frame in which a page's home stands, if it is a stack whose owning unit is not OFFLINE: stack, unit, unit-local offset. -/
def State.thinHome (s : State) (p : Nat) : Option (Nat × Nat × Nat) :=
  let g := s.page p
  if g.st = 1 ∨ g.st = 4 ∨ (g.st = 6 ∧ g.prev = 1) then
    let u := unitOf (g.frame * 65536)
    if s.unitState g.stack u = US_OFFLINE then none else some (g.stack, u, localOf (g.frame * 65536))
  else none

/-- Table slots of a query table (R160). -/
def LsDesc.tableSlots (d : LsDesc) : Nat := (d.m * d.words * 2 + 1023) / 1024

/-- The BATCH limit (R160).
Assumption log: 62 (DESIGN CHOICE). -/
def LsDesc.batchMax (d : LsDesc) : Nat := min 8 (64 / d.tableSlots)

/-- KLOCAL of a query's commands (R210). -/
def LsQuery.klocal (q : LsQuery) : Nat := min 32 q.keep

/-- Whether two queries can share a SCORE_PQ: one filter slot, one KLOCAL.
Assumption log: 62 (DESIGN CHOICE). -/
def LsQuery.sameCmd (a b : LsQuery) : Bool :=
  a.fen == b.fen && (!a.fen || (a.fany == b.fany && a.filter == b.filter)) && a.klocal == b.klocal

/-- The batches of R166 rule 3, filled in the order of the queries.
Assumption log: 62 (DESIGN CHOICE). -/
def batchesOf (cap : Nat) (qs : List LsQuery) : List (List LsQuery) :=
  qs.foldl (fun bs q =>
    match bs.getLast? with
    | some (b :: r) => if q.sameCmd b ∧ r.length + 1 < cap then bs.dropLast ++ [b :: r ++ [q]] else bs ++ [[q]]
    | _ => bs ++ [[q]]) []

/-- The SCORE_PQ packet of a run for a batch whose tables stand from slot 0 on (R158, R203). -/
def scorePacket (d : LsDesc) (tag loc : Nat) (p : PageRun) (list : Nat) (qs : List LsQuery) : List Byte :=
  let tab (q : LsQuery) := (q.tabs.find? fun t => t.list == list).getD ⟨list, 0, []⟩
  let fen := qs.any LsQuery.fen
  let fany := qs.any LsQuery.fany
  let kl := (qs.head?.map LsQuery.klocal).getD 1
  leBytes 1 0x10 ++ leBytes 1 qs.length ++ leBytes 2 2 ++ leBytes 4 tag ++ leBytes 4 (loc + d.slotBase + p.first * d.slotBytes) ++
    leBytes 4 p.count ++ leBytes 1 d.m ++ leBytes 1 ((if d.width8 then 1 else 0) + (if d.slot64 then 2 else 0)) ++ leBytes 1 kl ++
    leBytes 1 ((if fen then 8 else 0) + (if fany then 16 else 0)) ++ leBytes 1 (if d.attr then d.attrOff else 0) ++
    leBytes 1 (p.first % 8) ++ leBytes 2 d.shard ++ leBytes 4 (loc + d.vidOff + 8 * p.first) ++ leBytes 4 (loc + p.first / 8) ++
    padTo 8 ((List.range qs.length).flatMap fun q => leBytes 1 (q * d.tableSlots)) ++
    padTo 32 (qs.flatMap fun q => leBytes 4 (unsigned 32 (tab q).bias)) ++
    padTo 32 (qs.flatMap fun q => leBytes 4 q.bound) ++ zeros 24

/-- A batch's tables and filter are broadcast to a stack (R160, R161). -/
def State.lsBroadcast (s : State) (k : Nat) (d : LsDesc) (list : Nat) (qs : List LsQuery) : State :=
  let data := qs.flatMap fun q =>
    padTo (1024 * d.tableSlots) (((q.tabs.find? fun t => t.list == list).map LsTab.table).getD [])
  let s := s.loadTslot k 0 data
  match qs with
  | q :: _ => if q.fen then s.loadFilter k 0 q.filter else s
  | [] => s

/-- One SCORE_PQ of a batch; a page that is no longer homed in a stack is scanned densely. -/
def State.lsScore (s : State) (slot : Nat) (d : LsDesc) (list : Nat) (qs : List LsQuery) (p : PageRun) : State :=
  let ms := qs.map fun q => (q.r.src, q.r.reqId)
  match s.thinHome p.page with
  | none => s.lsDense ⟨0, slot, d, list, p.count, 1, [p], ms⟩ true
  | some (k, u, loc) =>
    let tag := s.ls.next % 2 ^ 32
    let c : ThinCmd := ⟨tag, k, u, slot, d, list, p, ms⟩
    { s with ls := { s.ls with next := s.ls.next + 1, thins := s.ls.thins ++ [c] } }.sendItem k u
      (.packet { bytes := scorePacket d tag loc p list qs, dest := U_SEARCH, tag := tag })

/-- A batch on the runs of a list: its tables go to each stack once, then one SCORE_PQ for each page (R166, R203). -/
def State.lsThinBatch (s : State) (slot : Nat) (d : LsDesc) (list : Nat) (runs : List PageRun) (qs : List LsQuery) : State :=
  let ks := ((runs.filterMap fun p => s.thinHome p.page).map fun h => h.1).dedup
  let s := ks.foldl (fun s k => s.lsBroadcast k d list qs) s
  let s := s.lsPend runs.length (qs.map fun q => (q.r.src, q.r.reqId))
  runs.foldl (fun s p => s.lsScore slot d list qs p) s

/-- One query's half of a run that dropped entries (R210). -/
def State.lsSplitHalf (s : State) (c : ThinCmd) (q : LsQuery) (p : PageRun) : State :=
  if p.count = 0 then s.lsPiece q.r.src q.r.reqId [] 0
  else
    let s := match s.thinHome p.page with
      | some h => s.lsBroadcast h.1 c.desc c.list [q]
      | none => s
    s.lsScore c.slot c.desc c.list [q] p

/-- The run is issued again in two halves for a query (R210). -/
def State.lsSplit (s : State) (c : ThinCmd) (q : LsQuery) : State :=
  let h := (c.run.count + 1) / 2
  let s := (s.bump F.LS_CNT_EXC_SPLITS 1).lsPend 1 [(q.r.src, q.r.reqId)]
  (s.lsSplitHalf c q { c.run with count := h }).lsSplitHalf c q
    { c.run with first := c.run.first + h, count := c.run.count - h }

/-- The blocks of a scoring result (R162): entries, DROPPED, PASSED. -/
def scoreBlocks : Nat → List Byte → List (List Entry × Nat × Nat)
  | 0, _ => []
  | n + 1, b =>
    let k := at_ b 6 1
    (entriesOf k (b.drop 16), at_ b 8 4, at_ b 12 4) :: scoreBlocks n (b.drop (16 + 16 * k))

/-- One block of a thin result for its query. -/
def State.lsBlock (s : State) (c : ThinCmd) (m : Nat × Nat) (b : List Entry × Nat × Nat) : State :=
  match s.lsQuery m.1 m.2 with
  | none => s
  | some q =>
    let s := s.charge q.r.tenant 8 b.2.2
    if 0 < b.2.1 ∧ 32 < q.keep then s.lsSplit c q else s.lsPiece m.1 m.2 b.1 b.2.2

/-- A thin result is taken (R210): blocks by query, the dense re-issue of an aborted run (R171), E_MEDIA, or E_CANCELLED
where a reset of the stack ended it (R476). -/
def State.lsThinDone (s : State) (c : ThinCmd) (p : InlPkt) : State :=
  let s := { s with ls := { s.ls with thins := s.ls.thins.filter fun x => x.tag != c.tag } }
  let st := at_ p.bytes 5 1
  if st = IS_OK then (List.zip c.members (scoreBlocks c.members.length p.bytes)).foldl (fun s x => s.lsBlock c x.1 x.2) s
  else if st = IS_ABORTED ∧ p.aux = 3 then s.lsFailAll c.members E_CANCELLED
  else if st = IS_ABORTED then s.lsDense ⟨0, c.slot, c.desc, c.list, c.run.count, 1, [c.run], c.members⟩ true
  else if st = IS_POISON then s.lsFailAll c.members E_MEDIA
  else s.lsFailAll c.members E_MALFORMED

/-- The first result that a unit holds for a reader. -/
def State.resultFor (s : State) (k u dest : Nat) : Option (InlPkt × State) :=
  match s.takeResult k u with
  | some (p, s') => if p.dest = dest then some (p, s') else none
  | none => none

/-- THIN_RESULT: the next result of a unit, if it is the scanner's (R210). -/
def State.thinResult (s : State) (k u : Nat) : State :=
  match s.resultFor k u U_SEARCH with
  | none => s
  | some (p, s) =>
    match s.ls.thins.find? fun c => c.tag == p.tag with
    | some c => s.lsThinDone c p
    | none => s

/-- THIN_RESULT (R210). -/
def execThinResult (stack unit : Nat) (s : State) : Res := s.live <|
  onUnit (stack < 12 && unit < 256) (if s.hasUnit stack unit then s.thinResult stack unit else s)

/-! The gather window (R166, R208, R214). -/

/-- The runs of a snapshot: the pages that hold slots. -/
def snapRuns (d : LsDesc) (len : Nat) : Nat → List Nat → List PageRun
  | _, [] => []
  | i, p :: r =>
    let n := min d.perPage (len - i * d.perPage)
    if n = 0 then [] else ⟨p, 0, n⟩ :: snapRuns d len (i + 1) r

/-- A list is decided and its scan goes out (R166, R214).
Assumption log: 59 (DESIGN CHOICE). -/
def State.lsDecide (s : State) (slot : Nat) (d : LsDesc) (list : Nat) (qs : List LsQuery) : State :=
  let ms := qs.map fun q => (q.r.src, q.r.reqId)
  match qs with
  | [] => s
  | q :: _ =>
    let y := (s.serveFor q.r).snapshot d list
    let s := y.st.serveEnd
    if y.code ≠ E_NONE then s.lsFailAll ms y.code
    else
      let s := if y.bad then (s.raise EV_LS_LIST_INVALID 0 []).bump F.LS_CNT_EXC_LIST_INVALID 1 else s
      let runs := snapRuns d y.len 0 y.pages
      let thin := decide (qs.length < s.get F.LS_CFG_DENSE_T) && y.pages.all fun p => (s.thinHome p).isSome
      if thin then
        (batchesOf d.batchMax qs).foldl (fun s b => s.lsThinBatch slot d list runs b) (s.bump F.LS_CNT_LISTS_THIN 1)
      else
        let s := s.bump F.LS_CNT_LISTS_DENSE 1
        if runs.isEmpty then s
        else (s.lsPend 1 ms).lsDense ⟨0, slot, d, list, y.len, y.npages, runs, ms⟩ false

/-- The lists that the window's queries target, with their slot and descriptor copy, in the order in which they joined.
Assumption log: 59 (DESIGN CHOICE). -/
def targetsOf (qs : List LsQuery) : List (Nat × LsDesc × Nat) :=
  (qs.flatMap fun q => q.tabs.map fun t => (q.slot, q.desc, t.list)).dedup

/-- The window closes (R208): each list is decided, then queries with nothing to scan go on.
Assumption log: 59 (DESIGN CHOICE). -/
def State.windowClose (s : State) : State :=
  let qs := s.ls.queries.filter fun q => q.stage == .window
  let s := qs.foldl (fun s q => s.setLs { q with stage := .scan, pend := 0 }) { s with ls := { s.ls with closed := some s.beat.beat } }
  let s := (targetsOf qs).foldl (fun s t =>
    s.lsDecide t.1 t.2.1 t.2.2 (qs.filter fun q => q.slot == t.1 && q.desc == t.2.1 && q.tabs.any (·.list == t.2.2))) s
  let s := qs.foldl (fun s q => match s.lsQuery q.r.src q.r.reqId with
    | some p => if p.stage = .scan ∧ p.pend = 0 then s.lsStepDone p else s
    | none => s) s
  qs.foldl (fun s q => s.lsBegun q) s

/-- GATHER_WINDOW_CLOSE at a boundary of a beat whose number is a multiple of GATHER (R208).
Assumption log: 60 (DEDUCED). -/
def execGatherWindowClose (s : State) : Res := s.live <|
  .next (if s.beat.valid ∧ s.beat.beat % s.get F.LS_CFG_GATHER = 0 ∧ s.ls.closed ≠ some s.beat.beat then s.windowClose else s)

/-! QUERY_LS (R221, R222). -/

/-- The MERGE field of a body (R262). -/
def mergeOf (b : List Byte) (off : Nat) : MergeTo :=
  { node := at_ b off 2, buf := at_ b (off + 2) 2, npart := at_ b (off + 4) 2, payTable := at_ b (off + 6) 1,
    payUnits := at_ b (off + 7) 1 % 64 }

/-- Whether a MERGE field lies in its range (R262). -/
def MergeTo.ok (m : MergeTo) : Bool :=
  decide (1 ≤ m.npart) && decide (m.npart ≤ 1024) && decide (m.payUnits ≤ 32) && (m.node != 0xFFFF || m.npart == 1)

/-- Bytes of an element of a query format; 0 for a format that queries do not take. -/
def queryBytes (fmt : Nat) : Nat := if fmt = 0x02 then 1 else if fmt = 0x0A ∨ fmt = 0x0B then 2 else if fmt = 0x0C then 4 else 0

/-- Whether a filter's terms lie in their ranges, where it applies. -/
def bodyFilterOk (fen : Bool) (b : List Byte) : Bool := !fen || filterOk ((b.drop 32).take 64)

/-- The query that a body spells under a descriptor. -/
def lsQueryOf (r : Req) (slot : Nat) (d : LsDesc) (old : Bool) : LsQuery :=
  let b := r.payload
  let f := at_ b 1 1
  { r := r, slot := slot, desc := d, k := at_ b 4 2, nprobe := at_ b 6 2, expand := at_ b 8 1,
    cand := if f / 16 % 4 = 0 then at_ b 4 2 else at_ b 12 2, rerank := f / 16 % 4, late := f / 4 % 4, fen := f % 2 == 1,
    fany := f / 2 % 2 == 1, filter := (b.drop 32).take 64, noShadow := f / 64 % 2 == 1, qfmt := at_ b 9 1,
    qscale := at_ b 16 4, query := b.drop 96, merge := mergeOf b 20, old := old }

/-- The field checks of R222. -/
def LsQuery.ok (q : LsQuery) : Bool :=
  let b := q.r.payload
  decide (1 ≤ q.k) && decide (q.k ≤ 16384) && decide (1 ≤ q.nprobe) && decide (q.nprobe ≤ 4096) && decide (1 ≤ q.expand) &&
    decide (q.expand ≤ 4) && decide (q.nprobe * q.expand ≤ 4096) && q.rerank != 3 && queryBytes q.qfmt != 0 &&
    at_ b 10 2 == q.desc.dim && decide (q.k ≤ q.cand) && decide (q.cand ≤ 16384) && q.merge.ok &&
    (!q.fen || q.desc.attr) && bodyFilterOk q.fen b && (q.rerank == 0 || q.desc.vecFmt != 0) &&
    b.length == 96 + q.desc.dim * queryBytes q.qfmt

/-- A QUERY_LS is checked in the order of R222, and its coarse assignment is sent. -/
def State.takeQueryLs (s : State) (r : Req) : State :=
  let b := r.payload
  let m := mergeOf b 20
  let bad (s : State) (code : Nat) : State :=
    if b.length < 96 then s.answer U_SEARCH r code else s.failSearch U_SEARCH r m (at_ b 2 2) (at_ b 4 2) 0 code
  match s.lsSlot (at_ b 0 1) (at_ b 2 2) with
  | none => bad s E_ABSENT
  | some (n, d) =>
    let q := lsQueryOf r n d (s.oldCopy r.src r.reqId)
    if !q.ok then bad s E_MALFORMED
    else if s.deadlinePassed r.deadline then bad s E_DEADLINE
    else if s.cancelled r.src r.reqId then bad s E_CANCELLED
    else
      let s := { s with ls := { s.ls with queries := s.ls.queries ++ [q] } }
      s.countLs.lsSendCoarse q

/-- QUERY_LS: the query at the head of a ring (R222). -/
def execQueryLs (ring : Nat) (s : State) : Res := s.live <|
  onUnit (ring < 8192) <| match s.headReq ring U_SEARCH T_QUERY_LS with
    | some (m, r) => (s.popMsg ring m).takeQueryLs r
    | none => s

/-! What other happenings do to queries. -/

/-- A late point's effect on the scanner's queries (R189).
Assumption log: 63 (DEDUCED). -/
def State.lsLatePoint (s : State) (src reqId : Nat) : State :=
  match s.lsQuery src reqId with
  | some q => if s.pastLate q.late q.r && s.lsOnFlash q then s.lsLate q else s
  | none => s

/-- A CANCEL: the query is answered, and what its work gives is discarded (R208).
Assumption log: 64 (DEDUCED). -/
def State.lsCancel (s : State) (src reqId : Nat) : State :=
  match s.lsQuery src reqId with
  | some q => s.lsFail q E_CANCELLED
  | none => s

/-- The dovetail window closes: queries admitted against an OLD_COPY shard end with E_EPOCH (R218). -/
def State.lsExpireOld (s : State) : State :=
  let s := (s.ls.queries.filter fun q => q.old).foldl (fun s q => s.lsFail q E_EPOCH) s
  (s.sel.tops.filter fun j => j.old).foldl (fun s j =>
    (((s.dropTop j.r.src j.r.reqId).dropWork j.r.src j.r.reqId).failSearch j.unit j.r j.merge j.shard j.k j.flags E_EPOCH).countLs) s

/-! Updates (R212, R213, R223, R224, R497). -/

/-- Code bytes that an UPDATE_VEC carries. -/
def LsDesc.codePad (d : LsDesc) : Nat := roundUp d.codeBytes 32

/-- An update is rejected (R224). -/
def State.lsReject (s : State) (r : Req) (code : Nat) : State :=
  (s.bump F.LS_CNT_EXC_UPD_REJECT 1).answer U_SEARCH r code

/-- Node offset of a slot's part on its page. -/
def LsDesc.slotAddr (d : LsDesc) (page i : Nat) : Nat := pageAddr page + d.slotBase + i * d.slotBytes

/-- Node offset of a slot's VID. -/
def LsDesc.vidAddr (d : LsDesc) (page i : Nat) : Nat := pageAddr page + d.vidOff + 8 * i

/-- The spare store gives no page, or the pointer array is full: E_CAPACITY, reported once per index (R212).
Assumption log: 65 (DESIGN CHOICE). -/
def State.lsNoSpare (s : State) (d : LsDesc) (r : Req) : State :=
  let s := if smGet (fun _ => false) s.ls.spare d.index then s
    else { s with ls := { s.ls with spare := smPut (fun _ => false) s.ls.spare d.index true } }.raise EV_LS_SPARE_EMPTY 0 []
  s.lsReject r E_CAPACITY

/-- Stores in turn, to the first that fails. -/
def State.storeAll (s : State) : List (Nat × List Byte) → Nat × State
  | [] => (E_NONE, s)
  | (a, d) :: r =>
    let x := s.store a d
    if x.1 ≠ E_NONE then x else x.2.storeAll r

/-- Steps 2 to 4 of an append to a page, after step 1's stores (R212).
Assumption log: 65 (DESIGN CHOICE). -/
def State.lsWrite (s : State) (d : LsDesc) (r : Req) (msg : List Byte) (first : List (Nat × List Byte)) (page len np : Nat) : State :=
  let b := r.payload
  let vid := at_ b 8 6
  let i := len % d.perPage
  let slot := padTo d.slotBytes ((b.drop 32).take d.codeBytes)
  let slot := if d.attr then slot.take d.attrOff ++ (b.drop 16).take 8 ++ slot.drop (d.attrOff + 8) else slot
  let t := s.load (pageAddr page + i / 8) 1
  let tomb := at_ t.data 0 1
  let tomb := if tomb / 2 ^ (i % 8) % 2 = 1 then tomb - 2 ^ (i % 8) else tomb
  let vec := if at_ b 14 1 % 2 = 1 then [(d.vecOff + (vid - d.vidBase) * d.vecBytes, (b.drop (32 + d.codePad)).take d.vecBytes)] else []
  let ent := d.dirOff + 32 * at_ b 4 4
  let ws := first ++ [(d.slotAddr page i, slot), (d.vidAddr page i, leBytes 6 vid ++ zeros 2), (pageAddr page + i / 8, leBytes 1 tomb)] ++
    vec ++ [(ent + 4, leBytes 2 np), (ent, leBytes 4 (len + 1)), (ent + 16, leBytes 6 vid)]
  if t.code ≠ E_NONE then t.st.lsReject r t.code
  else
    let x := t.st.storeAll ws
    if x.1 ≠ E_NONE then x.2.lsReject r x.1
    else
      let s := x.2.journal msg (ws.map fun w => (w.1, w.2.length))
      { s with ls := { s.ls with spare := smPut (fun _ => false) s.ls.spare d.index false } }.answer U_SEARCH r E_NONE

/-- An append to a list whose directory entry has been read (R212).
Assumption log: 65 (DESIGN CHOICE), 66 (DEDUCED). -/
def State.lsAppend (s : State) (d : LsDesc) (r : Req) (msg ent : List Byte) : State :=
  let len := at_ ent 0 4
  let np := at_ ent 4 2
  let ptr := at_ ent 8 6
  if 0 < len ∧ at_ r.payload 8 6 ≤ at_ ent 16 6 then s.lsReject r E_MALFORMED
  else if len = np * d.perPage then
    let c := s.load d.spareOff 8
    let n := at_ c.data 0 8
    if c.code ≠ E_NONE then c.st.lsReject r c.code
    else if n = 0 ∨ at_ ent 6 2 ≤ np then c.st.lsNoSpare d r
    else
      let p := c.st.load (d.spareOff + 8 + 4 * (n - 1)) 4
      if p.code ≠ E_NONE then p.st.lsReject r p.code
      else if r.rehearsal then p.st.answer U_SEARCH r E_NONE
      else p.st.lsWrite d r msg [(d.spareOff, leBytes 8 (n - 1)), (ptr + 4 * np, leBytes 4 (at_ p.data 0 4))] (at_ p.data 0 4) len (np + 1)
  else
    let p := s.load (ptr + 4 * (len / d.perPage)) 4
    if p.code ≠ E_NONE then p.st.lsReject r p.code
    else if r.rehearsal then p.st.answer U_SEARCH r E_NONE
    else p.st.lsWrite d r msg [] (at_ p.data 0 4) len np

/-- A slot found by binary search: between `lo` and `hi`. -/
def State.findVid (s : State) (d : LsDesc) (ptr vid : Nat) : Nat → Nat → Nat → Acc
  | 0, _, _ => ⟨E_ABSENT, [], s⟩
  | fuel + 1, lo, hi =>
    if hi ≤ lo then ⟨E_ABSENT, [], s⟩
    else
      let m := (lo + hi) / 2
      (s.load (ptr + 4 * (m / d.perPage)) 4).bind fun p s =>
        (s.load (d.vidAddr (leNat p) (m % d.perPage)) 6).bind fun v s =>
          if leNat v = vid then ⟨E_NONE, leBytes 8 (leNat p) ++ leBytes 8 (m % d.perPage), s⟩
          else if leNat v < vid then s.findVid d ptr vid fuel (m + 1) hi
          else s.findVid d ptr vid fuel lo m

/-- A delete in a list whose directory entry has been read (R213).
Assumption log: 65 (DESIGN CHOICE). -/
def State.lsDelete (s : State) (d : LsDesc) (r : Req) (msg ent : List Byte) : State :=
  let x := s.findVid d (at_ ent 8 6) (at_ r.payload 8 6) 40 0 (at_ ent 0 4)
  if x.code ≠ E_NONE then x.st.lsReject r x.code
  else
    let a := pageAddr (at_ x.data 0 8) + at_ x.data 8 8 / 8
    let bit := 2 ^ (at_ x.data 8 8 % 8)
    let t := x.st.load a 1
    let tomb := at_ t.data 0 1
    if t.code ≠ E_NONE then t.st.lsReject r t.code
    else if r.rehearsal then t.st.answer U_SEARCH r E_NONE
    else
      let w := t.st.store a (leBytes 1 (Nat.lor tomb bit))
      if w.1 ≠ E_NONE then w.2.lsReject r w.1 else (w.2.journal msg [(a, 1)]).answer U_SEARCH r E_NONE

/-- The field checks of R223 and R224. -/
def lsUpdateOk (d : LsDesc) (op : Nat) (b : List Byte) : Bool :=
  let vec := at_ b 14 1 % 2
  (op == 1 || op == 2) && decide (at_ b 4 4 < d.nlist) && decide (d.vidBase ≤ at_ b 8 6) &&
    decide (at_ b 8 6 < d.vidBase + d.vidSpan) && (vec == 0 || op == 2 || d.vecFmt != 0) &&
    b.length == (if op = 1 then 32 + d.codePad + vec * d.vecBytes else 32)

/-- An UPDATE_VEC of the list scanner is applied (R212, R213, R224). -/
def State.lsUpdate (s : State) (r : Req) (msg : List Byte) : State :=
  let b := r.payload
  match s.lsSlot (at_ b 1 1) (at_ b 2 2) with
  | none => s.lsReject r E_ABSENT
  | some (_, d) =>
    if !lsUpdateOk d (at_ b 0 1) b then s.lsReject r E_MALFORMED
    else if s.cancelled r.src r.reqId then s.lsReject r E_CANCELLED
    else
      let e := (s.serveFor r).load (d.dirOff + 32 * at_ b 4 4) 32
      let s := e.st.serveEnd
      if e.code ≠ E_NONE then s.lsReject r e.code
      else if at_ b 0 1 = 1 ∧ 0 < at_ e.data 0 4 ∧ at_ b 8 6 ≤ at_ e.data 16 6 then s.lsReject r E_MALFORMED
      else if !s.journalRoom then s.lsReject r E_CAPACITY
      else if at_ b 0 1 = 1 then s.lsAppend d r msg e.data else s.lsDelete d r msg e.data

/-- The UPDATE_VEC at the head of a ring whose pair no walker slot holds. -/
def State.lsUpdateAt (s : State) (ring : Nat) (del : Bool) : State :=
  match s.headReq ring U_SEARCH T_UPDATE_VEC with
  | some (m, r) =>
    if (s.gwSlot (at_ r.payload 1 1) (at_ r.payload 2 2)).isNone ∧ (at_ r.payload 0 1 == 2) = del then (s.popMsg ring m).lsUpdate r m
    else s
  | none => s

/-- APPEND (R212); an OP that is none is answered here as well (R224). -/
def execAppend (ring : Nat) (s : State) : Res := s.live <| onUnit (ring < 8192) (s.lsUpdateAt ring false)
/-- DELETE_VEC (R213). -/
def execDeleteVec (ring : Nat) (s : State) : Res := s.live <| onUnit (ring < 8192) (s.lsUpdateAt ring true)

/-! Shadow copies (R219, R220). -/

/-- Lists scanned for one query in turn, as the shadow copy does.
Assumption log: 67 (DESIGN CHOICE). -/
def State.shadowScan (s : State) (q : LsQuery) (vals : List FV) : List Nat → List Entry → Nat × List Entry × State
  | [], es => (E_NONE, es, s)
  | j :: r, es =>
    let t := s.listTable q.desc vals j
    if t.code ≠ E_NONE then (t.code, es, t.st)
    else
      let y := t.st.snapshot q.desc j
      if y.code ≠ E_NONE then (y.code, es, y.st)
      else
        let sq : ScanQ := ⟨t.data.drop 4, signed 32 (at_ t.data 0 4), 0xFFFFFFFF, q.keep, q.fen, q.fany, q.filter⟩
        let x := y.st.scanRuns q.desc [sq] (snapRuns q.desc y.len 0 y.pages) [{}]
        if x.code ≠ E_NONE then (x.code, es, x.st)
        else x.st.shadowScan q vals r (es ++ x.outs.flatMap ScanOut.list)

/-- The K best of a shadow copy: coarse ranking, scan, exact rerank if the primary reranked (R219).
Assumption log: 67 (DESIGN CHOICE). -/
def State.shadowRun (s : State) (q : LsQuery) : Nat × List Entry × State :=
  let d := q.desc
  let vals := q.values
  let n := min d.nlist (min 4096 (q.nprobe * 2 ^ s.get F.LS_SHADOW_CFG_MULT))
  let x := s.coarseAll d (coarseQuery d.centFmt vals) d.nlist 0
  if x.code ≠ E_NONE then (x.code, [], x.st)
  else
    let y := x.st.shadowScan q vals ((rankLists (pairsOf d.nlist x.data) n).map Prod.fst) []
    if y.1 ≠ E_NONE then y
    else
      let cs := (dedupInto [] (sortEntries y.2.1)).kept.take q.keep
      if q.rerank = 0 then (E_NONE, cs.take q.k, y.2.2)
      else
        let z := y.2.2.rerankAll d vals cs
        if z.code ≠ E_NONE then (z.code, [], z.st)
        else (E_NONE, (sortEntries (entriesOf (z.data.length / 16) z.data)).take q.k, z.st)

/-- A shadow's RESULT, sent to node DEST with SHADOW set (R220).
Assumption log: 67 (DESIGN CHOICE). -/
def State.sendShadow (s : State) (q : LsQuery) (es : List Entry) : State :=
  if s.bit F.LS_SHADOW_CFG_SEND then
    let fl := SF_SHADOW + (if es.length < q.k then SF_SHORT else 0)
    let body := resultHead (statusWord fl E_NONE) q.k es.length 0 1 0 0 0 0 ++ fillSlots q.k es
    (s.bump F.SEL_CNT_MERGE_RESULTS 1).sendHaldio U_SEARCH 0 (s.get F.LS_SHADOW_CFG_DEST) q.r.cls 0 T_RESULT q.r.reqId 0
      q.r.rehearsal body
  else s

/-- SHADOW_DONE: the next shadow copy runs, inside a shim window whose TARGET selects SHADOW, and its recall is counted (R219, R220,
R499).
Assumption log: 67 (DESIGN CHOICE). -/
def State.shadowDone (s : State) : State :=
  match s.ctl.shim, s.ls.shadows with
  | some w, j :: rest =>
    if w.target / 16 % 2 = 0 then s
    else
      let s := State.countLs { s with ls := { s.ls with shadows := rest } }
      let x := s.shadowRun j.q
      let s := x.2.2
      if x.1 ≠ E_NONE then s
      else
        let hits := (j.prim.filter fun v => x.2.1.any fun e => e.vid == v).length
        ((s.bump F.LS_SHADOW_RECALL_HITS hits).bump F.LS_SHADOW_RECALL_TOTAL j.prim.length).sendShadow j.q x.2.1
  | _, _ => s

/-- SHADOW_DONE (R220). -/
def execShadowDone (s : State) : Res := s.live <| .next s.shadowDone

/-! Resets (R474: SEARCH). -/

/-- A reset that covers the search units ends every query; the window and the shadow queue are empty. -/
def State.lsReset (s : State) : State :=
  let s := s.ls.queries.foldl (fun s q => s.dropWork q.r.src q.r.reqId) s
  let rs := s.ls.queries.map fun q => (q.r.src, q.r.reqId)
  let s := { s with ls := { s.ls with queries := [], runs := [], thins := [], shadows := [], spare := [] } }
  (rs.foldl (fun s r => s.forget r.1 r.2) s).countLs

end Sys2Proof.Machine
end

