-- ==== Sys2Proof/Machine/Checks.lean ====
section
/-! DEFINITION. The check-value units (R441 to R446). -/

namespace Sys2Proof.Machine

/-- Whether a mover channel holds a CRC unit (R444). -/
def State.chkHeld (s : State) (u : Nat) : Bool := s.bit (F.CHK_CTRL_HELD u)

/-- WIDTH of a unit. -/
def State.chkWidth (s : State) (u : Nat) : Nat := s.get (F.CHK_CFG_WIDTH u)

/-- A value cut to a unit's width: bits at or above it are ignored and read 0 (R441). -/
def State.chkCut (s : State) (u v : Nat) : Nat := v % 2 ^ s.chkWidth u

/-- CHK_RESULT (R442). -/
def State.chkResult (s : State) (u : Nat) : Nat :=
  crcResult (s.chkWidth u) (s.bit (F.CHK_CFG_REFOUT u)) (s.chkCut u (s.get (F.CHK_XOROUT_VALUE u))) (s.chkCut u (s.get (F.CHK_STATE_VALUE u)))

/-- Bytes fed to a unit (R441, R442). -/
def State.chkFeed (s : State) (u : Nat) (b : List Byte) : State :=
  let r := crcFeed (s.chkWidth u) (s.chkCut u (s.get (F.CHK_POLY_VALUE u))) (s.bit (F.CHK_CFG_REFIN u)) (s.chkCut u (s.get (F.CHK_STATE_VALUE u))) b
  (s.set (F.CHK_STATE_VALUE u) r).set (F.CHK_BYTES_BYTES u) (s.get (F.CHK_BYTES_BYTES u) + b.length)

/-- A write to a register of a unit; while a channel holds the unit it is ignored and counted (R444). -/
def State.chkWrite (s : State) (u : Nat) (f : State → State) : State :=
  if s.chkHeld u then s.bump (F.CHK_CTRL_IGNORED u) 1 else f s

/-- START (R442). -/
def State.chkStart (s : State) (u : Nat) : State :=
  s.chkWrite u fun s => (s.set (F.CHK_STATE_VALUE u) (s.chkCut u (s.get (F.CHK_INIT_VALUE u)))).set (F.CHK_BYTES_BYTES u) 0

/-- CHK_START (R442). -/
def execChkStart (unit : Nat) (s : State) : Res := s.live <| onUnit (unit < 16) (s.chkStart unit)

/-- CHK_FEED (R442). -/
def execChkFeed (unit value : Nat) (s : State) : Res := s.live <| onUnit (unit < 16) (s.chkWrite unit fun s => s.chkFeed unit (leBytes 8 value))

/-- CHK_FEED_TAIL of 1 to 7 bytes; a count of 0 does nothing (R442). -/
def State.chkTail (s : State) (u value count : Nat) : State :=
  if count % 8 = 0 then s else s.chkWrite u fun s => s.chkFeed u (leBytes (count % 8) value)

/-- CHK_FEED_TAIL (R442). -/
def execChkFeedTail (unit value count : Nat) (s : State) : Res := s.live <| onUnit (unit < 16) (s.chkTail unit value count)

/-- Whether CHK_RESULT meets CHK_EXPECT over WIDTH bits. -/
def State.chkMatch (s : State) (u : Nat) : Bool := s.chkResult u == s.chkCut u (s.get (F.CHK_EXPECT_VALUE u))

/-- CHECK (R446). -/
def State.chkCheck (s : State) (u : Nat) : State :=
  if s.chkMatch u then s
  else ((s.setBit (F.CHK_CTRL_MISMATCH u) true).bump (F.CHK_CTRL_MISMATCHES u) 1).raise EV_CHK_MISMATCH u
    [s.chkResult u, s.chkCut u (s.get (F.CHK_EXPECT_VALUE u))]

/-- CHK_CHECK (R446). -/
def execChkCheck (unit : Nat) (s : State) : Res := s.live <| onUnit (unit < 16) (s.chkCheck unit)

/-- A channel claims a unit for a descriptor, or finds it held (R444).
Assumption log: 121 (DESIGN CHOICE). -/
def State.chkClaim (s : State) (u n : Nat) : Option State :=
  if s.chkHeld u ∧ s.get (F.CHK_CTRL_HOLDER u) ≠ n then none
  else some ((s.setBit (F.CHK_CTRL_HELD u) true).set (F.CHK_CTRL_HOLDER u) n)

/-- A unit is released. -/
def State.chkRelease (s : State) (u : Nat) : State := (s.setBit (F.CHK_CTRL_HELD u) false).set (F.CHK_CTRL_HOLDER u) 0

end Sys2Proof.Machine
end

