-- ==== Sys2Proof/Machine/Movers.lean ====
section
/-! DEFINITION. The movers (R429 to R440): descriptors, transfers with conversion, pacing, how descriptors end. -/

namespace Sys2Proof.Machine

/-! Channels. -/

def MV_DISABLED : Nat := 0
def MV_IDLE : Nat := 1
def MV_RUNNING : Nat := 2
def MV_WAITING : Nat := 3
def MV_STOPPED : Nat := 4
def MV_HALTED : Nat := 5

/-- A channel that belongs to the node (R429). -/
def nodeChannel (n : Nat) : Bool := n % 16 == 15

/-- The ring of a channel, kept beside the inbound rings (R430). -/
def movRing (n : Nat) : Nat := 8192 + n

/-- A channel. -/
def State.movCh (s : State) (n : Nat) : MovCh := smGet (fun _ => {}) s.mov.chans n

/-- A channel, replaced. -/
def State.setMovCh (s : State) (n : Nat) (v : MovCh) : State := { s with mov := { s.mov with chans := smPut (fun _ => {}) s.mov.chans n v } }

/-- State of a channel. -/
def State.movState (s : State) (n : Nat) : Nat := s.get (F.MOV_CH_STATUS_STATE n)

/-- State of a channel, replaced. -/
def State.setMovState (s : State) (n st : Nat) : State := s.set (F.MOV_CH_STATUS_STATE n) st

/-- The running descriptor of a channel, replaced; PENDING follows. -/
def State.setMovRun (s : State) (n : Nat) (r : Option MovRun) : State :=
  (s.setMovCh n { s.movCh n with run := r }).set (F.MOV_CH_STATUS_PENDING n) ((r.map MovRun.pend).getD 0)

/-- Whether a ring of descriptors or jobs lies where R430 lets it: its size, its alignment, wholly in one bench data region or one stack window. -/
def State.descRingOk (s : State) (a lg : Nat) : Bool :=
  let n := 2 ^ lg
  decide (12 ≤ lg) && decide (lg ≤ 24) && a % n == 0 &&
    (match s.winOf a with
      | .bench => decide (a % 0x400000 + n + 16 ≤ 0x3C0000)
      | .stack _ => s.rangeCode a (n + 16) == E_NONE
      | _ => false)

/-- A ring enabled: both words 0, no token. -/
def State.openDescRing (s : State) (id a lg : Nat) : State :=
  ((s.putNum (a + 2 ^ lg) 8 0).putNum (a + 2 ^ lg + 8) 8 0).setRing id { base := a, size := 2 ^ lg, ownerKind := 3, owner := id }

/-- MOV_CH_ENABLE (R430). -/
def State.movEnable (s : State) (n : Nat) : State :=
  let a := s.get (F.MOV_CH_RING_ADDR n)
  let lg := s.get (F.MOV_CH_RING_SIZE_LOG2 n)
  if nodeChannel n ∨ s.movState n ≠ MV_DISABLED ∨ !s.descRingOk a lg then s
  else ((s.openDescRing (movRing n) a lg).setBit (F.MOV_CH_CFG_EN n) true).setMovState n MV_IDLE

/-- MOV_CH_ENABLE (R430). -/
def execMovChEnable (channel : Nat) (s : State) : Res := s.live <| onUnit (channel < 64) (s.movEnable channel)

/-- EN cleared: ignored unless IDLE, STOPPED or HALTED. -/
def State.movDisable (s : State) (n : Nat) : State :=
  if !nodeChannel n ∧ [MV_IDLE, MV_STOPPED, MV_HALTED].contains (s.movState n) then
    (((s.setRing (movRing n) {}).setBit (F.MOV_CH_CFG_EN n) false).setMovCh n {}).setMovState n MV_DISABLED
  else s

/-! The descriptor (R431). -/

def mdOp (d : List Byte) : Nat := at_ d 0 1
def mdFlag (d : List Byte) : Bool := at_ d 1 1 % 2 == 1
def mdCrc (d : List Byte) : Bool := at_ d 1 1 / 2 % 2 == 1
def mdCheck (d : List Byte) : Bool := at_ d 1 1 / 4 % 2 == 1
def mdEvent (d : List Byte) : Bool := at_ d 1 1 / 8 % 2 == 1
def mdSat (d : List Byte) : Bool := at_ d 1 1 / 16 % 2 == 1
def mdRemS (d : List Byte) : Bool := at_ d 1 1 / 32 % 2 == 1
def mdRemD (d : List Byte) : Bool := at_ d 1 1 / 64 % 2 == 1
def mdPace (d : List Byte) : Nat := at_ d 2 2
def mdConv (d : List Byte) : Nat := at_ d 4 1
def mdSw (d : List Byte) : Nat := at_ d 5 1 % 16
def mdDw (d : List Byte) : Nat := at_ d 5 1 / 16
def mdUnit (d : List Byte) : Nat := at_ d 6 1 % 16
def mdClass (d : List Byte) : Nat := at_ d 6 1 / 16 % 8
def mdIdxW (d : List Byte) : Nat := if at_ d 6 1 / 128 = 1 then 8 else 4
def mdSrc (d : List Byte) : Nat := at_ d 8 6
def mdSrcNode (d : List Byte) : Nat := at_ d 14 2
def mdDst (d : List Byte) : Nat := at_ d 16 6
def mdDstNode (d : List Byte) : Nat := at_ d 22 2
def mdLen (d : List Byte) : Nat := at_ d 24 4
def mdCount (d : List Byte) : Nat := at_ d 28 4
def mdSrcStride (d : List Byte) : Nat := at_ d 32 4
def mdDstStride (d : List Byte) : Nat := at_ d 36 4
def mdIdx (d : List Byte) : Nat := at_ d 40 6
def mdBurst (d : List Byte) : Nat := at_ d 48 4
def mdBound (d : List Byte) : Nat := at_ d 52 4
def mdFlagAddr (d : List Byte) : Nat := at_ d 56 6
def mdFlagInc (d : List Byte) : Nat := at_ d 62 2

/-- Whether a descriptor is paced. -/
def mdPaced (d : List Byte) : Bool := mdPace d != 0xFFFF

/-- OUT: destination bytes of a row or element (R432). -/
def mdOut (d : List Byte) : Nat := if mdOp d = 5 then mdLen d else mdLen d * 2 ^ mdDw d / 2 ^ mdSw d

/-- Destination bytes of the whole descriptor. -/
def mdTotal (d : List Byte) : Nat := if mdOp d = 6 then 0 else mdCount d * mdOut d

/-- Whether SW and DW fit CONV (R436). -/
def convOk (c sw dw : Nat) : Bool :=
  decide (sw ≤ 3) && decide (dw ≤ 3) &&
    (if c = 0 then sw == 0 && dw == 0
     else if c ≤ 2 then decide (sw < dw)
     else if c ≤ 5 then decide (dw < sw)
     else if c ≤ 7 then sw == 1 && dw == 2
     else if c ≤ 9 then sw == 2 && dw == 1
     else false)

/-- Whether every address of a range lies in an existing window other than the control window. -/
def State.rangeExists (s : State) (a n : Nat) : Bool :=
  n == 0 || (match s.winOf a, s.winOf (a + (n - 1)) with
    | .bench, .bench => true
    | .stack _, .stack _ => true
    | .tier, .tier => true
    | _, _ => false)

/-- The bounding source range of a descriptor: first byte and length. -/
def mdSrcSpan (d : List Byte) : Nat × Nat :=
  if mdOp d = 2 then (mdSrc d, (mdCount d - 1) * mdSrcStride d + mdLen d)
  else if mdOp d = 3 then (mdSrc d, max (mdBound d * mdSrcStride d) (mdLen d))
  else if mdOp d = 5 then (0, 0)
  else (mdSrc d, mdCount d * mdLen d)

/-- The bounding destination range of a descriptor. -/
def mdDstSpan (d : List Byte) : Nat × Nat :=
  if mdOp d = 2 then (mdDst d, (mdCount d - 1) * mdDstStride d + mdOut d)
  else if mdOp d = 4 then (mdDst d, (mdBound d - 1) * mdDstStride d + mdOut d)
  else (mdDst d, mdTotal d)

/-- Whether two ranges share a byte. -/
def spansMeet (a b : Nat × Nat) : Bool := a.2 != 0 && b.2 != 0 && decide (a.1 < b.1 + b.2) && decide (b.1 < a.1 + a.2)

/-- Whether the fields that a transfer uses lie in their ranges (R431, R433, R436). -/
def mdFieldsOk (d : List Byte) : Bool :=
  let op := mdOp d
  decide (1 ≤ op) && decide (op ≤ 6) && (decide (mdPace d ≤ 224) || mdPace d == 0xFFFF) &&
    (!mdPaced d || (decide (64 ≤ mdBurst d) && decide (mdBurst d ≤ 2 ^ 24) && mdBurst d % 64 == 0)) &&
    (!mdFlag d || (decide (1 ≤ mdFlagInc d) && mdFlagAddr d % 8 == 0)) &&
    (op == 6 ||
      (decide (1 ≤ mdLen d) && decide (mdLen d ≤ 2 ^ 24) && decide (1 ≤ mdCount d) && decide (mdCount d ≤ 2 ^ 24) &&
        (!(op == 1 || op == 5) || mdCount d == 1) &&
        (if op = 5 then mdConv d == 0 else convOk (mdConv d) (mdSw d) (mdDw d) && mdLen d % 2 ^ mdSw d == 0) &&
        (!(op == 3 || op == 4) || (!mdRemS d && !mdRemD d && mdIdx d % mdIdxW d == 0))))

/-- The checks of R433. -/
def State.movOk (s : State) (d : List Byte) : Bool :=
  let op := mdOp d
  let src := mdSrcSpan d
  let dst := mdDstSpan d
  let idx := if op = 3 ∨ op = 4 then (mdIdx d, mdCount d * mdIdxW d) else (0, 0)
  let ls := op ≤ 4 && !mdRemS d
  let ld := op ≤ 5 && !mdRemD d
  mdFieldsOk d &&
    (op == 6 ||
      ((!ls || s.rangeExists src.1 src.2) && (!ld || s.rangeExists dst.1 dst.2) && s.rangeExists idx.1 idx.2 &&
        !(ld && ((ls && spansMeet dst src) || spansMeet dst idx)))) &&
    (!mdFlag d || mdRemD d || s.rangeExists (mdFlagAddr d) 8)

/-! Conversion (R436). -/

/-- One element converted: its code, and whether it was clamped or saturated. -/
def convElem (c sw dw : Nat) (sat : Bool) (v : Nat) : Nat × Nat :=
  let bs := 8 * 2 ^ sw
  let bd := 8 * 2 ^ dw
  if c = 1 then (unsigned bd (signed bs v), 0)
  else if c = 3 then
    let x := signed bs v
    let y := max (-(2 ^ (bd - 1) : Int)) (min x ((2 ^ (bd - 1) : Int) - 1))
    (unsigned bd y, if x = y then 0 else 1)
  else if c = 4 then (min v (2 ^ bd - 1), if v < 2 ^ bd then 0 else 1)
  else if c = 5 then (v % 2 ^ bd, 0)
  else if c = 6 then (fmtFP32.encode (fmtFP16.decode v), 0)
  else if c = 7 then (fmtFP32.encode (fmtBF16.decode v), 0)
  else if c = 8 then let r := convFloat fmtFP16 sat (Fp.fv (fmtFP32.decode v)); (r.code, r.sat)
  else if c = 9 then let r := convFloat fmtBF16 sat (Fp.fv (fmtFP32.decode v)); (r.code, r.sat)
  else (v, 0)

/-- Source bytes converted, with the count of elements clamped or saturated. -/
def convBytes (d b : List Byte) : List Byte × Nat :=
  if mdConv d = 0 then (b, 0)
  else
    let w := 2 ^ mdSw d
    let es := (List.range (b.length / w)).map fun i => convElem (mdConv d) (mdSw d) (mdDw d) (mdSat d) (at_ b (i * w) w)
    (es.flatMap fun e => leBytes (2 ^ mdDw d) e.1, (es.map Prod.snd).sum)

/-! How descriptors end (R438, R439). -/

/-- A request on a line: every channel whose running descriptor names it receives it (R435).
Assumption log: 123 (DESIGN CHOICE). -/
def State.request (s : State) (line k : Nat) : State :=
  s.mov.chans.foldl (fun s e =>
    match (s.movCh e.1).run with
    | some r =>
      if mdPaced r.desc ∧ mdPace r.desc = line then
        let p := min 65535 (r.pend + k)
        let s := s.setMovRun e.1 (some { r with pend := p })
        s.bump (F.MOV_CH_CNT_REQ_LOST e.1) (r.pend + k - p)
      else s
    | none => s) s

/-- A descriptor's claim on a CRC unit ends (R444). -/
def State.movRelease (s : State) (n : Nat) (d : List Byte) : State :=
  if mdCrc d ∧ s.chkHeld (mdUnit d) ∧ s.get (F.CHK_CTRL_HOLDER (mdUnit d)) = n then s.chkRelease (mdUnit d) else s

/-- Operations of a descriptor that are no longer waited for. -/
def State.movForget (s : State) (r : MovRun) : State :=
  ((r.reads.map MovRead.tag) ++ r.writes ++ r.flag.toList).foldl (fun s t => s.dropFinished U_MOVER t) s

/-- A descriptor ends with an error: the channel is HALTED, the descriptor stays at the head, a waiting STOP is dropped (R439). -/
def State.movError (s : State) (n : Nat) (r : MovRun) (code kind : Nat) : State :=
  let s := ((s.set (F.MOV_CH_ERR_CODE n) code).set (F.MOV_CH_ERR_KIND n) kind).set (F.MOV_CH_ERR_DONE_BYTES n) r.wrote
  let s := ((s.movForget r).movRelease n r.desc).setMovRun n none
  ((s.setMovCh n { s.movCh n with stop := false }).setMovState n MV_HALTED |>.raise EV_MOV_DESC_ERROR n []).request n 1

def MK_DESCRIPTOR : Nat := 1
def MK_SOURCE : Nat := 2
def MK_DESTINATION : Nat := 3
def MK_INDEX : Nat := 4
def MK_CHECK : Nat := 5
def MK_RESET : Nat := 6

/-- A descriptor has ended without error: head, request line, event (R438 step 4). -/
def State.movEnd (s : State) (n : Nat) (r : MovRun) : State :=
  let s := ((s.movForget r).movRelease n r.desc).setMovRun n none
  let stop := (s.movCh n).stop
  let s := (s.setMovCh n { s.movCh n with stop := false }).setMovState n (if stop then MV_STOPPED else MV_IDLE)
  let s := (s.headAdvance (movRing n) (s.headOf (movRing n) + 64)).bump (F.MOV_CH_CNT_DESCS n) 1
  let s := s.request n 1
  if mdEvent r.desc then s.raise EV_MOV_DONE n [] else s

/-! Transfers (R432). -/

/-- Pieces of a range of destination positions: none crosses a row or holds more than `k` bytes.
Assumption log: 120 (DESIGN CHOICE). -/
def movPieces (out k : Nat) : Nat → Nat → Nat → List (Nat × Nat)
  | 0, _, _ => []
  | fuel + 1, p, n =>
    if n = 0 then []
    else
      let m := min (min n k) (out - p % out)
      (p, m) :: movPieces out k fuel (p + m) (n - m)

/-- An index of a GATHER or SCATTER: its value, or the code and kind of its failure. -/
def State.movIndex (s : State) (d : List Byte) (j : Nat) : (Nat × Nat) × Nat × State :=
  if mdOp d = 3 ∨ mdOp d = 4 then
    let x := s.load (mdIdx d + j * mdIdxW d) (mdIdxW d)
    let v := leNat x.data
    if x.code ≠ E_NONE then ((x.code, MK_SOURCE), 0, x.st)
    else if mdBound d ≤ v then ((E_MALFORMED, MK_INDEX), 0, x.st)
    else ((E_NONE, 0), v, x.st)
  else ((E_NONE, 0), 0, s)

/-- Node offset of the source of destination position `p`. -/
def movSrcAt (d : List Byte) (idx p : Nat) : Nat :=
  let out := mdOut d
  let o := p % out * 2 ^ mdSw d / 2 ^ mdDw d
  mdSrc d + o + (if mdOp d = 2 then p / out * mdSrcStride d else if mdOp d = 3 then idx * mdSrcStride d else p / out * mdLen d)

/-- Node offset of destination position `p`. -/
def movDstAt (d : List Byte) (idx p : Nat) : Nat :=
  let out := mdOut d
  mdDst d + (if mdOp d = 2 then p / out * mdDstStride d + p % out else if mdOp d = 4 then idx * mdDstStride d + p % out else p)

/-- A load that may run from one stack window into the next. -/
def State.loadAcross (s : State) (a n : Nat) : Acc :=
  let m := 0x800000000 - a % 0x800000000
  if n ≤ m ∨ tierBase ≤ a then s.load a n
  else
    let x := s.load a m
    if x.code ≠ E_NONE then x
    else
      let y := x.st.load (a + m) (n - m)
      { y with data := x.data ++ y.data }

/-- A store that may run from one stack window into the next. -/
def State.storeAcross (s : State) (a : Nat) (d : List Byte) : Nat × State :=
  let m := 0x800000000 - a % 0x800000000
  if d.length ≤ m ∨ tierBase ≤ a then s.store a d
  else
    let x := s.store a (d.take m)
    if x.1 ≠ E_NONE then x else x.2.store (a + m) (d.drop m)

/-- The request fields under which a channel's remote operations go (R434). The descriptor names no multicast group: a store to node 0xFFFF
goes to a group that is a free value. -/
def State.movOp (s : State) (n : Nat) (d : List Byte) (op node tag off total : Nat) (data : List Byte) : OutOp :=
  { op := op, dst := node, cls := mdClass d, gten := s.get (F.MOV_CH_CFG_GTENANT n), issuer := U_MOVER + 256 * n, tag := tag, offset := off,
    total := total, data := data, group := if node = 0xFFFF then s.free % 256 else 0 }

/-- Destination bytes written at a position, and fed to the CRC unit: the run and state, or the code of the failure. -/
def State.movPut (s : State) (n : Nat) (r : MovRun) (idx p : Nat) (b : List Byte) : Nat × MovRun × State :=
  let d := r.desc
  let a := movDstAt d idx p
  if mdRemD d then
    let t := s.newTag
    let s := t.2.issue (t.2.movOp n d OP_WRITE (mdDstNode d) t.1 a b.length b)
    let s := if mdDstNode d = 0xFFFF then s.nextFree else s
    (E_NONE, { r with wrote := r.wrote + b.length, writes := r.writes ++ [t.1] }, if mdCrc d then s.chkFeed (mdUnit d) b else s)
  else
    let x := s.storeAcross a b
    if x.1 ≠ E_NONE then (x.1, r, x.2)
    else (E_NONE, { r with wrote := r.wrote + b.length }, if mdCrc d then x.2.chkFeed (mdUnit d) b else x.2)

/-- Source bytes of a position arrive: they are converted and written. -/
def State.movArrive (s : State) (n : Nat) (r : MovRun) (idx p : Nat) (b : List Byte) : Nat × MovRun × State :=
  let c := convBytes r.desc b
  (s.bump (F.MOV_CH_CNT_SAT n) c.2).movPut n r idx p c.1

/-- One piece: read and written, or its remote read issued. The answer is a code with its kind.
Assumption log: 120 (DESIGN CHOICE). -/
def State.movPiece (s : State) (n : Nat) (r : MovRun) (p m : Nat) : (Nat × Nat) × MovRun × State :=
  let d := r.desc
  let i := s.movIndex d (p / mdOut d)
  let s := i.2.2
  if i.1.1 ≠ E_NONE then (i.1, r, s)
  else
    let put (x : Nat × MovRun × State) : (Nat × Nat) × MovRun × State := ((x.1, MK_DESTINATION), x.2.1, x.2.2)
    if mdOp d = 5 then put (s.movPut n r 0 p ((List.range m).map fun k => d.getD (8 + (p + k) % 8) 0))
    else
      let a := movSrcAt d i.2.1 p
      let k := m * 2 ^ mdSw d / 2 ^ mdDw d
      if mdRemS d then
        let t := s.newTag
        let s := t.2.issue (t.2.movOp n d OP_READ (mdSrcNode d) t.1 a k [])
        ((E_NONE, 0), { r with reads := r.reads ++ [⟨t.1, p, m⟩] }, s)
      else
        let x := s.loadAcross a k
        if x.code ≠ E_NONE then ((x.code, MK_SOURCE), r, x.st) else put (x.st.movArrive n r i.2.1 p x.data)

/-- Pieces in turn, to the first that fails, which ends the descriptor (R439).
Assumption log: 120 (DESIGN CHOICE). -/
def State.movAll (s : State) (n : Nat) (r : MovRun) : List (Nat × Nat) → State
  | [] => s.setMovRun n (some r)
  | (p, m) :: rest =>
    let x := s.movPiece n r p m
    if x.1.1 = E_NONE then x.2.2.movAll n x.2.1 rest else x.2.2.movError n x.2.1 x.1.1 x.1.2

/-- The next destination bytes of a running descriptor: all of them, or one burst.
Assumption log: 120 (DESIGN CHOICE). -/
def State.movPump (s : State) (n : Nat) (r : MovRun) (k : Nat) : State :=
  let d := r.desc
  let m := min k (mdTotal d - r.pos)
  let piece := if mdRemS d || mdRemD d then 131072 else 64
  s.movAll n { r with pos := r.pos + m } (movPieces (mdOut d) piece m r.pos m)

/-- The descriptor at the head of a channel's ring. -/
def State.movHead (s : State) (n : Nat) : Option Acc :=
  let g := s.ring (movRing n)
  let h := s.headOf (movRing n)
  if 0 < g.size ∧ h < s.tailOf (movRing n) then some (s.load (g.base + h % g.size) 64) else none

/-- A descriptor starts: it is checked, claims its CRC unit, and moves its bytes unless it is paced (R433, R435, R444).
Assumption log: 122 (DEDUCED). -/
def State.movStart (s : State) (n : Nat) (d : List Byte) : State :=
  let r : MovRun := { desc := d, waitAt := s.now }
  if !s.movOk d then s.movError n r E_MALFORMED MK_DESCRIPTOR
  else
    let go (s : State) : State :=
      let s := (s.setMovState n MV_RUNNING).setMovRun n (some r)
      if mdPaced d then s else s.movPump n r (mdTotal d)
    if mdCrc d then
      match s.chkClaim (mdUnit d) n with
      | some s => go s
      | none => s.setMovState n MV_WAITING
    else go s

/-- The head descriptor of an idle channel starts if it is of the given operation; a reserved one, or one that cannot be read, starts with any.
Assumption log: 121 (DESIGN CHOICE). -/
def State.movRun (s : State) (n op : Nat) : State :=
  if (s.movState n = MV_IDLE ∨ s.movState n = MV_WAITING) ∧ (s.movCh n).run.isNone then
    match s.movHead n with
    | none => s
    | some x =>
      if x.code ≠ E_NONE then x.st.movError n { desc := zeros 64 } x.code MK_DESCRIPTOR
      else if mdOp x.data = op ∨ mdOp x.data = 0 ∨ 6 < mdOp x.data then x.st.movStart n x.data
      else s
  else s

/-- LINEAR (R432). -/
def execLinear (channel : Nat) (s : State) : Res := s.live <| onUnit (channel < 64) (s.movRun channel 1)
/-- STRIDED (R432). -/
def execStrided (channel : Nat) (s : State) : Res := s.live <| onUnit (channel < 64) (s.movRun channel 2)
/-- GATHER (R432). -/
def execGather (channel : Nat) (s : State) : Res := s.live <| onUnit (channel < 64) (s.movRun channel 3)
/-- SCATTER (R432). -/
def execScatter (channel : Nat) (s : State) : Res := s.live <| onUnit (channel < 64) (s.movRun channel 4)
/-- FILL (R432). -/
def execFill (channel : Nat) (s : State) : Res := s.live <| onUnit (channel < 64) (s.movRun channel 5)
/-- FLAG_ONLY (R432). -/
def execFlagOnly (channel : Nat) (s : State) : Res := s.live <| onUnit (channel < 64) (s.movRun channel 6)

/-- Remote source bytes that have arrived are written, in the order of their positions. -/
def State.movReads (s : State) (n : Nat) : List MovRead → State
  | [] => s
  | m :: rest =>
    match (s.movCh n).run, s.finished U_MOVER m.tag with
    | some r, some (code, b) =>
      if code ≠ E_NONE then s.movError n r code MK_SOURCE
      else
        let x := (s.dropFinished U_MOVER m.tag).movArrive n { r with reads := r.reads.drop 1 } 0 m.pos b
        if x.1 = E_NONE then (x.2.2.setMovRun n (some x.2.1)).movReads n rest else x.2.2.movError n x.2.1 x.1 MK_DESTINATION
    | _, _ => s

/-- Remote writes that have completed leave the run; the first that failed ends it. -/
def State.movWrites (s : State) (n : Nat) : List Nat → State
  | [] => s
  | t :: rest =>
    match (s.movCh n).run, s.finished U_MOVER t with
    | some r, some (code, _) =>
      if code ≠ E_NONE then s.movError n r code MK_DESTINATION
      else ((s.dropFinished U_MOVER t).setMovRun n (some { r with writes := r.writes.filter (· != t) })).movWrites n rest
    | _, none => s.movWrites n rest
    | none, _ => s

/-- The flag update of R438 step 3: one FETCH_ADD, local or at DST_NODE. -/
def State.movFlag (s : State) (n : Nat) (r : MovRun) : State :=
  let d := r.desc
  let k := mdFlagInc d * 64
  if !mdFlag d then s.movEnd n r
  else if mdRemD d then
    let t := s.newTag
    let s := t.2.issue { t.2.movOp n d OP_ATOMIC (mdDstNode d) t.1 (mdFlagAddr d) 8 (leBytes 8 k) with sub := 1 }
    s.setMovRun n (some { r with flag := some t.1 })
  else
    let x := s.load (mdFlagAddr d) 8
    if x.code ≠ E_NONE then x.st.movError n r x.code MK_DESTINATION
    else
      let y := x.st.store (mdFlagAddr d) (leBytes 8 (leNat x.data + k))
      if y.1 ≠ E_NONE then y.2.movError n r y.1 MK_DESTINATION else y.2.movEnd n r

/-- A descriptor whose writes are all complete ends: the compare, then the flag (R438). -/
def State.movFinish (s : State) (n : Nat) (r : MovRun) : State :=
  match r.flag with
  | some t =>
    (match s.finished U_MOVER t with
      | some (code, _) => if code = E_NONE then s.movEnd n r else s.movError n r code MK_DESTINATION
      | none => s)
  | none =>
    if mdCrc r.desc ∧ mdCheck r.desc ∧ !s.chkMatch (mdUnit r.desc) then (s.chkCheck (mdUnit r.desc)).movError n r E_MEDIA MK_CHECK
    else s.movFlag n r

/-- MOVER_DESC_DONE: what has arrived from elsewhere is taken, and a descriptor whose writes are complete ends (R438). -/
def State.movDone (s : State) (n : Nat) : State :=
  match (s.movCh n).run with
  | none => s
  | some r =>
    let s := s.movReads n r.reads
    let s := s.movWrites n (((s.movCh n).run.map MovRun.writes).getD [])
    match (s.movCh n).run with
    | some r =>
      if r.pos = mdTotal r.desc ∧ r.reads.isEmpty ∧ r.writes.isEmpty then s.movFinish n r else s
    | none => s

/-- MOVER_DESC_DONE (R438). -/
def execMoverDescDone (channel : Nat) (s : State) : Res := s.live <| onUnit (channel < 64) (s.movDone channel)

/-! Pacing (R435). -/

/-- The requests of a watch: one for each 64 bytes by which its head word has advanced since it was last looked at.
Assumption log: 125 (DEDUCED), 203 (DESIGN CHOICE). -/
def State.watchLine (s : State) (w : Nat) : State :=
  if s.bit (F.MOV_WATCH_EN w) then
    let h := s.num (s.get (F.MOV_WATCH_ADDR w)) 8
    let o := smGet (fun _ => 0) s.mov.seen w
    ({ s with mov := { s.mov with seen := smPut (fun _ => 0) s.mov.seen w h } }).request (80 + w) ((h - o) / 64)
  else s

/-- A channel with a request pending writes one burst. -/
def State.movBurst (s : State) (n : Nat) : State :=
  match (s.movCh n).run with
  | some r =>
    if 0 < r.pend ∧ r.pos < mdTotal r.desc then
      let r := { r with pend := r.pend - 1, waitAt := s.now, raised := false }
      (s.setMovRun n (some r)).movPump n r (mdBurst r.desc)
    else s
  | none => s

/-- PACING_REQUEST: the channels that listen to a line and have a request pending each write one burst. -/
def State.pacing (s : State) (line : Nat) : State :=
  let s := if 80 ≤ line ∧ line < 208 then s.watchLine (line - 80) else s
  (s.mov.chans.filter fun e => match e.2.run with
    | some r => mdPaced r.desc && mdPace r.desc == line
    | none => false).foldl (fun s e => s.movBurst e.1) s

/-- PACING_REQUEST (R435). -/
def execPacingRequest (line : Nat) (s : State) : Res := s.live <| onUnit (line < 225) (s.pacing line)

/-- MOV_TIMER_PERIOD: a timer's period has elapsed; a period of 0 raises none (R435). -/
def execMovTimerPeriod (timer : Nat) (s : State) : Res := s.live <|
  onUnit (timer < 16) (if s.get (F.MOV_TIMER_PERIOD_NS timer) = 0 then s else s.request (64 + timer) 1)

/-- MOV_PACE_STALL: a paced descriptor has waited STALL_LIMIT beats for a request; it is reported once and goes on waiting (R435). -/
def State.movStall (s : State) (n : Nat) : State :=
  match (s.movCh n).run with
  | some r =>
    if mdPaced r.desc ∧ r.pend = 0 ∧ r.pos < mdTotal r.desc ∧ !r.raised then
      let s := s.reach (r.waitAt + beatsNs (s.get F.MOV_LIMITS_STALL_LIMIT))
      (s.setMovRun n (some { r with raised := true })).raise EV_MOV_PACE_STALL n []
    else s
  | none => s

/-- MOV_PACE_STALL (R435). -/
def execMovPaceStall (channel : Nat) (s : State) : Res := s.live <| onUnit (channel < 64) (s.movStall channel)

/-! Controls (R437, R439). -/

/-- MOV_STOP. -/
def State.movStop (s : State) (n : Nat) : State :=
  if nodeChannel n then s
  else if s.movState n = MV_IDLE then s.setMovState n MV_STOPPED
  else if s.movState n = MV_WAITING then s.setMovState n MV_STOPPED
  else if s.movState n = MV_RUNNING then s.setMovCh n { s.movCh n with stop := true }
  else s

/-- MOV_STOP (R437). -/
def execMovStop (channel : Nat) (s : State) : Res := s.live <| onUnit (channel < 64) (s.movStop channel)

/-- MOV_RESUME. -/
def State.movResume (s : State) (n : Nat) : State :=
  if !nodeChannel n ∧ (s.movState n = MV_STOPPED ∨ s.movState n = MV_HALTED) then s.setMovState n MV_IDLE else s

/-- MOV_RESUME (R439). -/
def execMovResume (channel : Nat) (s : State) : Res := s.live <| onUnit (channel < 64) (s.movResume channel)

/-- MOV_SKIP. -/
def State.movSkip (s : State) (n : Nat) : State :=
  if !nodeChannel n ∧ s.movState n = MV_HALTED then
    (s.headAdvance (movRing n) (s.headOf (movRing n) + 64)).setMovState n MV_IDLE
  else s

/-- MOV_SKIP (R439). -/
def execMovSkip (channel : Nat) (s : State) : Res := s.live <| onUnit (channel < 64) (s.movSkip channel)

/-- MOV_KICK: one pending request for a running paced descriptor (R435). -/
def State.movKick (s : State) (n : Nat) : State :=
  match (s.movCh n).run with
  | some r =>
    if mdPaced r.desc ∧ !nodeChannel n then
      let p := min 65535 (r.pend + 1)
      (s.setMovRun n (some { r with pend := p })).bump (F.MOV_CH_CNT_REQ_LOST n) (r.pend + 1 - p)
    else s
  | none => s

/-- MOV_KICK (R435). -/
def execMovKick (channel : Nat) (s : State) : Res := s.live <| onUnit (channel < 64) (s.movKick channel)

/-- A reset of the movers leaves every enabled channel HALTED (R440). -/
def State.movReset (s : State) : State :=
  (List.range 64).foldl (fun s n =>
    if s.bit (F.MOV_CH_CFG_EN n) then
      let s := match (s.movCh n).run with
        | some r => (s.movForget r).movRelease n r.desc
        | none => s
      let wrote := ((s.movCh n).run.map MovRun.wrote).getD 0
      let s := (s.setMovRun n none).setMovCh n {}
      (((s.setMovState n MV_HALTED).set (F.MOV_CH_ERR_CODE n) 0).set (F.MOV_CH_ERR_KIND n) MK_RESET).set (F.MOV_CH_ERR_DONE_BYTES n) wrote
    else s) s

end Sys2Proof.Machine
end

