-- ==== Sys2Proof/Machine/Tokens.lean ====
section
/-! DEFINITION. The tokeniser (R301 to R308) over the bytes of its tables: UTF-8, pieces, merges. -/

namespace Sys2Proof.Machine

/-! Tables (R301, R302). -/

/-- Tokens of a tokeniser. -/
def tkVocab (t : List Byte) : Nat := at_ t 0 4
/-- The token of a byte. -/
def tkByte (t : List Byte) (b : Byte) : Nat := at_ t 8 4 + b.toNat
/-- FFFD_TOKEN. -/
def tkFffd (t : List Byte) : Nat := at_ t 12 4
/-- The end-of-sequence tokens in use. -/
def tkEos (t : List Byte) : List Nat := ((List.range 4).map fun i => at_ t (16 + 4 * i) 4).filter (· != 0xFFFFFFFF)
/-- The tokens before those of a QUERY_TEXT. -/
def tkPrefix (t : List Byte) : List Nat := ((List.range 4).map fun i => at_ t (32 + 4 * i) 4).filter (· != 0xFFFFFFFF)
/-- Largest piece in bytes. -/
def tkMaxPiece (t : List Byte) : Nat := at_ t 48 2
/-- Largest token count of a QUERY_TEXT. -/
def tkMaxQuery (t : List Byte) : Nat := at_ t 50 2

/-- The string of a token. -/
def tkStr (t : List Byte) (i : Nat) : List Byte :=
  let e := at_ t 56 4 + 8 * i
  (t.drop (at_ t 60 4 + at_ t e 4)).take (at_ t (e + 4) 2)

/-- Whether a token is a control token. -/
def tkCtrl (t : List Byte) (i : Nat) : Bool := at_ t (at_ t 56 4 + 8 * i + 6) 1 % 2 == 1

/-- The strings of the control tokens. -/
def tkCtrls (t : List Byte) : List (List Byte) := ((List.range (tkVocab t)).filter (tkCtrl t)).map (tkStr t)

/-- The plain token of a string. -/
def tkFind (t : List Byte) (x : List Byte) : Option Nat :=
  (List.range (tkVocab t)).find? fun i => !tkCtrl t i && tkStr t i == x

/-- The rank of a pair of tokens (R302). -/
def tkRank (t : List Byte) (x y : Nat) : Option Nat :=
  (List.range (at_ t 4 4)).find? fun r => at_ t (at_ t 64 4 + 12 * r) 4 == x && at_ t (at_ t 64 4 + 12 * r + 4) 4 == y

/-- The result of a merge. -/
def tkMerged (t : List Byte) (r : Nat) : Nat := at_ t (at_ t 64 4 + 12 * r + 8) 4

/-- The code point of a well-formed character. -/
def codePoint (c : List Byte) : Nat :=
  match c with
  | [a] => a.toNat
  | [a, b] => a.toNat % 32 * 64 + b.toNat % 64
  | [a, b, d] => a.toNat % 16 * 4096 + b.toNat % 64 * 64 + d.toNat % 64
  | [a, b, d, e] => a.toNat % 8 * 262144 + b.toNat % 64 * 4096 + d.toNat % 64 * 64 + e.toNat % 64
  | _ => 0

/-- The class of a character; 15 where no range covers it (R306). -/
def tkClass (t : List Byte) (c : List Byte) : Nat :=
  match (List.range (at_ t 52 4)).find? fun i =>
      decide (at_ t (at_ t 68 4 + 12 * i) 4 ≤ codePoint c) && decide (codePoint c ≤ at_ t (at_ t 68 4 + 12 * i + 4) 4) with
  | some i => at_ t (at_ t 68 4 + 12 * i + 8) 1
  | none => 15

/-! UTF-8 (R304, R305). -/

/-- A decoded item: a well-formed character, or a maximal subpart of an ill-formed sequence. -/
inductive Utf where
  | chr (b : List Byte)
  | bad (b : List Byte)
deriving DecidableEq, Repr

/-- The length of the character that a byte leads; 0 for a byte that no row accepts as a lead. -/
def utfLen (b : Byte) : Nat :=
  let v := b.toNat
  if v < 0x80 then 1 else if v < 0xC2 then 0 else if v < 0xE0 then 2 else if v < 0xF0 then 3 else if v ≤ 0xF4 then 4 else 0

/-- Whether a byte continues an incomplete sequence. -/
def utfFits (carry : List Byte) (b : Byte) : Bool :=
  let v := b.toNat
  match carry with
  | [a] =>
    let lo := if a.toNat = 0xE0 then 0xA0 else if a.toNat = 0xF0 then 0x90 else 0x80
    let hi := if a.toNat = 0xED then 0x9F else if a.toNat = 0xF4 then 0x8F else 0xBF
    decide (lo ≤ v) && decide (v ≤ hi)
  | _ => decide (0x80 ≤ v) && decide (v ≤ 0xBF)

/-- A byte met with nothing carried. -/
def utfLead (b : Byte) : List Utf × List Byte :=
  if utfLen b = 1 then ([Utf.chr [b]], []) else if utfLen b = 0 then ([Utf.bad [b]], []) else ([], [b])

/-- One more byte (R304): what it completes or cuts short, and what is carried on. -/
def utfByte (carry : List Byte) (b : Byte) : List Utf × List Byte :=
  match carry with
  | [] => utfLead b
  | a :: _ =>
    if utfFits carry b then
      (if carry.length + 1 = utfLen a then ([Utf.chr (carry ++ [b])], []) else ([], carry ++ [b]))
    else
      let x := utfLead b
      (Utf.bad carry :: x.1, x.2)

/-- The end of a text: an incomplete sequence is invalid (R303). -/
def utfEnd (carry : List Byte) : List Utf := if carry.isEmpty then [] else [Utf.bad carry]

/-! Pieces and merges (R306, R307). -/

/-- The pair of lowest rank, the leftmost of equals: rank and position. -/
def bestPair (t : List Byte) : Nat → List Nat → Option (Nat × Nat)
  | i, x :: y :: r =>
    match tkRank t x y, bestPair t (i + 1) (y :: r) with
    | some k, some (k', j) => if k' < k then some (k', j) else some (k, i)
    | some k, none => some (k, i)
    | none, z => z
  | _, _ => none

/-- The merges of a piece (R307). -/
def mergePiece (t : List Byte) : Nat → List Nat → List Nat
  | 0, s => s
  | fuel + 1, s =>
    match bestPair t 0 s with
    | none => s
    | some (r, i) => mergePiece t fuel (s.take i ++ tkMerged t r :: s.drop (i + 2))

/-- The first symbols of a character. -/
def tkSymbols (t : List Byte) (c : List Byte) : List Nat :=
  match tkFind t c with
  | some i => [i]
  | none => c.map (tkByte t)

/-- The tokens of a finished piece. -/
def pieceTokens (t : List Byte) (p : List (List Byte)) : List Nat :=
  let s := p.flatMap (tkSymbols t)
  mergePiece t s.length s

/-- Characters of one class at the end of a piece. -/
def endRun (t : List Byte) (cls : Nat) (p : List (List Byte)) : Nat := (p.reverse.takeWhile fun c => tkClass t c == cls).length

/-- Whether a character starts a new piece (R306). -/
def splits (t : List Byte) (p : List (List Byte)) (c : List Byte) : Bool :=
  match p.getLast? with
  | none => false
  | some a =>
    let ca := tkClass t a
    let cb := tkClass t c
    let mx := at_ t (at_ t 72 4 + 256 + ca) 1
    at_ t (at_ t 72 4 + 16 * ca + cb) 1 == 1 || (ca == cb && mx != 0 && decide (mx ≤ endRun t ca p)) ||
      decide (tkMaxPiece t < p.flatten.length + c.length)

/-! User text (R303, R305, R308). -/

/-- What user text has given: its tokens, and the counts of R305 and R308. -/
structure TxtOut where
  toks : List Nat := []
  seqs : Nat := 0
  bytes : Nat := 0
  esc : Nat := 0
deriving DecidableEq, Repr

/-- The unfinished piece is completed. -/
def closePiece (t : List Byte) (x : TxtIn × TxtOut) : TxtIn × TxtOut :=
  ({ x.1 with piece := [] }, { x.2 with toks := x.2.toks ++ pieceTokens t x.1.piece })

/-- One decoded item joins the text. -/
def feedItem (t : List Byte) (rep : Bool) (x : TxtIn × TxtOut) (u : Utf) : TxtIn × TxtOut :=
  match u with
  | .chr c =>
    let x := if splits t x.1.piece c then closePiece t x else x
    ({ x.1 with piece := x.1.piece ++ [c] }, x.2)
  | .bad b =>
    let x := closePiece t x
    (x.1, { x.2 with toks := x.2.toks ++ (if rep then [tkFffd t] else b.map (tkByte t)), seqs := x.2.seqs + 1,
                     bytes := x.2.bytes + b.length })

/-- The positions among the last bytes at which a control token's string ends now for the first time. -/
def escapes (ctrls : List (List Byte)) : List Byte → Nat
  | [] => 0
  | b :: r =>
    (if ctrls.contains (b :: r) && !ctrls.any (fun c => decide (c.length < (b :: r).length) && c.isPrefixOf (b :: r)) then 1 else 0) +
      escapes ctrls r

/-- One byte of user text. -/
def feedByte (t : List Byte) (ctrls : List (List Byte)) (rep : Bool) (x : TxtIn × TxtOut) (b : Byte) : TxtIn × TxtOut :=
  let rc := x.1.recent ++ [b]
  let u := utfByte x.1.carry b
  let x := ({ x.1 with carry := u.2, recent := rc.drop (rc.length - 63) }, { x.2 with esc := x.2.esc + escapes ctrls rc })
  u.1.foldl (feedItem t rep) x

/-- Bytes of user text. -/
def feedText (t : List Byte) (rep : Bool) (x : TxtIn) (b : List Byte) : TxtIn × TxtOut :=
  let ctrls := tkCtrls t
  b.foldl (feedByte t ctrls rep) (x, {})

/-- The end of user text. -/
def endText (t : List Byte) (rep : Bool) (x : TxtIn × TxtOut) : TxtIn × TxtOut :=
  let y := closePiece t ((utfEnd x.1.carry).foldl (feedItem t rep) x)
  ({}, y.2)

end Sys2Proof.Machine
end

