-- ==== Sys2Proof/Machine/Stage.lean ====
section
/-! DEFINITION. The checks of staging (R57 to R71, R123, R127 to R133, R138, R140, R141, R301, R302, R306, R374, R400, R427, R533). -/

namespace Sys2Proof.Machine

/-! Result codes (R71). -/

def IR_OK : Nat := 0
def IR_FORMAT : Nat := 1
def IR_SIGNATURE : Nat := 2
def IR_DIGEST : Nat := 3
def IR_ABSENT : Nat := 4
def IR_TILES : Nat := 5
def IR_CHANGED : Nat := 6
def IR_BUSY : Nat := 7
def IR_SIZE : Nat := 8
def IR_ROLLBACK : Nat := 9

/-- A check that must hold, then the checks after it: the first that fails gives the result. -/
def need (ok : Bool) (code : Nat) (next : Nat) : Nat := if ok then next else code

/-- The first result other than OK. -/
def firstFail : List Nat → Nat
  | [] => IR_OK
  | c :: r => if c = IR_OK then firstFail r else c

/-- Whether all elements of a list of numbers differ. -/
def allDiffer (l : List Nat) : Bool := decide l.Nodup

/-! Tile IDs (R24, R25). -/

/-- The linear number of a tile ID; `none` for one that names no tile. -/
def tileOfId (v : Nat) : Option Nat :=
  if v < 1024 ∧ v / 16 % 16 < 12 ∧ v % 16 < 14 then some (v / 256 * 168 + v / 16 % 16 * 14 + v % 16) else none

/-! PANEL_MAP (R64). -/

/-- Entry i of a PANEL_MAP body. -/
def pmEntry (b : List Byte) (i : Nat) : List Byte := (b.drop (8 + 96 * i)).take 96
/-- Entries of a PANEL_MAP body. -/
def pmEntries (b : List Byte) : List (List Byte) := (List.range (at_ b 0 4)).map (pmEntry b)
/-- The tile set of an entry. -/
def pmTiles (e : List Byte) : List Nat := (List.range Config.numTiles).filter fun t => at_ e (8 + t / 8) 1 / 2 ^ (t % 8) % 2 == 1

/-- The rules of a PANEL_MAP. -/
def checkPanelMap (own : Bool) (b : List Byte) : Nat :=
  let n := at_ b 0 4
  let es := pmEntries b
  need (decide (n ≤ 64)) IR_SIZE <|
  need (es.all fun e => decide (at_ e 2 2 ≤ 672)) IR_SIZE <|
  need (own && decide (1 ≤ n) && b.length == 8 + 96 * n && allDiffer (es.map fun e => at_ e 0 1)) IR_FORMAT <|
  need (es.all fun e => decide (at_ e 0 1 ≤ 63) && decide (1 ≤ at_ e 1 1) && decide (at_ e 1 1 ≤ 8) && decide (1 ≤ at_ e 2 2) &&
    at_ e 2 2 == (pmTiles e).length) IR_FORMAT <|
  need (allDiffer (es.flatMap pmTiles)) IR_TILES IR_OK

/-! ROUTE_MAP (R67) and TENANT_MAP (R69). -/

/-- The entries of a ROUTE_MAP body. -/
def routesOf (b : List Byte) : List Route :=
  (List.range (at_ b 4 4)).map fun i =>
    let o := 16 + 8 * i
    ⟨at_ b o 1, at_ b (o + 1) 1, at_ b (o + 2) 2, at_ b (o + 4) 2⟩

/-- The rules of a ROUTE_MAP. -/
def checkRoutes (own : Bool) (epoch : Nat) (b : List Byte) : Nat :=
  let n := at_ b 4 4
  need (decide (n ≤ 262144)) IR_SIZE <|
  need (own && at_ b 0 4 == epoch && b.length == 16 + 8 * n) IR_FORMAT <|
  need ((routesOf b).all (fun r => decide (r.kind ≤ 1)) &&
    allDiffer ((routesOf b).map fun r => (r.kind * 256 + r.object) * 65536 + r.shard)) IR_FORMAT IR_OK

/-- The entries of a TENANT_MAP body. -/
def tenantsOf (b : List Byte) : List TenantEnt :=
  (List.range (at_ b 0 4)).map fun i =>
    let o := 8 + 8 * i
    ⟨at_ b o 2, at_ b (o + 2) 1, at_ b (o + 3) 1⟩

/-- The rules of a TENANT_MAP. -/
def checkTenants (own : Bool) (b : List Byte) : Nat :=
  let n := at_ b 0 4
  need (decide (n ≤ 255)) IR_SIZE <|
  need (own && decide (1 ≤ n) && b.length == 8 + 8 * n) IR_FORMAT <|
  need ((tenantsOf b).all (fun e => decide (1 ≤ e.node)) && allDiffer ((tenantsOf b).map TenantEnt.global)) IR_FORMAT IR_OK

/-! RING (R138, R123). -/

/-- Entries of a RING body. -/
def ringEntries (b : List Byte) : List (List Byte) := (List.range (at_ b 0 4)).map fun i => (b.drop (8 + 32 * i)).take 32
def reBase (e : List Byte) : Nat := at_ e 0 6
def reLog (e : List Byte) : Nat := at_ e 6 1
def reId (e : List Byte) : Nat := at_ e 8 2
def reProd (e : List Byte) : Nat := at_ e 10 1
def reOwn (e : List Byte) : Nat := at_ e 11 1

/-- Where a ring lies, its two words included: the tile whose data region holds it, or 1,000 and the stack whose window does. -/
def rePlace (e : List Byte) : Option Nat :=
  let a := reBase e
  let n := 2 ^ reLog e + 16
  if a + n ≤ 0xA8000000 then (if a % 0x400000 + n ≤ graphOff then some (a / 0x400000) else none)
  else if 0x001000000000 ≤ a ∧ a + n ≤ 0x007000000000 then
    if (a - 0x001000000000) % 0x800000000 + n ≤ 0x800000000 then some (1000 + (a - 0x001000000000) / 0x800000000) else none
  else none

/-- Whether a ring entry is well formed.
Assumption log: 176 (DEDUCED). -/
def reOk (e : List Byte) : Bool :=
  decide (12 ≤ reLog e) && reBase e % 2 ^ reLog e == 0 && decide (reId e ≤ 8191) && decide (reProd e ≤ 2) &&
    decide (1 ≤ reOwn e) && decide (reOwn e ≤ 2) && (rePlace e).isSome && (reProd e != 1 || (tileOfId (at_ e 12 2)).isSome) &&
    (reOwn e != 1 || ((tileOfId (at_ e 14 2)).isSome && rePlace e == tileOfId (at_ e 14 2)))

/-- The rules of a RING section. -/
def State.checkRings (s : State) (own : Bool) (b : List Byte) : Nat :=
  let n := at_ b 0 4
  let es := ringEntries b
  need (decide (n ≤ 8192)) IR_SIZE <|
  need (es.all fun e => decide (reLog e ≤ 24)) IR_SIZE <|
  need (own && decide (1 ≤ n) && b.length == 8 + 32 * n && es.all reOk && allDiffer (es.map reId)) IR_FORMAT <|
  need ((List.range Config.numTiles).all fun t => decide ((es.filter fun e => reOwn e == 1 && tileOfId (at_ e 14 2) == some t).length ≤ 8))
    IR_FORMAT <|
  need (es.all fun e => match rePlace e with
    | some k => decide (k < 1000 + s.nStacks)
    | none => true) IR_ABSENT IR_OK

/-! Register-write entries (R61, R427). -/

/-- The entries of 16 bytes from an offset of a body on: control offset and value. -/
def writeEntries (base : Nat) (b : List Byte) (from_ : Nat) : List (Nat × Nat) :=
  (List.range ((b.length - from_) / 16)).map fun i => (base + at_ b (from_ + 16 * i) 4, at_ b (from_ + 16 * i + 8) 8)

/-- Whether a control offset lies in one of the blocks that begin at the given offsets. -/
def inBlocks (bs : List Nat) (off : Nat) : Bool := blockTable.any fun e => bs.contains e.1 && decide (e.1 ≤ off) && decide (off ≤ e.2.1)

/-- The blocks that a NODE_CFG entry may name: NCTL_, BEAT_, TIER_, FL_, PORT_, SKO_, MOV_, EVT_, TEL_. -/
def nodeBlocks : List Nat :=
  [0xF00000000000, 0xF00001000000, 0xF00030000000, 0xF00040000000, 0xF00040100000, 0xF00050000000, 0xF00051000000, 0xF00060000000,
   0xF00080000000, 0xF00090000000]

/-- The blocks that an ENGINE_CFG entry may name: LS_, WLK_, SEL_, TBL_, TXT_. -/
def engineBlocks : List Nat := [0xF00070000000, 0xF00070800000, 0xF00071000000, 0xF00072000000, 0xF00073000000]

/-- Whether a register has a field that only writes reach. -/
def hasWo (r : RegDesc) : Bool := r.fields.any fun f => f.acc == .wo || f.acc == .hid

/-- Whether an entry may name the register at an offset. -/
def cfgEntryOk (blocks : List Nat) (extra : Nat) (e : Nat × Nat) : Bool :=
  (inBlocks blocks e.1 || e.1 == extra) && !(decide (0xF00001001000 ≤ e.1) && decide (e.1 < 0xF00001003000)) &&
    (match findReg e.1 with
      | some r => !hasWo r
      | none => false)

/-- Whether a TRAFFIC entry names a register of the TS_ block with an RW field. -/
def trafficEntryOk (e : Nat × Nat) : Bool :=
  inBlocks [0xF00052000000] e.1 &&
    (match findReg e.1 with
      | some r => r.fields.any fun f => f.acc == .rw
      | none => false)

/-! The Skorath record (R374, R400). -/

/-- The Ethertypes that raw mode may not take. -/
def badTypes : List Nat := [0x0800, 0x86DD, 0x8808, 0x8100, 0x88A8, 0x88E5, 0x88F7]

/-- Whether the fields of a Skorath record that its mode uses keep their rules. -/
def skoOk (b : List Byte) : Bool :=
  let m := at_ b 0 1
  decide (m ≤ 2) && decide (at_ b 2 2 ≤ 32767) &&
    (if m = 2 then decide (0x0600 ≤ at_ b 8 2) && !badTypes.contains (at_ b 8 2)
     else decide (1024 ≤ at_ b 4 2) && decide (1024 ≤ at_ b 6 2) && decide (at_ b 6 2 ≤ 65520) && at_ b 6 2 % 16 == 0 &&
       (m == 0 || ((b.drop 20).take 12).all (· == 0)))

/-- The rules of a NODE_CFG body. -/
def checkNodeCfg (own : Bool) (b : List Byte) : Nat :=
  need ((List.range 56).all fun i => decide (at_ b (256 + 4 * i + 2) 1 ≤ 4)) IR_SIZE <|
  need (own && decide (512 ≤ b.length) && b.length % 16 == 0 && skoOk b) IR_FORMAT <|
  need ((writeEntries 0xF00000000000 b 512).all (cfgEntryOk nodeBlocks Reg.IMG_CFG)) IR_FORMAT IR_OK

/-! TEXT_TABLES (R301, R302, R306). -/

/-- Whether an array of a tokeniser lies inside it. -/
def tkArray (t : List Byte) (off n : Nat) : Bool := decide (at_ t off 4 + n ≤ t.length)

/-- The limits of a tokeniser. -/
def tkLimits (t : List Byte) : Bool :=
  let v := tkVocab t
  decide (v ≤ 262144) && decide (at_ t 4 4 ≤ v - 256) && decide (tkMaxPiece t ≤ 255) && decide (tkMaxQuery t ≤ 4096) &&
    decide (at_ t 52 4 ≤ 65536) && (List.range v).all fun i => decide (at_ t (at_ t 56 4 + 8 * i + 4) 2 ≤ 64)

/-- The layout of a tokeniser. -/
def tkLayout (t : List Byte) : Bool :=
  let v := tkVocab t
  decide (128 ≤ t.length) && decide (256 ≤ v) && decide (4 ≤ tkMaxPiece t) && decide (1 ≤ tkMaxQuery t) &&
    tkArray t 56 (8 * v) && tkArray t 64 (12 * at_ t 4 4) && tkArray t 68 (12 * at_ t 52 4) && tkArray t 72 272 &&
    (List.range v).all fun i => decide (1 ≤ at_ t (at_ t 56 4 + 8 * i + 4) 2) &&
      decide (at_ t 60 4 + at_ t (at_ t 56 4 + 8 * i) 4 + at_ t (at_ t 56 4 + 8 * i + 4) 2 ≤ t.length)

/-- A token ID list whose entries are below VOCAB or unused. -/
def tkIdsOk (t : List Byte) (off : Nat) : Bool :=
  (List.range 4).all fun i => decide (at_ t (off + 4 * i) 4 < tkVocab t) || at_ t (off + 4 * i) 4 == 0xFFFFFFFF

/-- Merge r: left, right, result. -/
def tkMerge (t : List Byte) (r : Nat) : Nat × Nat × Nat :=
  let o := at_ t 64 4 + 12 * r
  (at_ t o 4, at_ t (o + 4) 4, at_ t (o + 8) 4)

/-- Whether a merge keeps the rules of R302. -/
def tkMergeOk (t : List Byte) (m : Nat × Nat × Nat) : Bool :=
  let v := tkVocab t
  decide (m.1 < v) && decide (m.2.1 < v) && decide (m.2.2 < v) && !tkCtrl t m.1 && !tkCtrl t m.2.1 && !tkCtrl t m.2.2 &&
    tkStr t m.2.2 == tkStr t m.1 ++ tkStr t m.2.1

/-- The class ranges are ascending and disjoint, within Unicode, of a class that exists. -/
def tkRangesOk (t : List Byte) : Bool :=
  let n := at_ t 52 4
  let lo (i : Nat) : Nat := at_ t (at_ t 68 4 + 12 * i) 4
  let hi (i : Nat) : Nat := at_ t (at_ t 68 4 + 12 * i + 4) 4
  (List.range n).all fun i => decide (lo i ≤ hi i) && decide (hi i ≤ 0x10FFFF) && decide (at_ t (at_ t 68 4 + 12 * i + 8) 1 ≤ 15) &&
    (i + 1 == n || decide (hi i < lo (i + 1)))

/-- The content of a tokeniser (R302, R306). -/
def tkContent (t : List Byte) : Bool :=
  let v := tkVocab t
  let plain := (List.range v).filter fun i => !tkCtrl t i
  let merges := (List.range (at_ t 4 4)).map (tkMerge t)
  (List.range 256).all (fun b =>
      let i := at_ t 8 4 + b
      decide (i < v) && at_ t (at_ t 56 4 + 8 * i + 6) 1 / 2 % 2 == 1 && tkStr t i == [BitVec.ofNat 8 b]) &&
    plain.all (fun i => tkFind t (tkStr t i) == some i) && merges.all (tkMergeOk t) &&
    allDiffer (merges.map fun m => m.1 * 2 ^ 32 + m.2.1) && tkIdsOk t 16 && tkIdsOk t 32 &&
    decide (tkFffd t < v) && !tkCtrl t (tkFffd t) && tkStr t (tkFffd t) == [0xEF, 0xBF, 0xBD] && tkRangesOk t &&
    (List.range 256).all fun i => decide (at_ t (at_ t 72 4 + i) 1 ≤ 1)

/-- The rules of a TEXT_TABLES body. -/
def checkText (own : Bool) (b : List Byte) : Nat :=
  let n := at_ b 0 4
  let dir := (List.range n).map fun i => (at_ b (8 + 8 * i) 4, at_ b (12 + 8 * i) 4)
  let ts := dir.map fun e => (b.drop e.1).take e.2
  need (decide (n ≤ 8)) IR_SIZE <|
  need (ts.all tkLimits) IR_SIZE <|
  need (own && decide (1 ≤ n) && decide (8 + 8 * n ≤ b.length) && dir.all (fun e => e.1 % 64 == 0 && decide (e.1 + e.2 ≤ b.length)) &&
    (dir.map fun e => e.1 + e.2).foldl max 0 == b.length) IR_FORMAT <|
  need (ts.all tkLayout && ts.all tkContent) IR_FORMAT IR_OK

/-! OP_GRAPH (R127 to R133). -/

/-- The formats of R131. -/
def fmtListed (f : Nat) : Bool := decide (1 ≤ f) && decide (f ≤ 0x10)

/-- Whether the operand pair, group size and scale kinds are listed (R94, R95). -/
def pairOk (a b : Slot) (g : Nat) : Bool :=
  let int (f : Nat) : Bool := f == 1 || f == 2
  let fp8 (f : Nat) : Bool := f == 5 || f == 6
  let mx (f : Nat) : Bool := f == 7 || f == 8 || f == 9
  let gs := g == 32 || g == 64 || g == 128
  let bf (k : Nat) : Bool := k == 0 || k == 1
  if (int a.fmt && int b.fmt) || (fp8 a.fmt && fp8 b.fmt) then gs && bf a.scaleKind && bf b.scaleKind
  else if mx a.fmt && mx b.fmt then g == 32 && a.scaleKind == 2 && b.scaleKind == 2
  else if (a.fmt == 0x0A && b.fmt == 0x0A) || (a.fmt == 0x0B && b.fmt == 0x0B) then gs && a.scaleKind == 0 && b.scaleKind == 0
  else false

/-- The slots that an operator needs (R133). -/
def slotsNeeded (d : Desc) : List Slot :=
  match d.op with
  | 0x01 | 0x0A => [d.s0, d.s1, d.s2]
  | 0x02 | 0x03 | 0x05 | 0x07 | 0x0E | 0x10 => [d.s0, d.s2]
  | 0x04 => [d.s0, d.s2] ++ (if d.subop = 1 then [d.s1] else [])
  | 0x06 => [d.s0, d.s1, d.s2] ++ (if d.subop = 3 then [d.s3] else [])
  | 0x08 => [d.s0, d.s2] ++ (if d.subop = 2 then [] else [d.s1])
  | 0x09 | 0x0B | 0x0C | 0x0D => [d.s0, d.s1, d.s2, d.s3]
  | 0x12 => [d.s0, d.s1, d.s2] ++ (if d.subop % 4 = 1 then [] else [d.s3])
  | 0x0F => [d.s0, d.s1, d.s2]
  | 0x11 => [d.s0, d.s1]
  | _ => [d.s0]

/-- The slots that an operator writes, with the bytes that its parameters give it (R132, R133). -/
def slotsWritten (d : Desc) : List (Slot × Nat) :=
  let n := d.par 0 * d.par 1
  match d.op with
  | 0x01 => [(d.s2, if d.subop = 1 then 4 * n * ((d.par 2 + d.par 4 - 1) / d.par 4) else elemBytes d.s2.fmt n)]
  | 0x02 => [(d.s2, elemBytes d.s2.fmt (d.par 1))]
  | 0x03 | 0x05 => [(d.s2, 4 * n)]
  | 0x04 | 0x06 | 0x07 | 0x08 => [(d.s2, elemBytes d.s2.fmt n)]
  | 0x09 => [(d.s2, elemBytes d.s2.fmt n)]
  | 0x0F => [(d.s2, elemBytes d.s2.fmt (d.par 1))]
  | 0x10 => [(d.s2, 4)]
  | 0x11 => [(d.s1, 4 * d.par 1)] ++ (if d.s2.mode = 3 then [] else [(d.s2, d.par 1)])
  | 0x12 =>
    let w := if d.subop / 4 % 4 = 2 then d.par 0 else 2 * d.par 0
    [(d.s0, elemBytes d.s0.fmt (d.par 0)), (d.s2, w)] ++ (if d.subop % 4 = 1 then [] else [(d.s3, w)])
  | 0x13 => []
  | _ => [(d.s2, 1)]

/-- A number in a range.
Assumption log: 176 (DEDUCED). -/
def within (v lo hi : Nat) : Bool := decide (lo ≤ v) && decide (v ≤ hi)

/-- The parameters and functions of an operator (R133), those that a descriptor gives.
Assumption log: 31 (DESIGN CHOICE). -/
def paramsOk (d : Desc) : Bool :=
  let p := d.par
  match d.op with
  | 0x01 => within (p 0) 1 65536 && within (p 1) 1 4096 && within (p 2) 32 65536 && p 2 % 32 == 0 && pairOk d.s0 d.s1 (p 3) &&
      within (p 4) 1 (p 2) && p 4 % 32 == 0 && p 4 % p 3 == 0 && decide (d.subop ≤ 1)
  | 0x02 => within (p 0) 1 256 && within (p 1) 1 65536
  | 0x03 => [16, 32, 64, 128, 256].contains (p 2) && within (p 1) 1 65536 && p 1 % p 2 == 0 && decide (d.subop < 4)
  | 0x04 => decide (d.subop ≤ 2) && (d.subop == 2 || [32, 64, 128].contains (p 2))
  | 0x06 => decide (d.subop ≤ 6)
  | 0x07 => decide (d.subop ≤ 3)
  | 0x08 => within (p 0) 1 65536 && within (p 1) 32 65536 && decide (d.subop ≤ 2)
  | 0x09 => within (p 0) 32 256 && p 0 % 32 == 0 && within (p 1) 1 256 && within (p 2) 1 65536
  | 0x0A => [8, 16, 24, 32, 48, 64, 96, 128].contains (p 0) && decide (p 1 ≤ 1)
  | 0x0C => within (p 0) 1 256 && within (p 1) 1 1048576 && within (p 2) 1 4096
  | 0x0D => within (p 0) 1 16384 && within (p 1) 1 4096
  | 0x0E => within (p 0) 1 1048576 && within (p 1) 1 256
  | 0x0F => within (p 1) 1 262144
  | 0x10 => within (p 0) 1 256 && decide (d.subop ≤ 1)
  | 0x11 => within (p 1) 1 65536
  | 0x12 => decide (d.subop % 4 ≤ 1) && (d.subop / 4 % 4 == 1 || d.subop / 4 % 4 == 2)
  | 0x13 => decide (p 1 ≤ 65504) && decide (d.outClass ≤ 15) && decide (1 ≤ d.outCredits)
  | _ => true

/-- An output goes through MODE 1, or through an absolute address inside the data region of every tile that runs the graph (R132).
Assumption log: 175 (DEDUCED). -/
def outputOk (tiles : List Nat) (w : Slot × Nat) : Bool :=
  (w.1.mode == 1 || w.1.mode == 0) && tiles.all fun t => (outOff t w.1.mode w.1.addr (max 1 w.2)).isSome

/-- Whether an absolute address names a window of the node offset map, absent stacks included.
Assumption log: 176 (DEDUCED). -/
def slotWindow (a : Nat) : Bool :=
  decide (a < 0xA8000000) || (decide (0x001000000000 ≤ a) && decide (a < 0x007000000000)) || (decide (tierBase ≤ a) && decide (a < 0x500000000000))

/-- Whether the fields of an operand slot in use are listed, and its place exists (R130, R132). -/
def slotOk (x : Slot) : Bool :=
  fmtListed x.fmt && decide (x.scaleKind ≤ 2) && (x.mode != 1 || decide (x.addr < graphOff)) && (x.mode != 0 || slotWindow x.addr)

/-- The slots in use. -/
def slotsUsed (d : Desc) : List Slot := [d.s0, d.s1, d.s2, d.s3].filter fun x => x.mode != 3

/-- The formats that R133 (and R118, R119 for gradients and weights) names for an operator's slots. -/
def fmtsOk (d : Desc) : Bool :=
  let f32 (x : Slot) : Bool := x.fmt == 0x0C
  let ent (x : Slot) : Bool := x.fmt == 0x0E
  let grad (x : Slot) : Bool := x.fmt == 0x0D || x.fmt == 0x05
  match d.op with
  | 0x03 => f32 d.s0 && f32 d.s2
  | 0x04 | 0x0A | 0x0F | 0x10 => f32 d.s0
  | 0x05 => f32 d.s2
  | 0x0B | 0x0D => ent d.s2
  | 0x0E => ent d.s0 && ent d.s2
  | 0x11 => f32 d.s0 && f32 d.s1 && (d.s2.mode == 3 || grad d.s2)
  | 0x12 => (f32 d.s0 || d.s0.fmt == 0x0B) && grad d.s1
  | _ => true

/-- Whether a descriptor keeps the rules that staging checks.
Assumption log: 176 (DEDUCED). -/
def descOk (tiles : List Nat) (d : Desc) : Bool :=
  within d.op 1 0x13 && paramsOk d && fmtsOk d && (slotsNeeded d).all (fun x => x.mode != 3) && (slotsWritten d).all (outputOk tiles) &&
    (slotsUsed d).all fun x => d.op == 0x13 || slotOk x

/-- The absolute operands of a descriptor name stacks that the variant has. -/
def State.slotsPresent (s : State) (d : Desc) : Bool :=
  (slotsUsed d).all fun x => x.mode != 0 || !(decide (0x001000000000 ≤ x.addr) && decide (x.addr < 0x007000000000)) ||
    decide ((x.addr - 0x001000000000) / 0x800000000 < s.nStacks)

/-- Entries of a graph. -/
def gEntries (b : List Byte) : Nat := at_ b 2 2
/-- Descriptors of a graph. -/
def gDescs (b : List Byte) : List Desc :=
  (List.range (at_ b 0 2)).map fun i => descOf ((b.drop (descOff (gEntries b) i)).take 128)

/-- A chain from a descriptor on; `none` where it leaves the body, visits a descriptor twice or is longer than 64 (R128). A chain that visits
one twice never ends. -/
def gChain (ds : List Desc) : Nat → Nat → Option (List Desc)
  | 0, _ => none
  | fuel + 1, i =>
    match ds[i]? with
    | none => none
    | some d => if d.last then some [d] else (gChain ds fuel d.next).map (d :: ·)

/-- The chains of a graph. -/
def gChains (b : List Byte) : List (Option (List Desc)) :=
  let ds := gDescs b
  (List.range (gEntries b)).map fun i => gChain ds 64 (at_ b (16 + 8 * i + 2) 2)

/-- The rules of an OP_GRAPH whose panel has the given tiles. -/
def State.checkGraph (s : State) (own : Bool) (tiles : List Nat) (b : List Byte) : Nat :=
  let nd := at_ b 0 2
  let ne := gEntries b
  need (decide (nd ≤ 1024) && decide (ne ≤ 64)) IR_SIZE <|
  need (own && decide (1 ≤ nd) && decide (1 ≤ ne) && b.length == descOff ne nd &&
    allDiffer ((List.range ne).map fun i => at_ b (16 + 8 * i) 1) && (gChains b).all Option.isSome) IR_FORMAT <|
  need ((gDescs b).all (descOk tiles)) IR_FORMAT <|
  need ((gDescs b).all s.slotsPresent) IR_ABSENT IR_OK

/-! CONST (R65) and CREDITS (R140). -/

/-- The rules of a CONST whose panel has `n` tiles.
Assumption log: 175 (DEDUCED). -/
def checkConst (own : Bool) (n : Nat) (b : List Byte) : Nat :=
  let j := at_ b 0 2
  let o := at_ b 8 4
  let l := at_ b 12 4
  need (decide (o + l ≤ 0x400000)) IR_SIZE <|
  need (own && b.length == 16 + l && decide (o + l ≤ graphOff) && (decide (j < n) || j == 0xFFFF)) IR_FORMAT IR_OK

/-- An entry of a CREDITS body: tile index, class, ring, capacity. -/
structure CreditEnt where
  tile : Nat
  cls : Nat
  ring : Nat
  cap : Nat
deriving DecidableEq, Repr

/-- The entries of a CREDITS body. -/
def creditsOf (b : List Byte) : List CreditEnt :=
  (List.range (at_ b 0 4)).map fun i =>
    let o := 8 + 8 * i
    ⟨at_ b o 2, at_ b (o + 2) 1, at_ b (o + 4) 2, at_ b (o + 6) 2 + at_ b (o + 3) 1 % 4 * 65536⟩

/-- The size of a ring of a RING body. -/
def ringSize (rb : List Byte) (r : Nat) : Option Nat := ((ringEntries rb).find? fun e => reId e == r).map fun e => 2 ^ reLog e

/-- The rules of a CREDITS body whose panel has `n` tiles.
Assumption log: 175 (DEDUCED). -/
def checkCredits (own : Bool) (n : Nat) (rb b : List Byte) : Nat :=
  let es := creditsOf b
  need (es.all fun e => match ringSize rb e.ring with
    | some z => decide (e.cap ≤ z / 64)
    | none => true) IR_SIZE <|
  need (own && b.length == 8 + 8 * at_ b 0 4 && es.all (fun e =>
      (decide (e.tile < n) || e.tile == 0xFFFF) && decide (e.cls ≤ 15) && (ringSize rb e.ring).isSome && decide (1 ≤ e.cap)) &&
    allDiffer (es.map fun e => e.tile * 256 + e.cls)) IR_FORMAT IR_OK

/-- The capacity and ring of a class for the j-th tile of a panel (R140). -/
def creditFor (es : List CreditEnt) (j c : Nat) : Option CreditEnt :=
  match es.find? fun e => e.tile == j && e.cls == c with
  | some e => some e
  | none => es.find? fun e => e.tile == 0xFFFF && e.cls == c

/-- Whether every chain of a graph finds its credit set within the capacities of every tile (R141). -/
def creditSetsOk (g cb : List Byte) (n : Nat) : Bool :=
  let es := creditsOf cb
  (gChains g).all fun ch => match ch with
    | none => true
    | some ds =>
      (List.range 16).all fun c =>
        let k := ((ds.filter fun d => d.op == 0x13 && d.outClass == c).map Desc.outCredits).sum
        k == 0 || (List.range n).all fun j => match creditFor es j c with
          | some e => decide (k ≤ e.cap)
          | none => false

/-! The image as a whole. -/

/-- A section with its body. -/
structure SecBody where
  sec : Section
  body : List Byte

/-- The entries of a PANEL_MAP among the sections. -/
def panelEntries (bs : List SecBody) : List (List Byte) :=
  match bs.find? fun x => x.sec.ty == 3 with
  | some x => pmEntries x.body
  | none => []

/-- The tiles of a panel of an image. -/
def tilesOfPanel (bs : List SecBody) (p : Nat) : List Nat :=
  match (panelEntries bs).find? fun e => at_ e 0 1 == p with
  | some e => pmTiles e
  | none => []

/-- The RING body among the sections. -/
def ringBody (bs : List SecBody) : List Byte := ((bs.find? fun x => x.sec.ty == 2).map SecBody.body).getD []

/-- Whether a section type is panel-scoped (R60). -/
def panelScoped (ty : Nat) : Bool := ty == 0x10 || ty == 0x11 || ty == 0x12

/-- The rules of one section (R71 step 7). -/
def State.checkSection (s : State) (epoch : Nat) (bs : List SecBody) (x : SecBody) : Nat :=
  let own := if panelScoped x.sec.ty then decide (x.sec.panel ≤ 63) else x.sec.panel == 0xFF
  let ts := tilesOfPanel bs x.sec.panel
  match x.sec.ty with
  | 1 => checkNodeCfg own x.body
  | 2 => s.checkRings own x.body
  | 3 => checkPanelMap own x.body
  | 4 => checkRoutes own epoch x.body
  | 5 => checkTenants own x.body
  | 6 => need (own && x.body.length % 16 == 0 && (writeEntries 0xF00052000000 x.body 0).all trafficEntryOk) IR_FORMAT IR_OK
  | 7 => checkText own x.body
  | 8 => need (own && x.body.length % 16 == 0 && (writeEntries 0xF00000000000 x.body 0).all (cfgEntryOk engineBlocks 0)) IR_FORMAT IR_OK
  | 0x10 => s.checkGraph own ts x.body
  | 0x11 => checkConst own ts.length x.body
  | _ => checkCredits own ts.length (ringBody bs) x.body

/-- The sections of a type, of a panel or node-wide. -/
def secsOf (bs : List SecBody) (ty p : Nat) : List SecBody := bs.filter fun x => x.sec.ty == ty && x.sec.panel == p

/-- The section counts and PANEL fields of R60. -/
def countsOk (bs : List SecBody) : Bool :=
  let ps := (panelEntries bs).map fun e => at_ e 0 1
  [1, 2, 3, 4, 5, 6].all (fun t => (bs.filter fun x => x.sec.ty == t).length == 1) &&
    [7, 8].all (fun t => decide ((bs.filter fun x => x.sec.ty == t).length ≤ 1)) &&
    bs.all (fun x => if panelScoped x.sec.ty then ps.contains x.sec.panel else x.sec.panel == 0xFF) &&
    ps.all fun p => (secsOf bs 0x10 p).length == 1 && (secsOf bs 0x12 p).length == 1

/-- The subsystem that owns the rings of a handling unit (R400, R27). -/
def deliveryOwner (u : Nat) : Nat := [9, 9, 12, 11, 16, 5, 16].getD u 0

/-- The DELIVERY rings exist with PROD_KIND 0 and the right owner (R400).
Assumption log: 175 (DEDUCED). -/
def deliveryOk (bs : List SecBody) : Bool :=
  match bs.find? fun x => x.sec.ty == 1 with
  | none => false
  | some x =>
    let rs := ringEntries (ringBody bs)
    (List.range 56).all fun i =>
      let o := 256 + 4 * i
      (rangeFrom (at_ x.body o 2) (at_ x.body (o + 2) 1)).all fun r =>
        rs.any fun e => reId e == r && reProd e == 0 && reOwn e == 2 && at_ e 14 2 == deliveryOwner (i / 8)

/-- The credit sets of every panel (R141). -/
def creditsOk (bs : List SecBody) : Bool :=
  (panelEntries bs).all fun e =>
    let p := at_ e 0 1
    match secsOf bs 0x10 p, secsOf bs 0x12 p with
    | [g], [c] => creditSetsOk g.body c.body (pmTiles e).length
    | _, _ => false

/-- The reload volume of a panel (R66). -/
def reloadVolume (ss : List Section) (p : Nat) : Nat := ((ss.filter fun x => panelScoped x.ty && x.panel == p).map Section.len).sum

/-- Entry i of the directory (R58). -/
def dirEntry (b : List Byte) (i : Nat) : Section :=
  let e := (b.drop (64 * i)).take 64
  ⟨at_ e 0 2, at_ e 4 1, at_ e 8 8, at_ e 16 8, (e.drop 32).take 32⟩

/-- Whether the bodies follow one another without overlap between two offsets, taken in ascending OFFSET (R59). -/
def bodiesOk (lo hi : Nat) (ss : List Section) : Bool :=
  let sorted := ss.foldl (fun a x => (a.takeWhile fun y => decide (y.off ≤ x.off)) ++ x :: a.dropWhile fun y => decide (y.off ≤ x.off)) []
  (sorted.foldl (fun (m : Nat × Bool) x => (x.off + x.len, m.2 && decide (m.1 ≤ x.off) && decide (x.off + x.len ≤ hi))) (lo, true)).2

/-- The section types of R60. -/
def sectionTypes : List Nat := [1, 2, 3, 4, 5, 6, 7, 8, 0x10, 0x11, 0x12]

/-- The layout of the header (R57), as far as it is not a limit.
Assumption log: 175 (DEDUCED). -/
def headerOk (h : List Byte) (len : Nat) : Bool :=
  h.take 4 == [0x4D, 0x4F, 0x49, 0x56] && at_ h 4 2 == 1 && at_ h 6 2 == 64 && decide (1 ≤ at_ h 8 4) &&
    (at_ h 12 1 == 8 || at_ h 12 1 == 12) && (at_ h 13 1 == 1 || at_ h 13 1 == 2) && len % 64 == 0 && at_ h 40 8 % 64 == 0

/-- Whether a range of an image lies in present stack windows or in tiered pages below EXTENT (R71 step 1). -/
def State.imagePlace (s : State) (a n : Nat) : Bool :=
  0 < n && (match s.winOf a, s.winOf (a + (n - 1)) with
    | .stack _, .stack _ => true
    | .tier, .tier => true
    | _, _ => false)

/-- The bodies of sections, each read and checked against its digest; `none` at the first that fails (R63). -/
def State.readBodies (s : State) (addr : Nat) : List Section → Option (List SecBody) × State
  | [] => (some [], s)
  | x :: r =>
    let b := s.loadAcross (addr + x.off) x.len
    if b.code ≠ E_NONE ∨ Config.shake256 b.data 32 ≠ x.digest then (none, b.st)
    else
      let y := b.st.readBodies addr r
      (y.1.map (⟨x, b.data⟩ :: ·), y.2)

/-- The panels of an image by number. -/
def panelsOf (addr : Nat) (ss : List Section) (bs : List SecBody) : SMap (Option PanelDef) :=
  (panelEntries bs).foldl (fun m e =>
    let p := at_ e 0 1
    let d : PanelDef := { role := at_ e 1 1, tiles := pmTiles e, sections := ss.filter (fun x => panelScoped x.ty && x.panel == p), addr := addr }
    smPut (fun _ => none) m p (some d)) []

/-- Flash I/O dies of the variant (R5).
Assumption log: 1 (DESIGN CHOICE). -/
def State.nFio (s : State) : Nat := s.get F.NCTL_ID_FIO_DIES

/-- Steps 6 to 9 of R71 on an image whose digests hold. -/
def State.checkBodies (s : State) (h : List Byte) (ss : List Section) (bs : List SecBody) : Nat :=
  need (decide (at_ h 12 1 ≤ s.nStacks) && decide (at_ h 13 1 ≤ s.nFio)) IR_ABSENT <|
  need (firstFail (bs.map (s.checkSection (at_ h 36 4) bs)) == IR_OK) (firstFail (bs.map (s.checkSection (at_ h 36 4) bs))) <|
  need (countsOk bs && deliveryOk bs) IR_FORMAT <|
  need (creditsOk bs) IR_SIZE <|
  need ((List.range 64).all fun p => decide (reloadVolume ss p ≤ 60 * 2 ^ 20)) IR_SIZE IR_OK

/-- Bytes of the image that begin at its header: a read that fails gives none. -/
def State.imageBytes (s : State) (a n : Nat) : Option (List Byte) × State :=
  let x := s.loadAcross a n
  (if x.code = E_NONE then some x.data else none, x.st)

/-- Steps 5 to 9 of R71.
Assumption log: 175 (DEDUCED). -/
def State.checkRest (s : State) (addr len : Nat) (h dir sig : List Byte) : Nat × Image × State :=
  let ss := (List.range (at_ h 8 4)).map (dirEntry dir)
  let x := s.readBodies addr ss
  match x.1 with
  | none => (IR_DIGEST, {}, x.2)
  | some bs =>
    let c := x.2.checkBodies h ss bs
    let msg := h ++ dir
    (c,
      { addr := addr, len := len, id := at_ h 24 8, svn := at_ h 32 4, routeEpoch := at_ h 36 4, sections := ss,
        digest := Config.shake256 msg 32, vendor := x.2.signedBy msg sig, panels := panelsOf addr ss bs,
        routes := ((bs.find? fun x => x.sec.ty == 4).map fun x => routesOf x.body).getD [],
        tenants := ((bs.find? fun x => x.sec.ty == 5).map fun x => tenantsOf x.body).getD [] }, x.2)

/-- The layout of directory and signature block, then signatures and SVN (R71 steps 2 to 4), then the rest. -/
def State.checkSigned (s : State) (addr len : Nat) (h dir sig : List Byte) : Nat × Image × State :=
  let n := at_ h 8 4
  let so := at_ h 40 8
  let ss := (List.range n).map (dirEntry dir)
  let k := at_ sig 0 2
  let c :=
    need (ss.all fun x => sectionTypes.contains x.ty && x.off % 64 == 0 && decide (1 ≤ x.len)) IR_FORMAT <|
    need ((List.range n).all fun i => at_ dir (64 * i + 2) 2 == 1) IR_FORMAT <|
    need (bodiesOk (64 + 64 * n) so ss) IR_FORMAT <|
    need (decide (k ≤ 2)) IR_SIZE <|
    need (decide (1 ≤ k) && decide (8 + 136 * k ≤ len - so)) IR_FORMAT <|
    need (s.signedOk (h ++ dir) sig) IR_SIGNATURE <|
    need (decide (s.sec.floor ≤ at_ h 32 4)) IR_ROLLBACK IR_OK
  if c = IR_OK then s.checkRest addr len h dir sig else (c, {}, s)

/-- The checks of R71 on the image at a node offset: the result, and the image.
Assumption log: 175 (DEDUCED). -/
def State.checkImage (s : State) (addr len : Nat) : Nat × Image × State :=
  if addr % 64 ≠ 0 ∨ len < 64 ∨ !s.imagePlace addr len then (IR_FORMAT, {}, s)
  else
    match s.imageBytes addr 64 with
    | (none, s) => (IR_FORMAT, {}, s)
    | (some h, s) =>
      let n := at_ h 8 4
      let so := at_ h 40 8
      if at_ h 16 8 ≠ len then (IR_FORMAT, {}, s)
      else if 4096 < n ∨ 2 ^ 34 < len then (IR_SIZE, {}, s)
      else if !headerOk h len ∨ so < 64 + 64 * n ∨ len < so + 8 then (IR_FORMAT, {}, s)
      else
        match s.imageBytes (addr + 64) (64 * n) with
        | (none, s) => (IR_FORMAT, {}, s)
        | (some dir, s) =>
          match s.imageBytes (addr + so) (min (len - so) 280) with
          | (none, s) => (IR_FORMAT, {}, s)
          | (some sig, s) => s.checkSigned addr len h dir sig

end Sys2Proof.Machine
end

