-- ==== Sys2Proof/Machine/Tiles.lean ====
section
/-! DEFINITION. The tile's sequencer (R127, R128, R138 to R147): taking tokens, running the descriptors of a chain, SEND, chain end,
faults and the held state, debug halts. -/

namespace Sys2Proof.Machine

/-- A tile. -/
def State.tile (s : State) (t : Nat) : TileSt := smGet (fun _ => {}) s.tiles t

/-- A tile, replaced. -/
def State.setTile (s : State) (t : Nat) (v : TileSt) : State := { s with tiles := smPut (fun _ => {}) s.tiles t v }

/-- TILE_STATUS.STATE codes (R147). -/
def TS_UNASSIGNED : Nat := 0
def TS_IDLE : Nat := 1
def TS_RUNNING : Nat := 2
def TS_STALLED : Nat := 3
def TS_HALTED : Nat := 4
def TS_HELD : Nat := 5

/-- TILE_STATUS.STATE of a tile. -/
def State.tileState (s : State) (t : Nat) : Nat := s.get (F.TILE_STATUS_STATE t)

/-- TILE_STATUS.STATE, replaced. -/
def State.setTileState (s : State) (t v : Nat) : State := s.set (F.TILE_STATUS_STATE t) v

/-! The graph in the tile's bench (R127). -/

/-- Bytes of the graph region as they stand. -/
def State.graphBytes (s : State) (t off n : Nat) : List Byte := s.bytes (benchBase t + graphOff + off) n

/-- Entries of the entry table. -/
def State.graphEntries (s : State) (t : Nat) : Nat := leNat (s.graphBytes t 2 2)

/-- The first descriptor of the chain that serves a TYPE.
Assumption log: 37 (DEDUCED). -/
def State.graphEntry (s : State) (t ty : Nat) : Option Nat :=
  ((List.range (s.graphEntries t)).find? fun i => leNat (s.graphBytes t (16 + 8 * i) 1) == ty).map fun i =>
    leNat (s.graphBytes t (16 + 8 * i + 2) 2)

/-- Descriptor i as it stands. -/
def State.graphDesc (s : State) (t i : Nat) : Desc := descOf (s.graphBytes t (descOff (s.graphEntries t) i) 128)

/-- The descriptors of a chain from one on, along NEXT to LAST (R128). -/
def State.chainDescs (s : State) (t : Nat) : Nat → Nat → List Desc
  | 0, _ => []
  | fuel + 1, i => let d := s.graphDesc t i; d :: (if d.last then [] else s.chainDescs t fuel d.next)

/-- The credit set of a chain: OUT_CREDITS of its SENDs by class (R141). -/
def creditSet (ds : List Desc) : SMap Nat :=
  (ds.filter fun d => d.op == 0x13).foldl (fun m d =>
    smPut (fun _ => 0) m (d.outClass % 16) (smGet (fun _ => 0) m (d.outClass % 16) + d.outCredits)) []

/-- Whether a tile holds a whole credit set (R32). -/
def State.holds (s : State) (t : Nat) (cs : SMap Nat) : Bool :=
  cs.all fun e => decide (e.2 ≤ s.get (F.TILE_CREDIT_AVAIL t e.1))

/-- A credit set taken. -/
def State.takeCredits (s : State) (t : Nat) (cs : SMap Nat) : State :=
  cs.foldl (fun s e => s.set (F.TILE_CREDIT_AVAIL t e.1) (s.get (F.TILE_CREDIT_AVAIL t e.1) - e.2)) s

/-- Credits that a chain did not use go back to their classes. -/
def State.giveCredits (s : State) (t : Nat) (cs : SMap Nat) : State :=
  cs.foldl (fun s e => s.set (F.TILE_CREDIT_AVAIL t e.1)
    (min (s.get (F.TILE_CREDIT_CAPACITY t e.1)) (s.get (F.TILE_CREDIT_AVAIL t e.1) + e.2))) s

/-! Chains. -/

/-- A fault recorded: the bit of TILE_ERR, and TILE_ERR_INFO for the first one after the last clear (R146). Bits 0 to 4 are
the faults. -/
def State.recordFault (s : State) (t : Nat) (bit : RegField) (desc op off code : Nat) : State :=
  let s := if (s.reg (Reg.TILE_ERR t)).toNat % 32 = 0 then
      (((s.set (F.TILE_ERR_INFO_DESC t) desc).set (F.TILE_ERR_INFO_OPCODE t) op).set (F.TILE_ERR_INFO_BENCH_OFF t) off).set
        (F.TILE_ERR_INFO_CODE t) code
    else s
  s.setBit bit true

/-- The request that a chain serves. -/
def State.chainReq (s : State) (c : Chain) : Req := s.reqOf (s.ringMsg c.ring c.pos)

/-- The answer or report that a failed chain owes: a RESULT for a Haldio TYPE, a failed completion for a local one (R145). -/
def State.failChain (s : State) (r : Req) (code : Nat) : State :=
  if haldioTypes.contains r.ty then s.answer U_TILE r code
  else { s with fails := s.fails ++ [⟨r.ty, r.src, r.reqId, code⟩] }

/-- A chain ends (R145): the ring's head passes the message, unused credits return, a failure is answered; waiting work may
now find room. -/
def State.endChain (s : State) (t : Nat) (c : Chain) (code : Nat) : State :=
  let r := s.chainReq c
  let s := s.headAdvance c.ring (s.msgEnd c.ring c.pos (32 + c.len))
  let s := (s.giveCredits t c.credits).bump (F.TILE_PERF_TOKENS_COUNT t) 1
  let x := s.tile t
  let s := (s.setTile t { x with chain := none, halted := false, passed := false }).setTileState t TS_IDLE
  let s := if code = E_NONE then s else s.failChain r code
  s.flushWork

/-- A tile becomes HELD (R146). -/
def State.holdTile (s : State) (t : Nat) : State := s.setTileState t TS_HELD

/-- A fault of R146 ends a chain. -/
def State.faultChain (s : State) (t : Nat) (c : Chain) (op : Nat) (x : OpAcc) : State :=
  let ev (code : Nat) (bit : RegField) (off err : Nat) : State :=
    (s.recordFault t bit c.desc op off err).raiseReq code t [] c.tenant c.reqId
  match x.fault with
  | .none => s
  | .desc => (ev EV_TILE_DESC_ERROR (F.TILE_ERR_DESC_ERR t) 0 E_MALFORMED).endChain t c E_MALFORMED
  | .operand => (ev EV_TILE_OPERAND_ERROR (F.TILE_ERR_OPERAND_ERR t) 0 x.code).endChain t c x.code
  | .bench => (ev EV_TILE_BENCH_UE (F.TILE_ERR_BENCH_UE t) x.off E_MEDIA).endChain t c E_MEDIA
  | .graph => ((ev EV_TILE_GRAPH_UE (F.TILE_ERR_GRAPH_UE t) x.off E_MEDIA).endChain t c E_MEDIA).holdTile t

/-- A debug halt takes effect (R147). -/
def State.haltTile (s : State) (t : Nat) (c : Chain) : State :=
  let x := s.tile t
  ((s.setTile t { x with chain := some c, halted := true }).setTileState t TS_HALTED).raiseReq EV_TILE_DEBUG_HALT t []
    c.tenant c.reqId

/-- A drain bound ends a chain (R78). -/
def State.drainStop (s : State) (t : Nat) (c : Chain) : State :=
  (s.setBit (F.TILE_ERR_DRAIN_STOP t) true).endChain t c E_CANCELLED

/-- A descriptor boundary (R144, R147, R78): a CANCEL or a drain stop ends the chain, a halt or a breakpoint halts it, otherwise
the next descriptor begins. -/
def State.boundary (s : State) (t : Nat) (c : Chain) (step : Bool) : State :=
  let x := s.tile t
  if c.cancel || s.cancelled c.src c.reqId then s.endChain t c E_CANCELLED
  else if c.stopAt then s.drainStop t c
  else if step || s.bit (F.TILE_DBG_CTRL_HALT t) ||
      (s.bit (F.TILE_DBG_CTRL_BREAK_EN t) && s.get (F.TILE_DBG_CTRL_BREAK_DESC t) == c.desc) then
    s.haltTile t c
  else (s.setTile t { x with chain := some { c with startAt := s.now }, halted := false, passed := false }).setTileState t
    TS_RUNNING

/-- The descriptor that the chain is at, fetched from the graph region with its check (R124, R146).
Assumption log: 37 (DEDUCED). -/
def State.fetchDesc (s : State) (t : Nat) (c : Chain) : OpAcc :=
  s.loadBench t (graphOff + descOff (s.graphEntries t) c.desc) 128

/-- After a descriptor: a fault ends the chain; LAST ends it; otherwise the chain stands at the boundary before NEXT. The
vector registers hold what the operator left there, which the manual leaves open (R126). -/
def State.afterDesc (_s : State) (t : Nat) (c : Chain) (d : Desc) (step : Bool) (x : OpAcc) : State :=
  match x.fault with
  | .none =>
    let s1 := x.st
    let y := s1.tile t
    let s1 := (s1.setTile t { y with vreg := some s1.freeCtr }).nextFree
    let c := match y.chain with
      | some c' => { c with credits := c'.credits }
      | none => c
    if d.last then s1.endChain t c E_NONE
    else s1.boundary t { c with desc := d.next, steps := c.steps + 1 } step
  | _ => x.st.faultChain t c d.op x

/-- A tile runs the descriptor at which its chain stands, if its OPCODE is the given one (R133).
Assumption log: 28 (DESIGN CHOICE). -/
def State.runDesc (s : State) (t op : Nat) (f : State → Nat → Chain → Desc → OpAcc) (step : Bool) : State :=
  match (s.tile t).chain with
  | none => s
  | some c =>
    if (s.tile t).halted != step then s
    else
      let x := s.fetchDesc t c
      match x.fault with
      | .none =>
        let d := descOf x.data
        if d.op = op then x.st.afterDesc t c d step (f x.st t c d) else s
      | _ => if (s.graphDesc t c.desc).op = op then x.st.faultChain t c op x else s

/-! Taking a token (R142, R144). -/

/-- The ring of queue w of a tile. -/
def TileSt.queue (x : TileSt) (w : Nat) : Option Nat := x.watches[w]?

/-- Whether a queue holds a token. -/
def State.queueFull (s : State) (t w : Nat) : Bool :=
  match (s.tile t).queue w with
  | some r => !(s.ring r).tokens.isEmpty
  | none => false

/-- The chain that the head message of a ring needs: ring, first descriptor if its TYPE is served, and the credit set. -/
def State.headNeeds (s : State) (t r : Nat) : Option Nat × SMap Nat :=
  let ty := at_ (s.ringBytes (s.ring r) (s.headOf r) 32) 1 1
  match s.graphEntry t ty with
  | some i => (some i, creditSet (s.chainDescs t 64 i))
  | none => (none, [])

/-- The queues in round-robin order, after the one last served. -/
def TileSt.order (x : TileSt) : List Nat := (rangeFrom (x.last + 1) 8).map (· % 8)

/-- The first queue whose head token's whole credit set the tile holds. -/
def State.ready (s : State) (t : Nat) : Option Nat :=
  (s.tile t).order.find? fun w =>
    match (s.tile t).queue w with
    | some r => s.queueFull t w && s.holds t (s.headNeeds t r).2
    | none => false

/-- A message TYPE that the graph does not serve: E_ABSENT and EV_PANEL_TYPE_UNSERVED (R77, R128). -/
def State.unserved (s : State) (t : Nat) (c : Chain) : State :=
  (s.raiseReq EV_PANEL_TYPE_UNSERVED (s.get (F.TILE_STATUS_PANEL t)) [c.ty] c.tenant c.reqId).endChain t c E_ABSENT

/-- The chain of the message at the head of a ring. -/
def State.newChain (s : State) (r : Nat) (cs : SMap Nat) : Chain :=
  let m := s.ringMsg r (s.headOf r)
  let q := s.reqOf m
  { ring := r, pos := s.headOf r, len := m.length - 32, ty := q.ty, reqId := q.reqId, src := q.src, cls := q.cls,
    tenant := q.tenant, rehearsal := q.rehearsal, credits := cs, startAt := s.now }

/-- The token of queue w is taken with its credits and its chain starts, unless the deadline has passed (R144). -/
def State.startChain (s : State) (t w r : Nat) : State :=
  let nd := s.headNeeds t r
  let c := s.newChain r nd.2
  let s := s.takeCredits t nd.2
  let x := s.tile t
  let s := s.setTile t { x with last := w, chain := some c }
  let g := s.loadBench t graphOff (16 + 8 * s.graphEntries t)
  match g.fault with
  | .none =>
    match nd.1 with
    | none => s.unserved t c
    | some i =>
      let c := { c with desc := i }
      if s.deadlinePassed (s.chainReq c).deadline then s.endChain t c E_DEADLINE else s.boundary t c false
  | _ => g.st.faultChain t c 0 g

/-- Whether a tile may take a token: idle, of a panel that takes tokens (R77, R146). -/
def State.takesTokens (s : State) (t : Nat) : Bool :=
  (s.tileState t == TS_IDLE || s.tileState t == TS_STALLED) &&
    s.get (F.IMG_PANEL_STATE_STATE (s.get (F.TILE_STATUS_PANEL t))) == 1

/-- The sequencer looks at its queues (R142). -/
def State.tokenTake (s : State) (t : Nat) : State :=
  if !s.takesTokens t then s
  else match s.ready t with
    | some w =>
      match (s.tile t).queue w with
      | some r => s.startChain t w r
      | none => s
    | none => s.setTileState t (if (List.range 8).any (s.queueFull t) then TS_STALLED else TS_IDLE)

/-- TOKEN_TAKE of a tile (R142). -/
def execTokenTake (tile : Nat) (s : State) : Res := s.live <| onUnit (tile < Config.numTiles) (s.tokenTake tile)

/-! The operators of R133 with arithmetic of their own. -/

/-- A row of R133 run by a tile.
Assumption log: 35 (DESIGN CHOICE). -/
def runOp (op : Nat) (f : State → Nat → Chain → Desc → OpAcc) (tile : Nat) (s : State) : Res :=
  onUnit (tile < Config.numTiles) (s.runDesc tile op f false)

/-- MATMUL (R99). -/
def execMatmul (tile : Nat) (s : State) : Res := s.live <| runOp 0x01 opMatmul tile s
/-- REDUCE (R107). -/
def execReduce (tile : Nat) (s : State) : Res := s.live <| runOp 0x02 opReduce tile s
/-- ROTATE (R110). -/
def execRotate (tile : Nat) (s : State) : Res := s.live <| runOp 0x03 opRotate tile s
/-- QUANTISE (R113). -/
def execQuantise (tile : Nat) (s : State) : Res := s.live <| runOp 0x04 opQuantise tile s
/-- DEQUANTISE (R117). -/
def execDequantise (tile : Nat) (s : State) : Res := s.live <| runOp 0x05 opDequantise tile s
/-- ELEMWISE (R108). -/
def execElemwise (tile : Nat) (s : State) : Res := s.live <| runOp 0x06 opElemwise tile s
/-- ACTIVATE (R134). -/
def execActivate (tile : Nat) (s : State) : Res := s.live <| runOp 0x07 opActivate tile s
/-- NORMALISE (R135). -/
def execNormalise (tile : Nat) (s : State) : Res := s.live <| runOp 0x08 opNormalise tile s
/-- ATTEND (R136). -/
def execAttend (tile : Nat) (s : State) : Res := s.live <| runOp 0x09 opAttend tile s
/-- MASK (R133). -/
def execMaskLogits (tile : Nat) (s : State) : Res := s.live <| runOp 0x0F opMask tile s
/-- SAMPLE (R137). -/
def execSample (tile : Nat) (s : State) : Res := s.live <| runOp 0x10 opSample tile s
/-- GRAD_ACCUM (R118). -/
def execGradAccum (tile : Nat) (s : State) : Res := s.live <| runOp 0x11 opGradAccum tile s
/-- OPT_STEP (R120). -/
def execOptStep (tile : Nat) (s : State) : Res := s.live <| runOp 0x12 opOptStep tile s

/-! SEND (R141). -/

/-- SEND: ring in P0, payload length in P1, TYPE in P2. The message carries the envelope fields of the message being served. -/
def opSend (s : State) (t : Nat) (c : Chain) (d : Desc) : OpAcc :=
  let r := d.par 0
  let n := d.par 1
  let gr := (32 + n + 63) / 64
  if d.outCredits < gr ∨ 65504 < n ∨ (s.ring r).size = 0 then s.badDesc
  else
    (s.loadOp t c d.s0.mode d.s0.addr n).bind fun p s =>
      let q := s.chainReq c
      let m := s.workBytes
        { role := 0, ty := d.par 2 % 256, cls := q.cls, tenant := q.tenant, reqId := q.reqId, src := q.src,
          deadline := q.deadline, rehearsal := q.rehearsal, payload := p }
      let s := s.ringSend r m
      let x := s.tile t
      let k := d.outClass % 16
      let cr := smPut (fun _ => 0) c.credits k (smGet (fun _ => 0) c.credits k - d.outCredits)
      let s := s.setTile t { x with chain := some { c with credits := cr } }
      { st := s.giveCredits t [(k, d.outCredits - gr)] }

/-- SEND (R141). -/
def execSend (tile : Nat) (s : State) : Res := s.live <| runOp 0x13 opSend tile s

/-! Stalls, hangs and debug. -/

/-- The queues whose head token lacks credits and has not reported it. -/
def State.stalledQueue (s : State) (t : Nat) : Option Nat :=
  (List.range 8).find? fun w =>
    match (s.tile t).queue w with
    | some r =>
      (match (s.ring r).tokens with
       | [] => false
       | k :: _ => !k.raised && !s.holds t (s.headNeeds t r).2)
    | none => false

/-- A head token has waited STALL_LIMIT beats for credits (R143): class, credits held, credits needed. -/
def State.creditStall (s : State) (t : Nat) : State :=
  match s.stalledQueue t with
  | none => s
  | some w =>
    match (s.tile t).queue w with
    | none => s
    | some r =>
      let g := s.ring r
      match g.tokens, (s.headNeeds t r).2.find? fun e => decide (s.get (F.TILE_CREDIT_AVAIL t e.1) < e.2) with
      | k :: ks, some e =>
        let s := s.reach (k.since + beatsNs (s.get (F.TILE_LIMITS_STALL_LIMIT t)))
        let s := s.setRing r { g with tokens := { k with raised := true } :: ks }
        (s.setBit (F.TILE_ERR_CREDIT_STALL t) true).raise EV_TILE_CREDIT_STALL t
          [e.1, s.get (F.TILE_CREDIT_AVAIL t e.1), e.2]
      | _, _ => s

/-- TILE_CREDIT_STALL (R143). -/
def execTileCreditStall (tile : Nat) (s : State) : Res := s.live <| onUnit (tile < Config.numTiles) (s.creditStall tile)

/-- A descriptor has run past DESC_LIMIT (R146). -/
def State.tileHang (s : State) (t : Nat) : State :=
  match (s.tile t).chain with
  | some c =>
    if (s.tile t).halted then s
    else
      let s := s.reach (c.startAt + beatsNs (s.get (F.TILE_LIMITS_DESC_LIMIT t)))
      let s := s.recordFault t (F.TILE_ERR_HANG t) c.desc (s.graphDesc t c.desc).op 0 E_CANCELLED
      ((s.raiseReq EV_TILE_HANG t [] c.tenant c.reqId).endChain t c E_CANCELLED).holdTile t
  | none => s

/-- TILE_HANG (R146). -/
def execTileHang (tile : Nat) (s : State) : Res := s.live <| onUnit (tile < Config.numTiles) (s.tileHang tile)

/-- TILE_DBG_CTRL.HALT = 1: it takes effect at the next boundary (R147).
Assumption log: 36 (DEDUCED). -/
def State.tileHalt (s : State) (t : Nat) : State := s.setBit (F.TILE_DBG_CTRL_HALT t) true

/-- TILE_DBG_CTRL.HALT = 0: a halted chain goes on with its next descriptor (R147).
Assumption log: 36 (DEDUCED). -/
def State.tileResume (s : State) (t : Nat) : State :=
  let s := s.setBit (F.TILE_DBG_CTRL_HALT t) false
  let x := s.tile t
  match x.chain with
  | some c =>
    if x.halted then
      (s.setTile t { x with halted := false, passed := true, chain := some { c with startAt := s.now } }).setTileState t
        TS_RUNNING
    else s
  | none => s

/-- TILE_HALT (R147). -/
def execTileHalt (tile : Nat) (s : State) : Res := s.live <| onUnit (tile < Config.numTiles) (s.tileHalt tile)

/-- TILE_RESUME (R147). -/
def execTileResume (tile : Nat) (s : State) : Res := s.live <| onUnit (tile < Config.numTiles) (s.tileResume tile)

end Sys2Proof.Machine
end

