-- ==== Sys2Proof/Machine/Walker.lean ====
section
/-! DEFINITION. The graph walk (R226 to R251): walker slots, the walk, insertion and pruning, graph edits. -/

namespace Sys2Proof.Machine

def T_GW_SCORE : Nat := 0xC8
def T_GW_PAIR : Nat := 0xC9

/-! Slots (R226). -/

/-- The walk in a slot. -/
def State.walk (s : State) (n : Nat) : Option GwWalk := smGet (fun _ => none) s.gw.walks n

/-- WLK_STATUS follows the slots. -/
def State.countWalks (s : State) : State :=
  let ws := s.gw.walks.filterMap Prod.snd
  (s.set F.WLK_STATUS_BUSY ws.length).set F.WLK_STATUS_INSERTS (ws.filter GwWalk.insert).length

/-- A walk stored in its slot; WLK_SLOT follows. -/
def State.setWalk (s : State) (n : Nat) (w : GwWalk) : State :=
  let s := { s with gw := { s.gw with walks := smPut (fun _ => none) s.gw.walks n (some w) } }
  let s := (s.set (F.WLK_SLOT_STATE n) (if w.insert then 2 else 1)).set (F.WLK_SLOT_DSLOT n) w.slot
  ((s.set (F.WLK_SLOT_EXPANDED n) (min 65535 w.expansions)).set (F.WLK_SLOT_REQ_LO n) (w.r.reqId % 2 ^ 32)).countWalks

/-- A slot becomes FREE. -/
def State.freeWalk (s : State) (n : Nat) : State :=
  let s := match s.walk n with
    | some w => s.dropWork w.r.src w.r.reqId
    | none => s
  { s with gw := { s.gw with walks := smPut (fun _ => none) s.gw.walks n none } }.setReg (Reg.WLK_SLOT n) 0 |>.countWalks

/-- The slots of a base die. -/
def dieSlots (die : Nat) : List Nat := rangeFrom (12 * die) 12

/-- The lowest-numbered FREE slot of a die.
Assumption log: 68 (DEDUCED). -/
def State.freeSlot (s : State) (die : Nat) : Option Nat := (dieSlots die).find? fun n => (s.walk n).isNone

/-- The base die at which a ring lies: that of its stack, or of the tile in whose bench it stands (R26). -/
def State.ringDie (s : State) (ring : Nat) : Nat :=
  let a := (s.ring ring).base
  if a < 0xA8000000 then a / 0x400000 / 168 % 4 else (a - 0x001000000000) / 0x800000000 % 4

/-- Whether an update of a slot's shard is running, or waits for a slot (R241).
Assumption log: 68 (DEDUCED). -/
def State.shardBusy (s : State) (slot : Nat) : Bool :=
  (s.gw.queue.any fun w => w.insert && w.slot == slot) ||
    s.gw.walks.any fun e => match e.2 with
      | some w => w.insert && w.slot == slot
      | none => false

/-- Whether a job that waits may start: inserts are limited on each die (R226).
Assumption log: 68 (DEDUCED). -/
def State.mayStart (s : State) (w : GwWalk) : Bool :=
  !w.insert || decide (((dieSlots w.die).filter fun n => match s.walk n with
    | some v => v.insert
    | none => false).length < s.get F.WLK_CFG_INSERT_SLOTS)

/-- The slot and walk of a request. -/
def State.walkOf (s : State) (src reqId : Nat) : Option (Nat × GwWalk) :=
  s.gw.walks.findSome? fun e => match e.2 with
    | some w => if w.r.src = src ∧ w.r.reqId = reqId then some (e.1, w) else none
    | none => none

/-! Records (R230, R231). -/

/-- The node slot of a VID. -/
def GwDesc.nodeSlot (d : GwDesc) (vid : Nat) : Nat := (((vid : Int) - d.vidBase) % d.nslots).toNat

/-- Node offset of the record of a VID. -/
def GwDesc.recAddr (d : GwDesc) (vid : Nat) : Nat := d.recOff + d.nodeSlot vid * d.recBytes

/-- Node offset of the first edge of a record. -/
def GwDesc.edgeAddr (d : GwDesc) (vid : Nat) : Nat := d.recAddr vid + 32 + d.vecBytes

/-- A record header. -/
structure GwHead where
  vid : Nat
  state : Nat
  ndeg : Nat
  attr : Nat

/-- A header from its 32 bytes; a record with a bad NDEG or STATE counts as FREE. -/
def gwHead (d : GwDesc) (b : List Byte) : GwHead :=
  let bad := decide (d.degree < at_ b 8 1) || decide (2 < at_ b 7 1)
  ⟨at_ b 0 6, if bad then 0 else at_ b 7 1, if bad then 0 else at_ b 8 1, at_ b 16 8⟩

/-- An invalid record is reported once until a read finds it valid, and counted. -/
def State.gwJudge (s : State) (slot : Nat) (d : GwDesc) (vid : Nat) (b : List Byte) : State :=
  let key := slot * 2 ^ 32 + d.nodeSlot vid
  let mark (s : State) (v : Bool) : State :=
    { s with gw := { s.gw with invalid := smPut (fun _ => false) s.gw.invalid key v } }
  if d.degree < at_ b 8 1 ∨ 2 < at_ b 7 1 then
    let s := s.bump F.WLK_CNT_EXC_RECORD_INVALID 1
    if smGet (fun _ => false) s.gw.invalid key then s
    else (mark s true).raise EV_GW_RECORD_INVALID slot [d.nodeSlot vid]
  else mark s false

/-- What a read within a walk gives. -/
structure GwRead (α : Type) where
  code : Nat
  val : α
  st : State

/-- The header of a VID's record.
Assumption log: 69 (DEDUCED). -/
def State.readHead (s : State) (slot : Nat) (d : GwDesc) (vid : Nat) : GwRead GwHead :=
  let x := s.load (d.recAddr vid) 32
  if x.code ≠ E_NONE then ⟨x.code, ⟨0, 0, 0, 0⟩, x.st⟩
  else ⟨E_NONE, gwHead d x.data, x.st.gwJudge slot d vid x.data⟩

/-- The generation byte of a VID's slot. -/
def State.readGen (s : State) (d : GwDesc) (vid : Nat) : GwRead Nat :=
  let x := s.load (d.genOff + d.nodeSlot vid) 1
  ⟨x.code, at_ x.data 0 1, x.st⟩

/-- Entries of 8 bytes. -/
def entries8 : Nat → List Byte → List (List Byte)
  | 0, _ => []
  | n + 1, b => b.take 8 :: entries8 n (b.drop 8)

/-- The generation bytes of the targets of adjacency entries. -/
def State.readGens (s : State) (d : GwDesc) : List (List Byte) → GwRead (List Nat)
  | [] => ⟨E_NONE, [], s⟩
  | e :: r =>
    let x := s.readGen d (at_ e 0 6)
    if x.code ≠ E_NONE then ⟨x.code, [], x.st⟩
    else
      let y := x.st.readGens d r
      { y with val := x.val :: y.val }

/-- The adjacency row of a VID: NDEG and its entries, with the generation bytes of the targets (R236).
Assumption log: 69 (DEDUCED). -/
def State.readRow (s : State) (slot : Nat) (d : GwDesc) (vid : Nat) : GwRead GwRow :=
  let h := s.readHead slot d vid
  if h.code ≠ E_NONE then ⟨h.code, ⟨vid, [], []⟩, h.st⟩
  else
    let x := h.st.load (d.edgeAddr vid) (8 * h.val.ndeg)
    if x.code ≠ E_NONE then ⟨x.code, ⟨vid, [], []⟩, x.st⟩
    else
      let es := entries8 h.val.ndeg x.data
      let g := x.st.readGens d es
      ⟨g.code, ⟨vid, es, g.val⟩, g.st⟩

/-! The visited filter (R234). -/

/-- The two bit positions of a VID. -/
def bloomBits (vid : Nat) : Nat × Nat :=
  let p := vid * 0x9E3779B97F4A7C15 % 2 ^ 64
  (p / 2 ^ 45, p / 2 ^ 26 % 2 ^ 19)

/-- test of a VID. -/
def GwWalk.seen (w : GwWalk) (vid : Nat) : Bool :=
  let b := bloomBits vid
  smGet (fun _ => false) w.visited b.1 && smGet (fun _ => false) w.visited b.2

/-- set of a VID. -/
def GwWalk.see (w : GwWalk) (vid : Nat) : GwWalk :=
  let b := bloomBits vid
  { w with visited := smPut (fun _ => false) (smPut (fun _ => false) w.visited b.1 true) b.2 true }

/-! Bounded lists (R233, R235). -/

/-- A beam entry inserted by ascending key, then VID.
Assumption log: 71 (DESIGN CHOICE). -/
def insertEnt (e : GwEnt) : List GwEnt → List GwEnt
  | [] => [e]
  | d :: r => if e.key < d.key ∨ (e.key = d.key ∧ e.vid < d.vid) then e :: d :: r else d :: insertEnt e r

/-- An entry offered to the output list, with the count of discarded entries at its K-th key.
Assumption log: 71 (DESIGN CHOICE). -/
def GwWalk.emit (w : GwWalk) (e : Entry) : GwWalk :=
  let l := insertEntry e w.out
  if l.length ≤ w.k then { w with out := l }
  else
    let lost := (l.getLast?.map Entry.key).getD 0
    let out := l.take w.k
    let kth := (out.getLast?.map Entry.key).getD 0
    let was := (w.out.getLast?.map Entry.key).getD 0
    { w with out := out, tie := (if kth = was then w.tie else 0) + (if lost = kth then 1 else 0) }

/-- A scored record enters the beam and, if its entry may be emitted, the output list. -/
def GwWalk.scored (w : GwWalk) (c : GwRec) (key : Nat) : GwWalk :=
  let w := { w with list := (insertEnt { vid := c.vid, key := key, tomb := c.tomb } w.list).take w.beam }
  if c.emit then w.emit { vid := c.vid, stage := 1, key := key, shard := w.desc.shard } else w

/-- The first unexpanded beam entry. -/
def GwWalk.nextEnt (w : GwWalk) : Option GwEnt := w.list.find? fun e => !e.expanded

/-- The query or new vector, widened (R205, R227). -/
def GwWalk.values (w : GwWalk) : List FV := widenQuery w.qfmt w.qscale w.desc.dim w.query

/-! How a walk ends. -/

/-- A walk ends with a code. -/
def State.gwFail (s : State) (n : Nat) (w : GwWalk) (code : Nat) : State :=
  let s := s.freeWalk n
  if w.insert then (s.bump F.WLK_CNT_EXC_UPD_REJECT 1).answer U_SEARCH w.r code
  else s.failSearch U_SEARCH w.r w.merge w.desc.shard w.k w.flags code

/-- The output list goes to selection (R235, R261). -/
def State.gwFinish (s : State) (n : Nat) (w : GwWalk) : State :=
  (s.freeWalk n).finishSearch U_SEARCH w.r w.merge
    ⟨w.desc.shard, w.k, w.flags, E_NONE, if w.out.length = w.k then w.tie else 0, w.out⟩

/-- A walk that meets a late read follows its LATE_PATH (R240). -/
def State.gwLate (s : State) (n : Nat) (w : GwWalk) : State :=
  let s := s.countLate w.r
  if w.late = 0 then s.gwFail n w E_DEADLINE else s.gwFinish n { w with flags := addFlag w.flags SF_DEADLINE_PARTIAL }

/-- Whether a walk waits for a flash read. -/
def State.gwOnFlash (s : State) (w : GwWalk) : Bool :=
  match w.phase with
  | .score => w.batch.any fun c => s.onFlash (w.desc.recAddr c.vid) w.desc.recBytes
  | .expand => match w.nextEnt with
    | some e => !(w.rows.any fun r => r.vid == e.vid) && s.onFlash (w.desc.recAddr e.vid) w.desc.recBytes
    | none => false
  | _ => false

/-! Considering edges (R231, R233, R237, R238). -/

/-- One adjacency entry considered: stale ones are counted, a record that is new and current joins the batch. -/
def State.gwConsider (s : State) (w : GwWalk) (e : List Byte) (gen : Nat) : GwRead GwWalk :=
  let vid := at_ e 0 6
  let stale (s : State) : State := s.bump F.WLK_CNT_STALE_STALE_EDGES 1
  if at_ e 7 1 % 2 = 0 ∨ gen ≠ at_ e 6 1 then ⟨E_NONE, w, stale s⟩
  else if w.seen vid then ⟨E_NONE, w, s⟩
  else
    let w := w.see vid
    let h := s.readHead w.slot w.desc vid
    if h.code ≠ E_NONE then ⟨h.code, w, h.st⟩
    else if h.val.vid ≠ vid ∨ h.val.state = 0 then ⟨E_NONE, w, stale h.st⟩
    else
      let live := h.val.state == 1
      let pass := !w.fen || filterPass w.filter w.fany h.val.attr
      ⟨E_NONE, { w with batch := w.batch ++ [⟨vid, live && pass, h.val.state == 2⟩] }, h.st⟩

/-- The entries of a row, in ascending index. -/
def State.gwConsiderAll (s : State) (w : GwWalk) : List (List Byte × Nat) → GwRead GwWalk
  | [] => ⟨E_NONE, w, s⟩
  | e :: r =>
    let x := s.gwConsider w e.1 e.2
    if x.code ≠ E_NONE then x else x.st.gwConsiderAll x.val r

/-- GW_SCORE messages for a batch: where the query begins in its payload, up to 64 record offsets, the widened query (R227). -/
def State.gwSendScore (s : State) (w : GwWalk) : State :=
  (chunks 64 w.batch.length w.batch).foldl (fun s cs =>
    s.sendWork 5 T_GW_SCORE w.r (leBytes 4 (if w.insert then 32 else 96) ++ leBytes 4 cs.length ++
      cs.flatMap (fun c => leBytes 8 (w.desc.recAddr c.vid)) ++ f32Bytes w.values)) s

/-- The batch of an expansion goes to be scored; with nothing to score the walk is ready to expand. -/
def State.gwScore (s : State) (n : Nat) (w : GwWalk) : State :=
  if w.batch.isEmpty then s.setWalk n { w with phase := .expand }
  else
    let w := { w with phase := .score }
    let s := (s.setWalk n w).gwSendScore w
    if s.pastLate w.late w.r && s.gwOnFlash w then s.gwLate n w else s

/-! Jobs (R249, R250, R226). -/

/-- The walk that a QUERY_GW body spells under a descriptor. -/
def gwWalkOf (r : Req) (msg : List Byte) (slot die cap : Nat) (d : GwDesc) (old : Bool) : GwWalk :=
  let b := r.payload
  let f := at_ b 1 1
  { r := r, msg := msg, slot := slot, desc := d, die := die, k := at_ b 4 2, beam := at_ b 6 2, nentry := at_ b 8 1, fen := f % 2 == 1,
    fany := f / 2 % 2 == 1, filter := (b.drop 32).take 64, model := f / 16 % 2 == 1, prefetch := min cap (at_ b 12 1),
    maxExpand := at_ b 28 2, qfmt := at_ b 9 1, qscale := at_ b 16 4, query := b.drop 96, merge := mergeOf b 20,
    late := f / 4 % 4, old := old }

/-- Whether the active image has a MODEL panel. -/
def State.hasModel (s : State) : Bool := s.img.panels.any fun e => match e.2.run with
  | some d => d.role == 7
  | none => false

/-- The field checks of R250. -/
def State.gwOk (s : State) (w : GwWalk) : Bool :=
  let b := w.r.payload
  decide (1 ≤ w.k) && decide (w.k ≤ 512) && decide (1 ≤ w.beam) && decide (w.beam ≤ 512) && decide (1 ≤ w.nentry) &&
    decide (w.nentry ≤ 16) && queryBytes w.qfmt != 0 && at_ b 10 2 == w.desc.dim && decide (at_ b 12 1 ≤ 8) && w.merge.ok &&
    (!w.fen || w.desc.attr) && bodyFilterOk w.fen b && (!w.model || s.hasModel) &&
    b.length == 96 + w.desc.dim * queryBytes w.qfmt

/-- A job waits for a slot. -/
def State.gwQueue (s : State) (w : GwWalk) : State := { s with gw := { s.gw with queue := s.gw.queue ++ [w] } }

/-- Slots of a die that no waiting job that may start has a claim to. -/
def State.openSlots (s : State) (die : Nat) : Nat :=
  ((dieSlots die).filter fun n => (s.walk n).isNone).length - (s.gw.queue.filter fun w => w.die == die && s.mayStart w).length

/-- QUERY_GW: the query at the head of a ring is checked in the order of R250; a good one is queued once its die has a slot for it, and waits in
its ring until then (R226). -/
def State.takeQueryGw (s : State) (ring : Nat) (m : List Byte) (r : Req) : State :=
  let b := r.payload
  let bad (code : Nat) : State :=
    let s := s.popMsg ring m
    if b.length < 96 then s.answer U_SEARCH r code
    else s.failSearch U_SEARCH r (mergeOf b 20) (at_ b 2 2) (at_ b 4 2) 0 code
  match s.gwSlot (at_ b 0 1) (at_ b 2 2) with
  | none => bad E_ABSENT
  | some (n, d) =>
    let w := gwWalkOf r m n (s.ringDie ring) (s.get F.WLK_CFG_PREFETCH_CAP) d (s.oldCopy r.src r.reqId)
    if !s.gwOk w then bad E_MALFORMED
    else if s.deadlinePassed r.deadline then bad E_DEADLINE
    else if s.cancelled r.src r.reqId then bad E_CANCELLED
    else if s.openSlots w.die = 0 then s
    else (s.popMsg ring m).gwQueue w

/-- QUERY_GW (R250). -/
def execQueryGw (ring : Nat) (s : State) : Res := s.live <|
  onUnit (ring < 8192) <| match s.headReq ring U_SEARCH T_QUERY_GW with
    | some (m, r) => s.takeQueryGw ring m r
    | none => s

/-- The entry points of a walk: the first NENTRY entries, with the generation bytes of their targets (R232). -/
def State.gwEntries (s : State) (w : GwWalk) : GwRead (List (List Byte × Nat)) :=
  let x := s.load w.desc.entryOff (8 * w.nentry)
  if x.code ≠ E_NONE then ⟨x.code, [], x.st⟩
  else
    let es := entries8 w.nentry x.data
    let g := x.st.readGens w.desc es
    ⟨g.code, List.zip es g.val, g.st⟩

/-- No entry point is current (R235): counted, and reported once per shard. -/
def State.gwNoEntry (s : State) (w : GwWalk) : State :=
  let s := s.bump F.WLK_CNT_EXC_NO_ENTRY 1
  if smGet (fun _ => false) s.gw.noEntry w.slot then s
  else { s with gw := { s.gw with noEntry := smPut (fun _ => false) s.gw.noEntry w.slot true } }.raise EV_GW_NO_ENTRY w.slot []

/-- A slot begins a walk with its entry points (R233). -/
def State.gwBegin (s : State) (n : Nat) (w : GwWalk) : State :=
  let s := (s.setWalk n w).serveFor w.r
  let e := s.gwEntries w
  if e.code ≠ E_NONE then (e.st.serveEnd).gwFail n w e.code
  else
    let x := e.st.gwConsiderAll w e.val
    let s := x.st.serveEnd
    if x.code ≠ E_NONE then s.gwFail n x.val x.code
    else (if x.val.batch.isEmpty then s.gwNoEntry w else s).gwScore n x.val

/-- WALK_START: the lowest-numbered FREE slot of a die takes the next job that may start (R226).
Assumption log: 68 (DEDUCED). -/
def State.walkStart (s : State) (n : Nat) : State :=
  if s.freeSlot (n / 12) = some n then
    match s.gw.queue.find? fun w => w.die == n / 12 && s.mayStart w with
    | none => s
    | some w =>
      let s := { s with gw := { s.gw with queue := s.gw.queue.filter fun v => !(v.r.src == w.r.src && v.r.reqId == w.r.reqId) } }
      if s.deadlinePassed w.r.deadline then s.gwFail n w E_DEADLINE
      else if s.cancelled w.r.src w.r.reqId then s.gwFail n w E_CANCELLED
      else s.gwBegin n w
  else s

/-- WALK_START (R226). -/
def execWalkStart (wslot : Nat) (s : State) : Res := s.live <| onUnit (wslot < 48) (s.walkStart wslot)

/-! Scores and expansions (R233, R236). -/

/-- The distance of the walk's vector to a record's, as an FP32 code. -/
def State.gwDist (s : State) (d : GwDesc) (q : List FV) (vid : Nat) : GwRead Nat :=
  let x := s.load (d.recAddr vid + 32) d.vecBytes
  ⟨x.code, (canonScore (exactDist d.metric q (vecValues d.vecFmt d.vecScale d.dim x.data))).code, x.st⟩

/-- Records scored in turn. -/
def State.gwScores (s : State) (q : List FV) (w : GwWalk) : List GwRec → GwRead GwWalk
  | [] => ⟨E_NONE, w, s⟩
  | c :: r =>
    let x := s.gwDist w.desc q c.vid
    if x.code ≠ E_NONE then ⟨x.code, w, x.st⟩
    else x.st.gwScores q (w.scored c (keyOfBits x.val)) r

/-- Rows read ahead for the next unexpanded beam entries; rows of entries that have left the beam are discarded (R236).
Assumption log: 69 (DEDUCED). -/
def State.gwAhead (s : State) (w : GwWalk) : GwRead GwWalk :=
  let es := (w.list.filter fun e => !e.expanded).take w.prefetch
  let keep := w.rows.filter fun r => w.list.any fun e => e.vid == r.vid && !e.expanded
  let x := es.foldl (fun (a : GwRead (List GwRow)) e =>
    if a.code ≠ E_NONE ∨ a.val.any (fun r => r.vid == e.vid) ∨ a.st.onFlash (w.desc.recAddr e.vid) w.desc.recBytes then a
    else
      let r := a.st.readRow w.slot w.desc e.vid
      if r.code ≠ E_NONE then { a with st := r.st } else ⟨E_NONE, a.val ++ [r.val], r.st⟩) ⟨E_NONE, keep, s⟩
  ⟨E_NONE, { w with rows := x.val }, x.st⟩

/-- GW_SCORE_DONE: the keys of a slot's batch return and are inserted (R227, R233). -/
def State.gwScoreDone (s : State) (n : Nat) : State :=
  match s.walk n with
  | none => s
  | some w =>
    if w.phase ≠ .score ∨ s.unsent T_GW_SCORE w.r.src w.r.reqId then s
    else match s.workFail T_GW_SCORE w.r.src w.r.reqId with
      | some c => s.gwFail n w c
      | none =>
        if s.gwOnFlash w && s.heldLate w.late w.r then s
        else
          let x := (s.serveFor w.r).gwScores w.values { w with batch := [] } w.batch
          let s := x.st
          if x.code ≠ E_NONE then s.serveEnd.gwFail n w x.code
          else
            let s := if w.entered then s
              else { s with gw := { s.gw with noEntry := smPut (fun _ => false) s.gw.noEntry w.slot false } }
            let y := s.gwAhead { x.val with entered := true, phase := .expand }
            y.st.serveEnd.setWalk n y.val

/-- GW_SCORE_DONE (R227).
Assumption log: 58 (DESIGN CHOICE). -/
def execGwScoreDone (wslot : Nat) (s : State) : Res := s.live <| onUnit (wslot < 48) (s.gwScoreDone wslot)

/-! Pruning (R241). -/

/-- The FP32 code that a key stands for. -/
def codeOfKey (k : Nat) : Nat := if 2 ^ 31 ≤ k then k - 2 ^ 31 else 2 ^ 32 - 1 - k

/-- `a ≥ b` of two FP32 values; false where either is NaN. -/
def fpGe (a b : Fp) : Bool := match a, b with
  | .nan, _ => false
  | _, .nan => false
  | _, _ => !a.lt b

/-- A candidate inserted by ascending distance, then VID. -/
def insertCand (c : GwCand) : List GwCand → List GwCand
  | [] => [c]
  | d :: r =>
    if keyOfBits c.dist < keyOfBits d.dist ∨ (c.dist = d.dist ∧ c.vid < d.vid) then c :: d :: r else d :: insertCand c r

/-- GW_PAIR messages for pairs of VIDs (R227). -/
def State.gwSendPairs (s : State) (w : GwWalk) (ps : List (Nat × Nat)) : State :=
  (chunks 64 ps.length ps).foldl (fun s cs =>
    s.sendWork 5 T_GW_PAIR w.r (zeros 4 ++ leBytes 4 cs.length ++
      cs.flatMap fun p => leBytes 8 (w.desc.recAddr p.1) ++ leBytes 8 (w.desc.recAddr p.2))) s

/-- The distance between two records (R227). -/
def State.pairDist (s : State) (d : GwDesc) (a b : Nat) : GwRead Nat :=
  let x := s.load (d.recAddr a + 32) d.vecBytes
  if x.code ≠ E_NONE then ⟨x.code, 0, x.st⟩ else x.st.gwDist d (vecValues d.vecFmt d.vecScale d.dim x.data) b

/-- Distances between one record and several. -/
def State.pairDists (s : State) (d : GwDesc) (a : Nat) : List Nat → GwRead (List Nat)
  | [] => ⟨E_NONE, [], s⟩
  | b :: r =>
    let x := s.pairDist d a b
    if x.code ≠ E_NONE then ⟨x.code, [], x.st⟩
    else
      let y := x.st.pairDists d a r
      { y with val := x.val :: y.val }

/-- Whether a candidate is kept: ALPHA × each distance to a kept one is not below its own. -/
def keepCand (alpha : Nat) (c : GwCand) (ds : List Nat) : Bool :=
  ds.all fun x => fpGe (fMul (f32 alpha) (f32 x)).v (f32 c.dist).v

/-- Candidates go by until one has to be compared, or the pruning is complete: the walk with the pairs it waits for. -/
def GwWalk.pruneStep (w : GwWalk) : GwWalk × Bool :=
  match w.cands with
  | [] => (w, true)
  | c :: r =>
    if w.kept.length = w.desc.degree then ({ w with cands := [] }, true)
    else if w.kept.isEmpty then
      (match r with
        | [] => ({ w with kept := [c], cands := [] }, true)
        | _ => ({ w with kept := [c], cands := r }, decide (w.desc.degree = 1)))
    else (w, false)

/-! Writing a node (R242, R243). -/

/-- An adjacency entry (R231). -/
def edgeBytes (vid gen : Nat) : List Byte := leBytes 6 vid ++ leBytes 1 gen ++ [1]

/-- The edges to several VIDs, each with its target's current generation. -/
def State.edgesTo (s : State) (d : GwDesc) (vids : List Nat) : GwRead (List Byte) :=
  vids.foldl (fun (a : GwRead (List Byte)) v =>
    if a.code ≠ E_NONE then a
    else
      let g := a.st.readGen d v
      ⟨g.code, a.val ++ edgeBytes v g.val, g.st⟩) ⟨E_NONE, [], s⟩

/-- An insert's walk is stored after stores that succeeded, or ends with the code of the one that failed.
Assumption log: 70 (DEDUCED). -/
def State.gwStores (s : State) (n : Nat) (w : GwWalk) (ws : List (Nat × List Byte)) (k : State → GwWalk → State) : State :=
  let x := s.storeAll ws
  if x.1 ≠ E_NONE then x.2.gwFail n w x.1
  else k x.2 { w with wrote := w.wrote ++ ws.map fun p => (p.1, p.2.length) }

/-- The current edges of a record's row (R231): VIDs in entry order; the others are counted as stale. -/
def State.currentEdges (s : State) (slot : Nat) (d : GwDesc) : List (List Byte × Nat) → GwRead (List Nat)
  | [] => ⟨E_NONE, [], s⟩
  | (e, g) :: r =>
    let vid := at_ e 0 6
    let h := s.readHead slot d vid
    let ok := at_ e 7 1 % 2 == 1 && g == at_ e 6 1 && h.code == E_NONE && h.val.vid == vid && h.val.state != 0
    let y := (if ok then h.st else h.st.bump F.WLK_CNT_STALE_STALE_EDGES 1).currentEdges slot d r
    if ok then { y with val := vid :: y.val } else y

/-- The insert is complete: journalled, answered, its slot FREE (R241, R248).
Assumption log: 70 (DEDUCED). -/
def State.insertDone (s : State) (n : Nat) (w : GwWalk) : State :=
  ((s.freeWalk n).journal w.msg w.wrote).answer U_SEARCH w.r E_NONE

/-- The next neighbour to be linked to the new node (R243): an edge at entry NDEG, or a re-prune of its row. A row whose NDEG is DEGREE though
some of its edges are stale is re-pruned as well.
Assumption log: 70 (DEDUCED). -/
def State.linkNext (s : State) (n vid : Nat) : Nat → GwWalk → State
  | 0, w => s.insertDone n w
  | fuel + 1, w =>
    match w.links with
    | [] => s.insertDone n w
    | c :: rest =>
      let w := { w with links := rest }
      let d := w.desc
      let row := s.readRow w.slot d c.vid
      let own := row.st.readGen d vid
      if row.code ≠ E_NONE then row.st.gwFail n w row.code
      else if own.code ≠ E_NONE then own.st.gwFail n w own.code
      else if row.val.edges.length < d.degree then
        let k := row.val.edges.length
        own.st.gwStores n w [(d.edgeAddr c.vid + 8 * k, edgeBytes vid own.val), (d.recAddr c.vid + 8, leBytes 1 (k + 1))]
          fun s w => s.linkNext n vid fuel w
      else
        let cur := own.st.currentEdges w.slot d (List.zip row.val.edges row.val.gens)
        let s := cur.st.bump F.WLK_CNT_EXC_PRUNES 1
        let w := { w with phase := .rank, target := c.vid, kept := [c], cands := cur.val.map fun v => ⟨0, v⟩ }
        (s.setWalk n w).gwSendPairs w (cur.val.map fun v => (c.vid, v))

/-- The pruned list of a node is written: the new node's record (R242 step 3), or a neighbour's row (R243).
Assumption log: 70 (DEDUCED). -/
def State.pruneDone (s : State) (n : Nat) (w : GwWalk) : State :=
  let d := w.desc
  let b := w.r.payload
  let vid := at_ b 8 6
  let es := s.edgesTo d (w.kept.map GwCand.vid)
  if es.code ≠ E_NONE then es.st.gwFail n w es.code
  else if w.target = vid then
    if !s.journalRoom then s.gwFail n w E_CAPACITY
    else
      let st := es.st.load d.stateOff 64
      let head := leBytes 6 vid ++ [0, 1] ++ leBytes 1 w.kept.length ++ zeros 7
      let ws := [(d.recAddr vid + 32, w.query.take d.vecBytes), (d.recAddr vid + 16, (b.drop 16).take 8), (d.edgeAddr vid, es.val),
        (d.recAddr vid, head), (d.stateOff, leBytes 6 vid), (d.stateOff + 8, leBytes 8 (at_ st.data 8 8 + 1))]
      if st.code ≠ E_NONE then st.st.gwFail n w st.code
      else st.st.gwStores n { w with links := w.kept } ws fun s w => s.linkNext n vid 65 w
  else
    let old := s.readHead w.slot d w.target
    let nd := w.kept.length
    let clear := (rangeFrom nd (old.val.ndeg - nd)).map fun i => (d.edgeAddr w.target + 8 * i + 7, ([0] : List Byte))
    (es.st).gwStores n w ([(d.edgeAddr w.target, es.val)] ++ clear ++ [(d.recAddr w.target + 8, leBytes 1 nd)])
      fun s w => s.linkNext n vid 65 w

/-- Pruning goes on: a comparison is asked for, or the list is complete. -/
def State.pruneGo (s : State) (n : Nat) (w : GwWalk) : State :=
  let x := w.pruneStep
  if x.2 then s.pruneDone n x.1
  else match x.1.cands with
    | [] => s.pruneDone n x.1
    | c :: _ =>
      let w := { x.1 with phase := .prune }
      (s.setWalk n w).gwSendPairs w (w.kept.map fun k => (k.vid, c.vid))

/-- GW_PAIR_DONE: distances return, for one candidate's comparison or for the ranking of a neighbour's edges (R241, R243). -/
def State.gwPairDone (s : State) (n : Nat) : State :=
  match s.walk n with
  | none => s
  | some w =>
    if (w.phase ≠ .prune ∧ w.phase ≠ .rank) ∨ s.unsent T_GW_PAIR w.r.src w.r.reqId then s
    else match s.workFail T_GW_PAIR w.r.src w.r.reqId with
      | some c => s.gwFail n w c
      | none =>
        if w.phase = .rank then
          let x := (s.serveFor w.r).pairDists w.desc w.target (w.cands.map GwCand.vid)
          let s := x.st.serveEnd
          let own := w.kept.map fun c => ({ dist := c.dist, vid := at_ w.r.payload 8 6 } : GwCand)
          let cs := (List.zipWith (fun (c : GwCand) d => { c with dist := d }) w.cands x.val ++ own).foldl
            (fun a c => insertCand c a) []
          if x.code ≠ E_NONE then s.gwFail n w x.code else s.pruneGo n { w with phase := .prune, kept := [], cands := cs }
        else match w.cands with
          | [] => s.pruneGo n w
          | c :: r =>
            let x := (s.serveFor w.r).pairDists w.desc c.vid (w.kept.map GwCand.vid)
            let s := x.st.serveEnd
            if x.code ≠ E_NONE then s.gwFail n w x.code
            else s.pruneGo n { w with cands := r, kept := if keepCand w.desc.alpha c x.val then w.kept ++ [c] else w.kept }

/-- GW_PAIR_DONE (R241).
Assumption log: 58 (DESIGN CHOICE). -/
def execGwPairDone (wslot : Nat) (s : State) : Res := s.live <| onUnit (wslot < 48) (s.gwPairDone wslot)

/-- A walk has ended: the output list goes to the model, to selection, or to pruning (R235, R242). -/
def State.walkEnd (s : State) (n : Nat) (w : GwWalk) : State :=
  if w.insert then
    s.pruneGo n { w with phase := .prune, target := at_ w.r.payload 8 6, kept := [],
                         cands := w.out.map fun e => ⟨codeOfKey e.key, e.vid⟩ }
  else if w.model then (s.setWalk n { w with phase := .model }).sendModel w.slot w.k w.r w.out
  else s.gwFinish n w

/-- One expansion (R233). -/
def State.gwExpand (s : State) (n : Nat) (w : GwWalk) (c : GwEnt) : State :=
  let w := { w with list := w.list.map (fun e => if e.vid = c.vid then { e with expanded := true } else e),
                    expansions := w.expansions + 1 }
  let s := (s.bump F.WLK_CNT_EXP_EXPANSIONS 1).charge w.r.tenant 12 1
  let s := if c.tomb then s.bump F.WLK_CNT_STALE_TOMB_ROUTED 1 else s
  let s := s.serveFor w.r
  let row : GwRead GwRow := match w.rows.find? (fun r => r.vid == c.vid) with
    | some r => ⟨E_NONE, r, s⟩
    | none => s.readRow w.slot w.desc c.vid
  if row.code ≠ E_NONE then row.st.serveEnd.gwFail n w row.code
  else
    let x := row.st.gwConsiderAll { w with rows := w.rows.filter fun r => r.vid != c.vid } (List.zip row.val.edges row.val.gens)
    let s := x.st.serveEnd
    if x.code ≠ E_NONE then s.gwFail n w x.code else s.gwScore n x.val

/-- WALK_EXPANSION: the next beam entry is expanded, or the walk ends; a CANCEL is met at every expansion boundary (R233, R240). -/
def State.walkExpansion (s : State) (n : Nat) : State :=
  match s.walk n with
  | none => s
  | some w =>
    if w.phase ≠ .expand then s
    else if s.cancelled w.r.src w.r.reqId then s.gwFail n w E_CANCELLED
    else if s.gwOnFlash w && s.pastLate w.late w.r then s.gwLate n w
    else if s.gwOnFlash w && s.heldLate w.late w.r then s
    else match w.nextEnt with
      | none => s.walkEnd n w
      | some c => if w.expansions = w.maxExpand ∧ w.maxExpand ≠ 0 then s.walkEnd n w else s.gwExpand n w c

/-- WALK_EXPANSION (R233). -/
def execWalkExpansion (wslot : Nat) (s : State) : Res := s.live <| onUnit (wslot < 48) (s.walkExpansion wslot)

/-! Model rerank (R217). -/

/-- LS_MODEL_DONE: a MODEL panel's keys return as stage-2 entries, and the K best are selected (R217). -/
def State.modelDone (s : State) (src reqId : Nat) (keys : List Nat) : State :=
  if s.unsent T_LS_MODEL src reqId then s
  else match s.lsQuery src reqId, s.walkOf src reqId with
    | some q, _ =>
      if q.stage ≠ .model then s
      else match s.workFail T_LS_MODEL src reqId with
        | some c => s.lsFail q c
        | none => s.lsSelect q ((sortEntries (modelEntries q.cands keys)).take q.k)
    | none, some (n, w) =>
      if w.phase ≠ .model then s
      else match s.workFail T_LS_MODEL src reqId with
        | some c => s.gwFail n w c
        | none =>
          if s.cancelled src reqId then s.gwFail n w E_CANCELLED
          else (s.freeWalk n).startSelect U_SEARCH w.r w.merge w.desc.shard w.k w.flags (sortEntries (modelEntries w.out keys)) none w.old
    | none, none => s

/-- LS_MODEL_DONE (R217).
Assumption log: 58 (DESIGN CHOICE). -/
def execLsModelDone (src reqId : Nat) (keys : List Nat) (s : State) : Res := s.live <| .next (s.modelDone src reqId keys)

/-! Updates (R242 to R248, R497). -/

/-- An update is rejected (R248). -/
def State.gwReject (s : State) (r : Req) (code : Nat) : State :=
  (s.bump F.WLK_CNT_EXC_UPD_REJECT 1).answer U_SEARCH r code

/-- The field and length checks of R247 and R248. -/
def gwUpdateOk (d : GwDesc) (b : List Byte) : Bool :=
  match at_ b 0 1 with
  | 1 => b.length == 32 + d.vecBytes && decide (d.vidBase ≤ at_ b 8 6) && decide (at_ b 8 6 < d.vidBase + d.vidSpan)
  | 2 => b.length == 32
  | 3 => b.length == 32
  | 4 => decide (at_ b 24 1 ≤ d.degree) && b.length == 32 + 8 * at_ b 24 1
  | _ => false

/-- The walk of an insert (R242 step 1).
Assumption log: 71 (DESIGN CHOICE). -/
def insertWalk (r : Req) (msg : List Byte) (slot die : Nat) (d : GwDesc) : GwWalk :=
  { r := r, msg := msg, slot := slot, desc := d, die := die, insert := true, k := d.efInsert, beam := d.efInsert, nentry := 16,
    qfmt := d.vecFmt, qscale := d.vecScale, query := r.payload.drop 32 }

/-- INSERT: the checks of R248, then a job that waits for a slot. LAST_VID + 1 is compared modulo 2^48, since LAST_VID may stand at −1. -/
def State.gwInsert (s : State) (r : Req) (msg : List Byte) (slot die : Nat) (d : GwDesc) : State :=
  let vid := at_ r.payload 8 6
  let st := (s.serveFor r).load d.stateOff 64
  let h := st.st.readHead slot d vid
  let s := h.st.serveEnd
  if st.code ≠ E_NONE then s.gwReject r st.code
  else if h.code ≠ E_NONE then s.gwReject r h.code
  else if vid < (at_ st.data 0 6 + 1) % 2 ^ 48 then s.gwReject r E_MALFORMED
  else if h.val.state ≠ 0 then s.gwReject r E_CAPACITY
  else if r.rehearsal then s.answer U_SEARCH r E_NONE
  else s.gwQueue (insertWalk r msg slot die d)

/-- An edit's stores are made and journalled, and the update is answered; a rehearsal's changes nothing (R497). -/
def State.gwApply (s : State) (r : Req) (msg : List Byte) (ws : List (Nat × List Byte)) : State :=
  if r.rehearsal then s.answer U_SEARCH r E_NONE
  else
    let x := s.storeAll ws
    if x.1 ≠ E_NONE then x.2.gwReject r x.1
    else (x.2.journal msg (ws.map fun w => (w.1, w.2.length))).answer U_SEARCH r E_NONE

/-- A delete of a VID (R244). -/
def State.gwDelete (s : State) (r : Req) (msg : List Byte) (slot : Nat) (d : GwDesc) : State :=
  let vid := at_ r.payload 8 6
  let h := s.readHead slot d vid
  let st := h.st.load d.stateOff 64
  if h.code ≠ E_NONE then h.st.gwReject r h.code
  else if st.code ≠ E_NONE then st.st.gwReject r st.code
  else if h.val.vid ≠ vid ∨ h.val.state = 0 then st.st.gwReject r E_ABSENT
  else if h.val.state = 2 then st.st.gwApply r msg []
  else st.st.gwApply r msg [(d.recAddr vid + 7, [2]), (d.stateOff + 8, leBytes 8 (at_ st.data 8 8 - 1)),
    (d.stateOff + 16, leBytes 8 (at_ st.data 16 8 + 1))]

/-- A compaction of a VID's slot (R245). -/
def State.gwCompact (s : State) (r : Req) (msg : List Byte) (slot : Nat) (d : GwDesc) : State :=
  let vid := at_ r.payload 8 6
  let h := s.readHead slot d vid
  let g := h.st.readGen d vid
  let st := g.st.load d.stateOff 64
  if h.code ≠ E_NONE then h.st.gwReject r h.code
  else if g.code ≠ E_NONE then g.st.gwReject r g.code
  else if st.code ≠ E_NONE then st.st.gwReject r st.code
  else if h.val.vid ≠ vid ∨ h.val.state ≠ 2 then st.st.gwReject r E_MALFORMED
  else st.st.gwApply r msg ([(d.genOff + d.nodeSlot vid, leBytes 1 (g.val + 1)), (d.recAddr vid + 7, [0, 0])] ++
    (List.range d.degree).map (fun i => (d.edgeAddr vid + 8 * i + 7, ([0] : List Byte))) ++
    [(d.stateOff + 16, leBytes 8 (at_ st.data 16 8 - 1))])

/-- Whether every VID is held LIVE or TOMBSTONED. -/
def State.allHeld (s : State) (slot : Nat) (d : GwDesc) : List Nat → GwRead Bool
  | [] => ⟨E_NONE, true, s⟩
  | v :: r =>
    let h := s.readHead slot d v
    if h.code ≠ E_NONE then ⟨h.code, false, h.st⟩
    else if h.val.vid ≠ v ∨ h.val.state = 0 then ⟨E_NONE, false, h.st⟩
    else h.st.allHeld slot d r

/-- A node's row replaced (R246); a node that is not held itself is answered as a target would be. -/
def State.gwSetEdges (s : State) (r : Req) (msg : List Byte) (slot : Nat) (d : GwDesc) : State :=
  let b := r.payload
  let vid := at_ b 8 6
  let vs := (entries8 (at_ b 24 1) (b.drop 32)).map fun e => at_ e 0 6
  let h := s.allHeld slot d (vid :: vs)
  let es := h.st.edgesTo d vs
  if h.code ≠ E_NONE then h.st.gwReject r h.code
  else if !h.val then h.st.gwReject r E_ABSENT
  else if es.code ≠ E_NONE then es.st.gwReject r es.code
  else es.st.gwApply r msg [(d.edgeAddr vid, es.val), (d.recAddr vid + 8, leBytes 1 vs.length)]

/-- The UPDATE_VEC at the head of a ring whose pair a walker slot holds. It waits in its ring while an update of its shard is in progress
or every slot of its die is busy (R226, R241). -/
def State.gwUpdateAt (s : State) (ring : Nat) (mine : Nat → Bool)
    (f : State → Req → List Byte → Nat → GwDesc → State) : State :=
  match s.headReq ring U_SEARCH T_UPDATE_VEC with
  | none => s
  | some (m, r) =>
    match s.gwSlot (at_ r.payload 1 1) (at_ r.payload 2 2) with
    | none => s
    | some (n, d) =>
      if !mine (at_ r.payload 0 1) || s.shardBusy n || (s.freeSlot (s.ringDie ring)).isNone then s
      else
        let s := s.popMsg ring m
        if !gwUpdateOk d r.payload then s.gwReject r E_MALFORMED
        else if s.deadlinePassed r.deadline then s.gwReject r E_DEADLINE
        else if s.cancelled r.src r.reqId then s.gwReject r E_CANCELLED
        else if !s.journalRoom then s.gwReject r E_CAPACITY
        else f s r m n d

/-- INSERT (R242); an OP that is none is answered here as well (R248). -/
def execInsert (ring : Nat) (s : State) : Res := s.live <|
  onUnit (ring < 8192) (s.gwUpdateAt ring (fun op => !(op == 2 || op == 3 || op == 4)) fun s r m n d =>
    s.gwInsert r m n (s.ringDie ring) d)
/-- GW_DELETE (R244). -/
def execGwDelete (ring : Nat) (s : State) : Res := s.live <| onUnit (ring < 8192) (s.gwUpdateAt ring (· == 2) State.gwDelete)
/-- COMPACT (R245). -/
def execCompact (ring : Nat) (s : State) : Res := s.live <| onUnit (ring < 8192) (s.gwUpdateAt ring (· == 3) State.gwCompact)
/-- SET_EDGES (R246). -/
def execSetEdges (ring : Nat) (s : State) : Res := s.live <| onUnit (ring < 8192) (s.gwUpdateAt ring (· == 4) State.gwSetEdges)

/-! What other happenings do to walks. -/

/-- A late point's effect on a walk (R240).
Assumption log: 63 (DEDUCED). -/
def State.gwLatePoint (s : State) (src reqId : Nat) : State :=
  match s.walkOf src reqId with
  | some (n, w) => if s.pastLate w.late w.r && s.gwOnFlash w then s.gwLate n w else s
  | none => s

/-- LATE_POINT of a request (R189). -/
def execLatePoint (src reqId : Nat) (s : State) : Res := s.live <| .next ((s.lsLatePoint src reqId).gwLatePoint src reqId)

/-- The dovetail window closes: walks admitted against an OLD_COPY shard end with E_EPOCH (R240). -/
def State.gwExpireOld (s : State) : State :=
  let s := (s.gw.walks.filterMap fun e => e.2.map fun w => (e.1, w)).foldl
    (fun s e => if e.2.old then s.gwFail e.1 e.2 E_EPOCH else s) s
  let q := s.gw.queue.filter GwWalk.old
  q.foldl (fun s w => s.failSearch U_SEARCH w.r w.merge w.desc.shard w.k w.flags E_EPOCH)
    { s with gw := { s.gw with queue := s.gw.queue.filter fun w => !w.old } }

/-- A reset that covers the walker (R474, R476). -/
def State.gwReset (s : State) : State :=
  let ws := (s.gw.walks.filterMap Prod.snd) ++ s.gw.queue
  let s := (List.range 48).foldl (fun s n => s.freeWalk n) s
  let s := { s with gw := { s.gw with queue := [], noEntry := [], invalid := [] } }
  ws.foldl (fun s w => s.forget w.r.src w.r.reqId) s

end Sys2Proof.Machine
end

