-- ==== Sys2Proof/Machine/Panels.lean ====
section
/-! DEFINITION. The image loader's controls, promotion, panel reloads, and the map cut with its dovetail window (R72 to R89, R534). -/

namespace Sys2Proof.Machine

/-! Panels. -/

/-- IMG_PANEL_STATE.STATE codes. -/
def PS_FREE : Nat := 0
def PS_ACTIVE : Nat := 1
def PS_DRAINING : Nat := 2
def PS_WAITING : Nat := 3
def PS_LOADING : Nat := 4
def PS_ACTIVATING : Nat := 5
def PS_HELD : Nat := 6

/-- The panels. -/
def panelIds : List Nat := List.range 64

/-- A panel. -/
def State.panel (s : State) (p : Nat) : PanelSt := smGet (fun _ => {}) s.img.panels p

/-- A panel, replaced. -/
def State.setPanel (s : State) (p : Nat) (v : PanelSt) : State :=
  { s with img := { s.img with panels := smPut (fun _ => {}) s.img.panels p v } }

/-- The state of a panel. -/
def State.panState (s : State) (p : Nat) : Nat := s.get (F.IMG_PANEL_STATE_STATE p)

/-- The state of a panel, replaced. -/
def State.setPanState (s : State) (p v : Nat) : State := s.set (F.IMG_PANEL_STATE_STATE p) v

/-- The low 32 bits of the beat at which a reload of a panel completed or failed. -/
def State.notePanel (s : State) (p : Nat) : State := s.set (F.IMG_PANEL_STATE_LAST_BEAT p) s.beatNow

/-- IMG_STATUS.LAST_RESULT, replaced. -/
def State.imgResult (s : State) (r : Nat) : State := s.set F.IMG_STATUS_LAST_RESULT r

/-- IMG_STATUS.STAGE_STATE, replaced. -/
def State.stageState (s : State) (v : Nat) : State := s.set F.IMG_STATUS_STAGE_STATE v

/-- A panel's definition in an image. -/
def Image.panel (i : Image) (p : Nat) : Option PanelDef := smGet (fun _ => none) i.panels p

/-- What two definitions must share to be one: role, tiles, sections by type and digest. -/
def PanelDef.same (a b : PanelDef) : Bool :=
  a.role == b.role && a.tiles == b.tiles && (a.sections.map fun x => (x.ty, x.digest)).isPerm (b.sections.map fun x => (x.ty, x.digest))

/-- Whether two panels are defined alike. -/
def sameDef : Option PanelDef → Option PanelDef → Bool
  | none, none => true
  | some a, some b => a.same b
  | _, _ => false

/-- The node-wide sections that a panel reload and a MAP_CUT do not apply (R72). -/
def Image.nodeWide (i : Image) : List (Nat × Nat × List Byte) :=
  (i.sections.filter fun x => !panelScoped x.ty && x.ty != 3 && x.ty != 4 && x.ty != 5).map fun x => (x.ty, x.len, x.digest)

/-- Whether the staged image is in the NODE_CHANGED state (R72). -/
def State.nodeChanged (s : State) : Bool :=
  match s.img.staged, s.img.active with
  | some a, some b => !a.nodeWide.isPerm b.nodeWide
  | _, _ => false

/-! Promotion (R75). -/

/-- The image part of M2 and M3 (R461). -/
def State.extendImage (s : State) (reg row : Nat) (i : Image) : State := s.extend reg row (leBytes 8 i.id) i.digest

/-- A panel's reloads that came from the staged image no longer do: it has become active. -/
def PanelSt.unstaged (x : PanelSt) : PanelSt :=
  { x with job := x.job.map fun j => { j with staged := false }, queued := x.queued.map fun j => { j with staged := false } }

/-- A panel whose running definition differs from the active image is STALE.
Assumption log: 172 (DEDUCED). -/
def State.markStale (s : State) (i : Image) (p : Nat) : State :=
  match (s.panel p).run with
  | some d => s.setBit (F.IMG_PANEL_STATE_STALE p) (!sameDef (some d) (i.panel p))
  | none => s.setBit (F.IMG_PANEL_STATE_STALE p) false

/-- The staged place is empty. -/
def State.unstage (s : State) : State :=
  (({ s with img := { s.img with staged := none, used := false, reloaded := [] } }.stageState 0).set F.IMG_STAGED_ID_ID 0).imgResult IR_OK

/-- The staged image becomes active: tenants at once, the route map if its epoch is current (R75). -/
def State.promoteImage (s : State) (i : Image) : State :=
  let s := s.unstage
  let routes := if i.routeEpoch = s.mapEpoch then i.routes else s.img.routes
  let panels := s.img.panels.map fun e => (e.1, e.2.unstaged)
  let s := { s with img := { s.img with active := some i, tenants := i.tenants, routes := routes, panels := panels } }
  let s := s.set F.IMG_ACTIVE_ID_ID i.id
  let s := panelIds.foldl (fun s p => s.markStale i p) s
  (s.extendImage 3 3 i).raise EV_IMAGE_PROMOTED 0 []

/-- Whether every panel that is defined otherwise has completed a reload from the staged image, and its map epoch is current (R75). An image
with the active image's ROUTE_EPOCH needs no cut.
Assumption log: 172 (DEDUCED). -/
def State.promotable (s : State) (i a : Image) : Bool :=
  (i.routeEpoch == a.routeEpoch || i.routeEpoch == s.mapEpoch) &&
    panelIds.all fun p => sameDef (i.panel p) (a.panel p) || s.img.reloaded.contains p

/-- Promotion, once its conditions hold (R75). -/
def State.maybePromote (s : State) : State :=
  match s.img.staged, s.img.active with
  | some i, some a => if s.img.full = 0 ∧ !s.nodeChanged ∧ s.promotable i a then s.promoteImage i else s
  | _, _ => s

/-! Controls (R71, R74, R75, R89). -/

/-- IMG_CTRL.STAGE: the check of an image begins (R71). -/
def State.stage (s : State) : State :=
  if s.img.verifying.isSome ∨ s.img.staged.isSome ∨ s.img.full ≠ 0 then s.imgResult IR_BUSY
  else
    { s with img := { s.img with verifying := some (s.get F.IMG_STAGE_ADDR_ADDR, s.get F.IMG_STAGE_LEN_LEN) } }.stageState 1

/-- STAGE (R71). -/
def execStage (s : State) : Res := s.live <| .next s.stage

/-- An image that has passed every check becomes the staged image (R71, R72). -/
def State.setStaged (s : State) (i : Image) : State :=
  let s := { s with img := { s.img with verifying := none, staged := some i, used := false, reloaded := [] } }
  let s := (s.set F.IMG_STATUS_STAGED_BEAT s.beatNow).set F.IMG_STAGED_ID_ID i.id
  let s := if s.nodeChanged then (s.stageState 4).imgResult IR_CHANGED else (s.stageState 2).imgResult IR_OK
  (s.raise EV_IMAGE_STAGED 0 []).maybePromote

/-- The checks of a staging end (R71). -/
def State.stagingDone (s : State) : State :=
  match s.img.verifying with
  | none => s
  | some (a, n) =>
    let x := s.checkImage a n
    let s := x.2.2
    if x.1 = IR_OK then s.setStaged x.2.1
    else (({ s with img := { s.img with verifying := none } }.stageState 0).imgResult x.1).raise EV_IMAGE_REJECTED 0 []

/-- STAGING_DONE (R71). -/
def execStagingDone (s : State) : Res := s.live <| .next s.stagingDone

/-- Whether a control that needs a staged image is turned away (R74, R89). -/
def State.imgBusy (s : State) : Bool := s.img.verifying.isSome || s.img.full != 0 || s.img.staged.isNone

/-- IMG_CTRL.DISCARD (R74). -/
def State.discard (s : State) : State := if s.imgBusy || s.img.used then s.imgResult IR_BUSY else s.unstage

/-- DISCARD (R74). -/
def execDiscard (s : State) : Res := s.live <| .next s.discard

/-- IMG_CTRL.PROMOTE (R75, R89).
Assumption log: 172 (DEDUCED). -/
def State.promote (s : State) : State :=
  if s.imgBusy then s.imgResult IR_BUSY
  else if s.nodeChanged then s.imgResult IR_CHANGED
  else
    match s.img.staged with
    | some i => s.promoteImage i
    | none => s

/-- PROMOTE (R75). -/
def execPromote (s : State) : Res := s.live <| .next s.promote

/-! The map cut (R82 to R85). -/

/-- The first use of the staged image by a MAP_CUT or a PANEL_RELOAD (R74, R461). -/
def State.useStaged (s : State) : State :=
  match s.img.staged with
  | none => s
  | some i => if s.img.used then s else ({ s with img := { s.img with used := true } }.stageState 3).extendImage 3 3 i

/-- Why a MAP_CUT armed for a beat is not applied; 0 where it is (R82). -/
def State.cutReason (s : State) (armed arg : Nat) : Nat :=
  if s.img.full ≠ 0 then 1
  else if arg ≠ (s.mapEpoch + 1) % 2 ^ 32 then 2
  else
    match s.img.staged with
    | none => 3
    | some i =>
      if s.nodeChanged ∨ i.routeEpoch ≠ arg then 3
      else
        let d := (armed + beatMod - s.get F.IMG_STATUS_STAGED_BEAT) % beatMod
        if 64 ≤ d ∧ d < 2 ^ 47 then 0 else 4

/-- Whether the dovetail window is open. -/
def State.windowOpen (s : State) : Bool := s.bit F.IMG_DOVE_OPEN

/-- The window closes: old copies are dropped, reads admitted against them end, and the previous epoch is served no more (R85, R218).
Assumption log: 170 (DEDUCED), 177 (DEDUCED). -/
def State.endWindow (s : State) : State :=
  let s := s.setBit F.IMG_DOVE_OPEN false
  let s := (s.lsExpireOld).gwExpireOld
  { s with img := { s.img with oldCopies := [] } }

/-- The window closes and says so (R85). -/
def State.closeWindow (s : State) : State := if s.windowOpen then s.endWindow.raise EV_DOVETAIL_CLOSED 0 [] else s

/-- The shards that this node was home for under one map and is not under another (R83).
Assumption log: 177 (DEDUCED). -/
def oldCopiesOf (node : Nat) (was is_ : List Route) : List Route :=
  was.filter fun r => r.home == node &&
    !(is_.any fun x => x.home == node && x.kind == r.kind && x.object == r.object && x.shard == r.shard)

/-- A MAP_CUT at its dispatch slot (R82, R83). -/
def State.mapCut (s : State) (armed arg : Nat) : State :=
  let why := s.cutReason armed arg
  if why ≠ 0 then s.raise EV_MAP_CUT_REJECTED 0 [why, arg, s.mapEpoch]
  else
    match s.img.staged with
    | none => s
    | some i =>
      let s := s.closeWindow
      let s := (s.set F.IMG_MAP_PREVIOUS s.mapEpoch).set F.IMG_MAP_CURRENT arg
      let old := oldCopiesOf s.node s.img.routes i.routes
      let s := { s with img := { s.img with routes := i.routes, tenants := i.tenants, oldCopies := old } }
      let s := (s.setBit F.IMG_DOVE_OPEN true).set F.IMG_DOVE_CLOSE_BEAT ((s.beatNow + s.get F.IMG_CFG_DOVETAIL_BEATS) % beatMod)
      (s.useStaged.raise EV_MAP_CUT 0 []).maybePromote

/-- The window reaches the cut beat plus DOVETAIL_BEATS (R84, R85). -/
def State.dovetailExpiry (s : State) : State := if beatAfter (s.get F.IMG_DOVE_CLOSE_BEAT) s.beatNow then s else s.closeWindow

/-- DOVETAIL_EXPIRY (R85). -/
def execDovetailExpiry (s : State) : Res := s.live <| .next s.dovetailExpiry

/-! Panel reload (R76 to R81, R534). -/

/-- A reload enters DRAINING (R78). -/
def State.beginReload (s : State) (p : Nat) (j : Reload) : State :=
  (s.setPanel p { s.panel p with job := some j, drainAt := s.now }).setPanState p PS_DRAINING

/-- A PANEL_RELOAD at its dispatch slot (R76, R80, R534).
Assumption log: 173 (DEDUCED). -/
def State.panelReload (s : State) (target : Nat) : State :=
  if s.img.full ≠ 0 then s.raise EV_PANEL_RELOAD_FAILED (if target ≤ 63 then target else 0) [IR_BUSY]
  else if 63 < target then s.raise EV_PANEL_RELOAD_FAILED 0 [IR_FORMAT]
  else
    let staged := s.img.staged.isSome && !s.nodeChanged
    let src := if staged then s.img.staged else s.img.active
    let s := if staged then s.useStaged else s
    let j : Reload := { seq := s.img.seq, staged := staged, defn := src.bind fun i => i.panel target }
    let s := { s with img := { s.img with seq := s.img.seq + 1 } }
    let x := s.panel target
    if x.job.isSome then s.setPanel target { x with queued := x.queued ++ [j] } else s.beginReload target j

/-- A reload has ended: the next one of the panel starts, waiting work may find room, the staged image may be promoted (R75, R80). -/
def State.endReload (s : State) (p : Nat) (done : Bool) : State :=
  let x := s.panel p
  let fromStaged := done && (match x.job with
    | some j => j.staged
    | none => false)
  let s := if fromStaged then { s with img := { s.img with reloaded := p :: s.img.reloaded } } else s
  let s := s.flushWork
  let x := s.panel p
  let s := match x.queued with
    | [] => s.setPanel p { x with job := none }
    | j :: r => (s.setPanel p { x with job := none, queued := r }).beginReload p j
  s.maybePromote

/-- A tile belongs to no panel: it holds no graph and takes no tokens (R64). -/
def State.freeTile (s : State) (t : Nat) : State :=
  let s := { s with mem := s.mem.filter fun c => !(decide (benchBase t + graphOff ≤ c.1) && decide (c.1 < benchBase t + 0x400000)) }
  (s.setTileState t TS_UNASSIGNED).set (F.TILE_STATUS_PANEL t) 0

/-- Tiles leave a panel. -/
def State.dropTiles (s : State) (p : Nat) (out : List Nat) : State :=
  let x := s.panel p
  let keep := x.tiles.filter fun t => !out.contains t
  let s := (s.setPanel p { x with tiles := keep }).set (F.IMG_PANEL_STATE_NTILES p) keep.length
  out.foldl State.freeTile s

/-- A panel retires (R534). -/
def State.retire (s : State) (p : Nat) : State :=
  let s := s.dropTiles p (s.panel p).tiles
  let s := s.setPanel p { s.panel p with run := none }
  let s := ((s.setPanState p PS_FREE).setBit (F.IMG_PANEL_STATE_STALE p) false).set (F.IMG_PANEL_STATE_ROLE p) 0
  ((s.notePanel p).raise EV_PANEL_RELOADED p [0]).endReload p true

/-- Whether a tile of a panel still runs a chain. -/
def State.panelBusy (s : State) (p : Nat) : Bool := (s.panel p).tiles.any fun t => (s.tile t).chain.isSome

/-! Draining for a full load (R76). -/

/-- A waiting message is answered or reported with E_CANCELLED, and freed. -/
def State.cancelHead (s : State) (g : Nat) (m : List Byte) : State :=
  let r := s.reqOf m
  (s.popMsg g m).failChain r E_CANCELLED

/-- Every message that waits in a ring ends with E_CANCELLED (R76). -/
def State.cancelRing (s : State) (g : Nat) : Nat → State
  | 0 => s
  | fuel + 1 =>
    match s.headMsg g with
    | none => s
    | some m => (s.cancelHead g m).cancelRing g fuel

/-- Every message that waits in an inbound ring ends with E_CANCELLED (R76). -/
def State.cancelRings (s : State) : State :=
  (s.rings.map Prod.fst).foldl (fun s g => s.cancelRing g ((s.tailOf g - s.headOf g) / 64 + 1)) s

/-- Once no panel drains any more, the full load begins to load (R76). -/
def State.fullDrained (s : State) : State :=
  if s.img.full = 1 ∧ panelIds.all fun p => s.panState p != PS_DRAINING then
    let t := s.cancelRings
    { t with img := { t.img with full := 2 } }
  else s

/-- A reload dispatched and not completed ends with BUSY (R76). -/
def State.dropReloads (s : State) (p : Nat) : State :=
  let x := s.panel p
  let n := x.queued.length + (if x.job.isSome then 1 else 0)
  let s := s.setPanel p { x with job := none, queued := [] }
  let s := if n = 0 then s else s.notePanel p
  (List.range n).foldl (fun s _ => s.raise EV_PANEL_RELOAD_FAILED p [IR_BUSY]) s

/-- A panel begins to drain for a full load. -/
def State.fullDrain (s : State) (p : Nat) : State :=
  if s.panState p = PS_FREE then s
  else
    let held := s.panState p == PS_HELD
    let s := (s.dropReloads p).setPanState p PS_DRAINING
    let s := s.setPanel p { s.panel p with drainAt := s.now }
    if held then { s with img := { s.img with held := p :: s.img.held } } else s

/-- IMG_CTRL.APPLY_FULL (R76, R89). -/
def State.applyFull (s : State) : State :=
  if s.imgBusy then s.imgResult IR_BUSY
  else
    let s := { s with img := { s.img with full := 1, held := [], loading := none } }.setBit F.IMG_STATUS_FULL_BUSY true
    (panelIds.foldl State.fullDrain s).fullDrained

/-- APPLY_FULL (R76). -/
def execApplyFull (s : State) : Res := s.live <| .next s.applyFull

/-- The panels as they were before a full load that has failed (R73, R76).
Assumption log: 171 (DEDUCED). -/
def State.restorePanel (s : State) (p : Nat) : State :=
  if s.panState p = PS_FREE then s
  else if s.img.held.contains p then s.setPanState p PS_HELD
  else s.setPanState p (if (s.panel p).run.isSome then PS_ACTIVE else PS_FREE)

/-! The phases of a reload (R78). -/

/-- The last taken token of a draining panel has completed (R78). -/
def State.drainDone (s : State) (p : Nat) : State :=
  if s.panState p ≠ PS_DRAINING ∨ s.panelBusy p then s
  else
    match (s.panel p).job with
    | none => (s.setPanState p PS_WAITING).fullDrained
    | some j =>
      match j.defn with
      | none => s.retire p
      | some d => (s.dropTiles p ((s.panel p).tiles.filter fun t => !d.tiles.contains t)).setPanState p PS_WAITING

/-- PANEL_DRAIN_DONE (R78). -/
def execPanelDrainDone (panel : Nat) (s : State) : Res := s.live <| onUnit (panel < 64) (s.drainDone panel)

/-- A chain still running at the bound is stopped: a halted one at once, another at its next descriptor boundary (R78, R147). -/
def State.stopChain (s : State) (p t : Nat) : State :=
  let x := s.tile t
  match x.chain with
  | none => s
  | some c =>
    if c.stopAt then s
    else
      let s := s.raiseReq EV_PANEL_DRAIN_TIMEOUT p [c.reqId] c.tenant c.reqId
      if x.halted then (s.setBit (F.TILE_DBG_CTRL_HALT t) false).drainStop t c
      else s.setTile t { x with chain := some { c with stopAt := true } }

/-- DRAINING reaches 122 beats (R78). -/
def State.drainTimeout (s : State) (p : Nat) : State :=
  if s.panState p ≠ PS_DRAINING ∨ !s.panelBusy p then s
  else (s.panel p).tiles.foldl (fun s t => s.stopChain p t) (s.reach ((s.panel p).drainAt + beatsNs 122))

/-- PANEL_DRAIN_TIMEOUT (R78). -/
def execPanelDrainTimeout (panel : Nat) (s : State) : Res := s.live <| onUnit (panel < 64) (s.drainTimeout panel)

/-- Whether a reload dispatched before another still has its load phase ahead (R79). -/
def State.loadAhead (s : State) (seq : Nat) : Bool :=
  panelIds.any fun p =>
    let x := s.panel p
    (match x.job with
      | some j => decide (j.seq < seq) && j.defn.isSome && (s.panState p == PS_DRAINING || s.panState p == PS_WAITING)
      | none => false) || x.queued.any fun j => decide (j.seq < seq) && j.defn.isSome

/-- Whether another panel holds a tile. -/
def State.tileTaken (s : State) (p t : Nat) : Bool := panelIds.any fun q => q != p && (s.panel q).tiles.contains t

/-- A definition is tried: its tiles, then its bodies (R80). The result, the bodies, and the state. -/
def State.tryDef (s : State) (p : Nat) (d : PanelDef) : Nat × List (List Byte) × State :=
  if d.tiles.any (s.tileTaken p) then (IR_TILES, [], s)
  else
    let x := s.readBodies d.addr d.sections
    match x.1 with
    | none => (IR_DIGEST, [], x.2)
    | some bs => (IR_OK, bs.map SecBody.body, x.2)

/-- A definition's load phase begins, or its failure is reported (R80). -/
def State.loadDef (s : State) (p : Nat) (j : Reload) (d : PanelDef) : Bool × State :=
  let x := s.tryDef p d
  let s := x.2.2
  if x.1 = IR_OK then
    let s := s.setPanel p { s.panel p with job := some { j with loading := some d, bodies := x.2.1 } }
    (true, { s with img := { s.img with loading := some p } }.setPanState p PS_LOADING)
  else (false, s.raise EV_PANEL_RELOAD_FAILED p [x.1])

/-- The panel takes no tokens until a PANEL_RELOAD or a full load (R80). -/
def State.holdPanel (s : State) (p : Nat) : State := ((s.setPanState p PS_HELD).notePanel p).endReload p false

/-- The loader takes a waiting reload: the new definition, else the active image's, else HELD (R80). -/
def State.loadStart (s : State) (p : Nat) : State :=
  match (s.panel p).job with
  | none => s
  | some j =>
    match j.defn with
    | none => s
    | some d =>
      if s.panState p ≠ PS_WAITING ∨ s.img.loading.isSome ∨ s.img.full ≠ 0 ∨ s.loadAhead j.seq then s
      else
        let x := s.loadDef p j d
        if x.1 then x.2
        else
          let j := { j with staged := false }
          let s := x.2.setPanel p { x.2.panel p with job := some j }
          match s.img.active.bind fun i => i.panel p with
          | none => s.retire p
          | some a =>
            let y := s.loadDef p j a
            if y.1 then y.2 else y.2.holdPanel p

/-- PANEL_LOAD_START (R80). -/
def execPanelLoadStart (panel : Nat) (s : State) : Res := s.live <| onUnit (panel < 64) (s.loadStart panel)

/-! What a load writes. -/

/-- The bytes of every ring in a bench, its two words included. -/
def State.benchRings (s : State) (t : Nat) : List (Nat × Nat) :=
  (s.rings.filter fun e => decide (0 < e.2.size) && e.2.base / 0x400000 == t && decide (e.2.base < 0xA8000000)).map
    fun e => (e.2.base, e.2.base + e.2.size + 16)

/-- A bench reads 0, but for its rings (R78). -/
def State.clearBench (s : State) (t : Nat) : State :=
  let keep := s.benchRings t
  let out (a : Nat) : Bool := !(decide (benchBase t ≤ a) && decide (a < benchBase t + 0x400000)) ||
    keep.any fun k => decide (k.1 ≤ a) && decide (a < k.2)
  { s with mem := s.mem.filter (fun c => out c.1), ecc := s.ecc.filter (fun e => out e.1) }

/-- The credits of a class of the j-th tile of a panel, from a CREDITS body: what the ring does not already hold is available (R140).
Assumption log: 174 (DEDUCED). -/
def State.loadCredit (s : State) (es : List CreditEnt) (t j c : Nat) : State :=
  match creditFor es j c with
  | none => s.setReg (Reg.TILE_CREDIT t c) 0
  | some e =>
    let used := (s.tailOf e.ring - s.headOf e.ring) / 64
    let s := (s.setReg (Reg.TILE_CREDIT t c) 0).set (F.TILE_CREDIT_CAPACITY t c) e.cap
    (s.set (F.TILE_CREDIT_RING t c) e.ring).set (F.TILE_CREDIT_AVAIL t c) (e.cap - used)

/-- A section's body applied to the j-th tile of a panel (R65, R127, R140). -/
def State.loadSection (s : State) (t j : Nat) (x : Nat × List Byte) : State :=
  match x.1 with
  | 0x10 => s.putBytes (benchBase t + graphOff) x.2
  | 0x11 => if at_ x.2 0 2 = j ∨ at_ x.2 0 2 = 0xFFFF then s.putBytes (benchBase t + at_ x.2 8 4) ((x.2.drop 16).take (at_ x.2 12 4)) else s
  | _ => (List.range 16).foldl (fun s c => s.loadCredit (creditsOf x.2) t j c) s

/-- The j-th tile of a panel is loaded and belongs to it. -/
def State.loadTile (s : State) (p : Nat) (bs : List (Nat × List Byte)) (e : Nat × Nat) : State :=
  let s := bs.foldl (fun s x => s.loadSection e.1 e.2 x) (s.clearBench e.1)
  let s := s.setTile e.1 { s.tile e.1 with chain := none, halted := false, passed := false }
  (s.setTileState e.1 TS_IDLE).set (F.TILE_STATUS_PANEL e.1) p

/-- A definition with its bodies is written to its tiles, and runs from now on. -/
def State.loadPanel (s : State) (p : Nat) (d : PanelDef) (bodies : List (List Byte)) : State :=
  let s := s.setPanel p { s.panel p with run := some d, tiles := d.tiles }
  let s := (s.set (F.IMG_PANEL_STATE_NTILES p) d.tiles.length).set (F.IMG_PANEL_STATE_ROLE p) d.role
  d.tiles.zipIdx.foldl (fun s e => s.loadTile p ((d.sections.map Section.ty).zip bodies) e) s

/-- The reload volume has been written (R78). -/
def State.loadDone (s : State) (p : Nat) : State :=
  match (s.panel p).job with
  | none => s
  | some j =>
    match j.loading with
    | none => s
    | some d =>
      if s.panState p ≠ PS_LOADING then s
      else
        let s := (s.loadPanel p d j.bodies).setPanState p PS_ACTIVATING
        { s with img := { s.img with loading := none } }

/-- PANEL_LOAD_DONE (R78). -/
def execPanelLoadDone (panel : Nat) (s : State) : Res := s.live <| onUnit (panel < 64) (s.loadDone panel)

/-- The panel takes tokens again (R78, R79). -/
def State.activated (s : State) (p : Nat) : State :=
  if s.panState p ≠ PS_ACTIVATING then s
  else
    let s := ((s.setPanState p PS_ACTIVE).setBit (F.IMG_PANEL_STATE_STALE p) false).notePanel p
    (s.raise EV_PANEL_RELOADED p [(s.panel p).tiles.length]).endReload p true

/-- PANEL_ACTIVATED (R79). -/
def execPanelActivated (panel : Nat) (s : State) : Res := s.live <| onUnit (panel < 64) (s.activated panel)

/-- A reset that covers a panel's tiles ends its reload in HELD (R81). -/
def State.holdReload (s : State) (p : Nat) : State :=
  if (s.panel p).job.isSome then
    let s := if s.img.loading = some p then { s with img := { s.img with loading := none } } else s
    s.holdPanel p
  else s

end Sys2Proof.Machine
end

