-- ==== Sys2Proof/Machine/Tier.lean ====
section
/-! DEFINITION. The tier manager (R173 to R197): heat, the sweep, promotions and demotions, the release of operations that wait,
and page migration. -/

namespace Sys2Proof.Machine

/-! Operations that wait (R176, R183). -/

/-- A page's next waits: those on it of one of the given kinds are over. -/
def State.wakePage (s : State) (p : Nat) (kinds : List Nat) : State :=
  { s with tier := { s.tier with waits := s.tier.waits.filter fun w => !(w.page == p && kinds.contains w.kind) } }

/-- Every operation that waits for a frame is tried again. -/
def State.wakeFrames (s : State) : State :=
  { s with tier := { s.tier with waits := s.tier.waits.filter fun w => w.kind != 2 } }

/-- Whether an operation of a connection waits. -/
def State.waitingConn (s : State) (c : Nat) : Bool := s.tier.waits.any fun w => w.conn == c

/-- Whether an access that needs a frame ends at once with E_CAPACITY: none is free and an episode of R183 is on. -/
def State.frameless (s : State) : Bool :=
  decide (s.freeFrames = 0) && (s.bit F.TIER_STATUS_POOL_EMPTY || s.bit F.TIER_STATUS_FLASH_FULL)

/-- What the first page of an access that must wait waits for (R176): `got` are the pages whose extents have been read for it.
The state may change: a promotion starts. -/
def State.blockAt (s : State) (write : Bool) (got : List Nat) : List (Nat × Nat × Nat) → Option (Nat × Nat × State)
  | [] => none
  | (p, _, _) :: r =>
    let g := s.page p
    if g.st = 3 ∨ g.st = 6 then some (p, 1, s)
    else if g.st = 2 ∧ write then (if s.frameless then none else some (p, 1, s.startPromo p true))
    else if g.st = 2 ∧ !got.contains p then
      let hot := decide (s.get F.TIER_CFG_PROMOTE_T ≤ min 255 (g.heat + 1)) || s.pinned p
      if hot && decide (s.movesNow < s.get F.TIER_CFG2_MOVES_MAX) && decide (0 < s.freeFrames) then
        some (p, 1, s.startPromo p false)
      else some (p, 0, s)
    else if g.st = 0 ∧ write ∧ s.freeFrames = 0 ∧ !s.frameless then some (p, 2, s)
    else s.blockAt write got r

/-! Heat (R178). -/

/-- Every heat counter halved, once in a beat whose number is a multiple of HEAT_PERIOD. -/
def State.halveHeat (s : State) : State :=
  if s.beat.valid ∧ s.beat.beat % s.get F.TIER_CFG_HEAT_PERIOD = 0 ∧ s.tier.halved ≠ some s.beat.beat then
    let ps := (s.tier.pages.map fun e => (e.1, { e.2 with heat := e.2.heat / 2 })).filter fun e => e.2 != ({} : Page)
    { s with tier := { s.tier with pages := ps, halved := some s.beat.beat } }
  else s

/-- HEAT_HALVING (R178). -/
def execHeatHalving (s : State) : Res := s.live <| .next s.halveHeat

/-! Room on flash (R184). -/

/-- Whether `n` consecutive TIER blocks of a carrier are free. -/
def CarrierSt.runFree (c : CarrierSt) (first n : Nat) : Bool :=
  decide (first + n ≤ c.tierBlocks) && c.tierUsed.all fun e => decide (e.1 < first) || decide (first + n ≤ e.1)

/-- The places after which a run of free blocks may begin: the start, and behind each block in use. -/
def CarrierSt.starts (c : CarrierSt) : List Nat := 0 :: c.tierUsed.map fun e => e.1 + 1

/-- A place for `n` consecutive blocks; the manual does not say which, so a free value chooses among the starts.
Assumption log: 41 (DESIGN CHOICE). -/
def CarrierSt.placeFor (c : CarrierSt) (n free : Nat) : Option Nat :=
  let ok := c.starts.filter fun f => c.runFree f n
  ok[free % (max 1 ok.length)]?

/-- The carrier for an extent: ONLINE, room for it, most free TIER blocks, lowest number on a tie (R184).
Assumption log: 41 (DESIGN CHOICE). -/
def State.extentCarrier (s : State) (n : Nat) : Option Nat :=
  ((List.range s.nCarriers).filter fun c =>
    s.get (F.FL_CAR_STATUS_STATE c) == 7 && ((s.car c).placeFor n 0).isSome).foldl (fun b c =>
      match b with
      | none => some c
      | some d => if (s.car d).tierFree < (s.car c).tierFree then some c else b) none

/-- Blocks of a carrier taken for an extent: carrier, first block, state.
Assumption log: 41 (DESIGN CHOICE). -/
def State.takeBlocks (s : State) (n : Nat) : Option (Nat × Nat × State) :=
  match s.extentCarrier n with
  | none => none
  | some c =>
    match (s.car c).placeFor n s.free with
    | none => none
    | some f =>
      let car := s.car c
      let used := (rangeFrom f n).foldl (fun m b => smPut (fun _ => false) m b true) car.tierUsed
      some (c, f, (s.setCar c { car with tierUsed := used }).nextFree)

/-! Demotion (R180, R181, R183). -/

/-- A page named in a migration slot that is not FREE, DONE or FAILED. -/
def State.inSlot (s : State) (p : Nat) : Bool :=
  (List.range 16).any fun k =>
    s.get (F.TIER_MIG_OBJ_KIND k) == 1 && s.get (F.TIER_MIG_OBJ_ID k) == p &&
      [1, 2, 3, 6].contains (s.get (F.TIER_MIG_CTL_STATE k))

/-- A frame holds a poisoned word. -/
def State.framePoison (s : State) (k f : Nat) : Bool := (s.eccHits (frameAddr k f) 65536).any fun e => e.2 == 3

/-- Whether the sweep may demote a page at a level (R180). -/
def State.demotable (s : State) (level : Nat) (p : Nat) (g : Page) : Bool :=
  g.st == 1 && decide (g.heat ≤ level) && !s.pinned p && !s.inSlot p && !s.framePoison g.stack g.frame

/-- The episode of a full flash (R183): waiting accesses end, the event comes once.
Assumption log: 43 (DEDUCED). -/
def State.flashFull (s : State) : State :=
  let s := (s.setBit F.TIER_STATUS_FLASH_FULL true).wakeFrames
  if s.tier.flashEp then s
  else { s with tier := { s.tier with flashEp := true } }.raise EV_TIER_FLASH_FULL 0 []

/-- The episode of an empty pool (R183).
Assumption log: 43 (DEDUCED). -/
def State.poolEmpty (s : State) : State :=
  let s := (s.setBit F.TIER_STATUS_POOL_EMPTY true).wakeFrames
  if s.tier.poolEp then s
  else { s with tier := { s.tier with poolEp := true } }.raise EV_TIER_POOL_EMPTY 0 []

/-- A demotion starts (R181): the frame is read and encoded, a place taken on a carrier. The Boolean says that one is in
flight; a page with a bad word stays, and so does one for whose extent no carrier has room, which stops the sweep (R183). -/
def State.startDemotion (s : State) (p : Nat) : State × Bool :=
  let g := s.page p
  let x := s.loadPhys (frameAddr g.stack g.frame) 65536
  let s := x.st
  if x.code ≠ E_NONE then (s.bump F.TIER_CNT_EXC_DEMOTE_ABORT 1, false)
  else
    let go (s : State) (d : Demotion) : State :=
      State.countMoves { s.setPage p { g with st := 4 } with tier := { (s.setPage p { g with st := 4 }).tier with
        demos := s.tier.demos ++ [d] } }
    if allZero x.data then (go s ⟨p, 0, 0, 0, 0, [], true, false⟩, true)
    else
      let e := encodePage x.data
      let n := extentBlocks e.2.length
      match s.takeBlocks n with
      | none => ((s.bump F.TIER_CNT_EXC_DEMOTE_ABORT 1).flashFull, false)
      | some (c, f, s) =>
        (go s ⟨p, c, f, n, e.1, extentBytes p (s.get F.NCTL_UEPOCH_OPEN) (g.seq + 1) e.1 x.data e.2, false, false⟩, true)

/-- The sweep over candidate pages in order: it stops at HIGH_WATER, at MOVES_MAX, or when flash is full. The Boolean says that it
started a demotion; the option, the page at which it stopped. A sweep whose last page finds flash full has stopped too (R183).
Assumption log: 42 (DEDUCED). -/
def State.sweep (s : State) (level : Nat) (began : Bool) : List (Nat × Page) → State × Bool × Option Nat
  | [] => (s, began, if s.bit F.TIER_STATUS_FLASH_FULL then some s.tier.sweepPtr else none)
  | (p, _) :: r =>
    if s.get F.TIER_CFG2_HIGH_WATER ≤ s.freeFrames + s.tier.demos.length ∨
        s.get F.TIER_CFG2_MOVES_MAX ≤ s.movesNow ∨ s.bit F.TIER_STATUS_FLASH_FULL then (s, began, some p)
    else if s.demotable level p (s.page p) then
      let x := s.startDemotion p
      x.1.sweep level (began || x.2) r
    else s.sweep level began r

/-- The pages of the map in sweep order: from the sweep pointer upwards, then from 0 (R180). -/
def State.sweepOrder (s : State) : List (Nat × Page) :=
  (s.tier.pages.filter fun e => decide (s.tier.sweepPtr ≤ e.1)) ++ s.tier.pages.filter fun e => decide (e.1 < s.tier.sweepPtr)

/-- The demotion sweep (R180), where free frames lie below LOW_WATER and flash is not full. -/
def State.demotionSweep (s : State) : State :=
  let s := s.checkFlashFull
  if s.freeFrames < s.get F.TIER_CFG2_LOW_WATER ∧ !s.bit F.TIER_STATUS_FLASH_FULL then
    let level := max (s.get F.TIER_STATUS_DEMOTE_LEVEL) (s.get F.TIER_CFG_DEMOTE_T)
    let x := s.sweep level false s.sweepOrder
    let s := x.1
    match x.2.2 with
    | some p =>
      let s := { s with tier := { s.tier with sweepPtr := p } }
      if x.2.1 then s.set F.TIER_STATUS_DEMOTE_LEVEL (s.get F.TIER_CFG_DEMOTE_T) else s
    | none =>
      if x.2.1 then s.set F.TIER_STATUS_DEMOTE_LEVEL (s.get F.TIER_CFG_DEMOTE_T)
      else if level < 255 then s.set F.TIER_STATUS_DEMOTE_LEVEL (level + 1)
      else if s.freeFrames = 0 then s.poolEmpty else s
  else s

/-- The carrier reports a demotion's extent written, and the page flips to FLASH, or to ZERO where every byte is zero (R181). A
carrier that is no longer ONLINE has failed the write. -/
def State.demotionDone (s : State) (p : Nat) : State :=
  match s.tier.demos.find? fun d => d.page == p with
  | none => s
  | some d =>
    let g := s.page p
    if d.zero then
      let s := { s with tier := { s.tier with demos := s.tier.demos.filter fun e => e.page != p } }
      let s := s.setPage p { g with st := 0, stack := 0, frame := 0 }
      (((s.releaseFrame g.stack g.frame).bump F.TIER_CNT_MOVES_DEMOTED 1).countMoves).wakeFrames
    else if s.get (F.FL_CAR_STATUS_STATE d.carrier) ≠ 7 then s.abortDemotion p
    else
      let s := { s with tier := { s.tier with demos := s.tier.demos.filter fun e => e.page != p } }
      let s := s.flWrite d.carrier (sysBlocks + d.first) d.blocks d.ext
      let s := s.setPage p { g with st := 2, stack := 0, frame := 0, carrier := d.carrier, first := d.first,
                                    blocks := d.blocks, fmt := d.fmt, seq := g.seq + 1 }
      (((s.releaseFrame g.stack g.frame).bump F.TIER_CNT_MOVES_DEMOTED 1).countMoves).wakeFrames

/-! Promotion (R179) and flash reads (R187, R190). -/

/-- A promotion leaves the flight. -/
def State.dropPromo (s : State) (p : Nat) : State :=
  State.countMoves { s with tier := { s.tier with promos := s.tier.promos.filter fun q => q.1 != p } }

/-- The operations that wait on a page. -/
def State.waitsOn (s : State) (p : Nat) : List TierWait := s.tier.waits.filter fun w => w.page == p

/-- A promotion ends: the frame is written and the page flips to STACK. Without a frame it waits, until an episode of R183 ends
it; a media error makes the page BAD (R190). -/
def State.promotionDone (s : State) (p : Nat) : State :=
  if (s.page p).st = 3 then
    let s1 := s.setPage p { s.page p with st := 2 }
    let x := s1.promoteNow p
    if x.1 = E_NONE then x.2.wakePage p [0, 1]
    else if x.1 = E_CAPACITY ∧ !s.frameless then s
    else
      let s := (x.2.dropPromo p).wakePage p [0, 1]
      if x.1 = E_MEDIA then s.bump F.TIER_CNT_EXC_MEDIA (s1.waitsOn p).length else s
  else s

/-- A tier extent read returns and is checked (R187): the operations that wait for it, by connection, go on; a media error makes
the page BAD and counts each of them (R190). -/
def State.flashReadDone (s : State) (p : Nat) : State × List Nat :=
  let ws := (s.waitsOn p).filter fun w => w.kind == 0
  let bad := !ws.isEmpty && (s.page p).st == 2 && (s.readExtent p).1 == E_MEDIA
  let s := if bad then (s.makeBad p).bump F.TIER_CNT_EXC_MEDIA ws.length else s
  (s.wakePage p [0], ws.map TierWait.conn)

/-! TIER_PAGE_OP.ZERO_PAGE (R191). -/

/-- The selected page becomes ZERO. -/
def State.zeroPage (s : State) : State :=
  let p := s.get F.TIER_PAGE_SEL_PAGE
  let g := s.page p
  if s.get F.TIER_CFG_EXTENT ≤ p ∨ g.st = 3 ∨ g.st = 4 ∨ g.st = 6 then s
  else
    let z : Page := { heat := g.heat, seq := g.seq }
    if g.st = 1 then ((s.setPage p z).releaseFrame g.stack g.frame).wakeFrames
    else if g.st = 2 ∨ g.st = 5 then ((s.setPage p z).freeExtent g.carrier g.first g.blocks).checkFlashFull
    else s

/-! Page migration (R192 to R197). -/

/-- A slot's copy. -/
def State.migSt (s : State) (k : Nat) : MigSt := smGet (fun _ => {}) s.tier.mig k

/-- A slot's copy, replaced. -/
def State.setMig (s : State) (k : Nat) (m : MigSt) : State :=
  { s with tier := { s.tier with mig := smPut (fun _ => {}) s.tier.mig k m } }

def MS_FREE : Nat := 0
def MS_COPYING : Nat := 1
def MS_READY : Nat := 2
def MS_CUTTING : Nat := 3
def MS_DONE : Nat := 4
def MS_FAILED : Nat := 5
def MS_STALLED : Nat := 6

def MR_NOT_READY : Nat := 1
def MR_BUSY : Nat := 2
def MR_DEST : Nat := 3
def MR_RESET : Nat := 4
def MR_MEDIA : Nat := 5
def MR_ABORTED : Nat := 6
def MR_DIRTY : Nat := 7
def MR_STALLED : Nat := 8

/-- State of a slot. -/
def State.migState (s : State) (k : Nat) : Nat := s.get (F.TIER_MIG_CTL_STATE k)

/-- State of a slot, replaced. -/
def State.setMigState (s : State) (k st : Nat) : State := (s.set (F.TIER_MIG_CTL_STATE k) st).countMoves

/-- What a slot has taken for its new home is given back. -/
def State.dropCopy (s : State) (k : Nat) : State :=
  let m := s.migSt k
  let st := s.migState k
  let live := s.get (F.TIER_MIG_OBJ_KIND k) == 1 && (st == MS_COPYING || st == MS_READY || st == MS_CUTTING)
  let s := if live && s.get (F.TIER_MIG_DEST_STACK k) != 15 then s.releaseFrame m.stack m.frame
    else if live && m.blocks != 0 then s.freeExtent m.carrier m.first m.blocks else s
  s.setMig k {}

/-- A slot fails with a reason; the old home stays the only home (R193). -/
def State.migFail (s : State) (k reason : Nat) : State :=
  ((s.dropCopy k).setMigState k MS_FAILED).set (F.TIER_MIG_CTL_REASON k) reason

/-- Another active slot names the page of a slot. -/
def State.otherSlot (s : State) (k p : Nat) : Bool :=
  (List.range 16).any fun j =>
    j != k && s.get (F.TIER_MIG_OBJ_KIND j) == 1 && s.get (F.TIER_MIG_OBJ_ID j) == p &&
      [1, 2, 3, 6].contains (s.migState j)

/-- START for a page (R192): the checks, then a frame of the destination, or COPYING towards flash; a ZERO page is READY.
Assumption log: 46 (DESIGN CHOICE). -/
def State.migStartPage (s : State) (k : Nat) : State :=
  let p := s.get (F.TIER_MIG_OBJ_ID k)
  let d := s.get (F.TIER_MIG_DEST_STACK k)
  let g := s.page p
  if s.get F.TIER_CFG_EXTENT ≤ p then s.migFail k MR_DEST
  else if g.st = 3 ∨ g.st = 4 ∨ g.st = 5 ∨ g.st = 6 ∨ s.otherSlot k p then s.migFail k MR_BUSY
  else
    let go (s : State) (m : MigSt) : State :=
      (s.setMig k { m with zero := g.st == 0, copied := if g.st = 0 then 1024 else 0 }).setMigState k
        (if g.st = 0 then MS_READY else MS_COPYING)
    if d = 15 then
      (if (List.range s.nCarriers).any fun c => s.get (F.FL_CAR_STATUS_STATE c) == 7 then go s {} else s.migFail k MR_DEST)
    else if s.nStacks ≤ d ∨ s.freeIn d = 0 then s.migFail k MR_DEST
    else
      let f := s.pickFrame d
      go ((s.markFrame d f true).nextFree) { stack := d, frame := f }

/-- The bytes of a page as a slot's copy reads them; `none` where a word is poisoned or the extent fails (R187). -/
def State.pageBytes (s : State) (p : Nat) : Option (List Byte) × State :=
  let g := s.page p
  let st := if g.st = 6 then g.prev else g.st
  if st = 0 then (some (zeros 65536), s)
  else if st = 1 ∨ st = 4 then
    let x := s.loadPhys (frameAddr g.stack g.frame) 65536
    (if x.code = E_NONE then some x.data else none, x.st)
  else
    let e := s.readExtent p
    (if e.1 = E_NONE then some e.2 else none, s)

/-- A page's copy finishes (R192): the frame is filled, or the encoded extent stands in flash; a bad read fails the slot.
Assumption log: 46 (DESIGN CHOICE). -/
def State.migCopyPage (s : State) (k : Nat) : State :=
  let p := s.get (F.TIER_MIG_OBJ_ID k)
  let x := s.pageBytes p
  let s := x.2
  let m := s.migSt k
  match x.1 with
  | none => s.migFail k MR_MEDIA
  | some d =>
    if s.get (F.TIER_MIG_DEST_STACK k) ≠ 15 then
      ((s.fillFrame m.stack m.frame d).setMig k { m with copied := 1024 }).setMigState k MS_READY
    else
      let e := encodePage d
      let n := extentBlocks e.2.length
      match s.takeBlocks n with
      | none => s.migFail k MR_DEST
      | some (c, f, s) =>
        let ext := extentBytes p (s.get F.NCTL_UEPOCH_OPEN) ((s.page p).seq + 1) e.1 d e.2
        let s := s.flWrite c (sysBlocks + f) n ext
        (s.setMig k { m with copied := 1024, carrier := c, first := f, blocks := n, fmt := e.1 }).setMigState k MS_READY

/-- ABORT of a COPYING or READY slot (R193). -/
def State.migAbort (s : State) (k : Nat) : State :=
  if s.migState k = MS_COPYING ∨ s.migState k = MS_READY then s.migFail k MR_ABORTED else s

/-- A cut that finds its slot in no state for it is reported (R193). -/
def State.cutRefused (s : State) (_k : Nat) : State := s.raise EV_TIER_MIGRATE_FAILED 0 []

/-- The dispatch slot of a MIGRATE_CUT (R193 to R195 step 1).
Assumption log: 46 (DESIGN CHOICE). -/
def State.migrateCut (s : State) (k : Nat) : State :=
  let st := s.migState k
  if st = MS_COPYING then (s.migFail k MR_NOT_READY).cutRefused k
  else if st = MS_FREE ∨ st = MS_DONE ∨ st = MS_FAILED then s.cutRefused k
  else if st = MS_READY then
    let s := (s.set (F.TIER_MIG_CTL_CUT_BEAT k) s.beat.beat).setMigState k MS_CUTTING
    if s.get (F.TIER_MIG_OBJ_KIND k) = 1 then
      let p := s.get (F.TIER_MIG_OBJ_ID k)
      let s := if (s.page p).st = 3 then (s.dropPromo p).setPage p { s.page p with st := 2 } else s
      let g := s.page p
      s.setPage p { g with st := 6, prev := g.st }
    else s
  else s

/-- A page cut that fails: the page returns to its state from before step 1 (R194). -/
def State.cutBack (s : State) (k p reason : Nat) : State :=
  let g := s.page p
  ((s.migFail k reason).setPage p { g with st := g.prev, prev := 0 }).wakePage p [1]

/-- Steps 2 to 5 of a page cut (R194): dirty granules are copied, the entry flips, the old home is released, held accesses go
on.
Assumption log: 46 (DESIGN CHOICE). -/
def State.pageCut (s : State) (k : Nat) : State :=
  if s.migState k = MS_CUTTING ∧ s.get (F.TIER_MIG_OBJ_KIND k) = 1 then
    let p := s.get (F.TIER_MIG_OBJ_ID k)
    let g := s.page p
    let m := s.migSt k
    let toFlash := s.get (F.TIER_MIG_DEST_STACK k) == 15
    let done (s : State) (v : Page) : State :=
      let s := s.setPage p v
      let s := if g.prev = 1 then (s.releaseFrame g.stack g.frame).wakeFrames
        else if g.prev = 2 then (s.freeExtent g.carrier g.first g.blocks).checkFlashFull else s
      (((s.setMig k {}).setMigState k MS_DONE).raise EV_TIER_MIGRATED 0 []).wakePage p [1]
    if toFlash then
      (if !m.dirty.isEmpty then s.cutBack k p MR_DIRTY
       else if g.prev = 0 then done s { g with st := 0, prev := 0 }
       else done s { g with st := 2, prev := 0, stack := 0, frame := 0, carrier := m.carrier, first := m.first,
                            blocks := m.blocks, fmt := m.fmt, seq := g.seq + 1 })
    else
      let x := s.pageBytes p
      match x.1 with
      | none => x.2.cutBack k p MR_MEDIA
      | some d => done (x.2.fillFrame m.stack m.frame d)
          { g with st := 1, prev := 0, stack := m.stack, frame := m.frame, carrier := 0, first := 0, blocks := 0, fmt := 0 }
  else s

/-- FREE of a DONE or FAILED slot. -/
def State.migFree (s : State) (k : Nat) : State :=
  if s.migState k = MS_DONE ∨ s.migState k = MS_FAILED then
    ((s.setMig k {}).setMigState k MS_FREE).set (F.TIER_MIG_CTL_REASON k) 0
  else s

/-! A reset that covers the tier manager (R197, R474). -/

/-- A page slot at such a reset: COPYING, READY or cut before step 4 fails with RESET. Row slots are the tables' affair. -/
def State.migReset (s : State) (k : Nat) : State :=
  let st := s.migState k
  if st = MS_COPYING ∨ st = MS_READY then s.migFail k MR_RESET
  else if st = MS_CUTTING ∧ s.get (F.TIER_MIG_OBJ_KIND k) = 1 then s.cutBack k (s.get (F.TIER_MIG_OBJ_ID k)) MR_RESET
  else if st = MS_CUTTING then
    (if (s.migSt k).sent then (s.setMigState k MS_STALLED).raise EV_TIER_MIGRATE_STALLED 0 [] else s.migFail k MR_RESET)
  else s

/-- Automatic moves end without flipping, and slots as R197 says. -/
def State.tierReset (s : State) : State :=
  let s := (s.tier.demos.map Demotion.page).foldl (fun s p => s.abortDemotion p) s
  let s := (s.tier.promos.map Prod.fst).foldl (fun s p =>
    ((s.setPage p { s.page p with st := 2 }).dropPromo p).wakePage p [0, 1]) s
  (List.range 16).foldl State.migReset s

end Sys2Proof.Machine
end

