-- ==== Sys2Proof/Machine/Tables.lean ====
section
/-! DEFINITION. The tables engine (R275 to R299): descriptors, lookups, updates, epochs and pins, swaps, and rows that change home
(R192, R195 to R197). -/

namespace Sys2Proof.Machine

/-! Descriptors (R275 to R279). -/

/-- A table descriptor from its 128 bytes. -/
def tblDescOf (b : List Byte) : TblDesc :=
  { table := at_ b 0 1, fmt := at_ b 1 1 % 4, double := at_ b 1 1 / 4 % 2 == 1, elems := at_ b 2 2, form := at_ b 4 1,
    shard := at_ b 6 2, rowBase := at_ b 8 4, rows := at_ b 12 4, rowOff := at_ b 16 6, guestOff := at_ b 24 6,
    guestLog2 := at_ b 30 1, wclamp := at_ b 32 4 }

/-- Data granules of a slot: DG (R279). -/
def TblDesc.dg (d : TblDesc) : Nat := dataGranules d.fmt d.elems

/-- Data bytes of a slot. -/
def TblDesc.slotBytes (d : TblDesc) : Nat := if d.fmt = 1 then d.elems else d.elems / 2

/-- Granules of an extent: X (R279). -/
def TblDesc.x (d : TblDesc) : Nat := extentGranules d.fmt d.elems d.form d.double

/-- Extents of a page: RPP (R277). -/
def TblDesc.rpp (d : TblDesc) : Nat := 1024 / d.x

/-- The extent of index i of an array of extents. -/
def TblDesc.extent (d : TblDesc) (base i : Nat) : Nat := base + i / d.rpp * 65536 + i % d.rpp * d.x * 64

/-- Bytes that an array of extents takes, in whole pages. -/
def TblDesc.arrayBytes (d : TblDesc) (n : Nat) : Nat := (n + d.rpp - 1) / d.rpp * 65536

/-- Guest slots. -/
def TblDesc.guests (d : TblDesc) : Nat := if d.guestLog2 = 0 then 0 else 2 ^ d.guestLog2

/-- The first guest extent: the next 64 KiB boundary after the directory (R297). -/
def TblDesc.guestBase (d : TblDesc) : Nat := d.guestOff + roundUp (8 * d.guests) 65536

/-- The arrays of a table: place and bytes. -/
def TblDesc.arrays (d : TblDesc) : List (Nat × Nat) :=
  (d.rowOff, d.arrayBytes d.rows) ::
    (if d.guests = 0 then [] else [(d.guestOff, d.guestBase - d.guestOff + d.arrayBytes d.guests)])

/-- Whether a range lies in the physical windows of present stacks (R277). -/
def State.inStacks (s : State) (a n : Nat) : Bool := decide (stackBase 0 ≤ a) && decide (a + n ≤ stackBase s.nStacks)

/-- Whether two ranges overlap. -/
def overlap (a b : Nat × Nat) : Bool := decide (a.1 < b.1 + b.2) && decide (b.1 < a.1 + a.2)

/-- Whether an array meets one of another enabled table. -/
def State.tblClash (s : State) (t : Nat) (a : Nat × Nat) : Bool :=
  s.tbl.copies.any fun e => e.1 != t && (match e.2 with
    | some d => d.arrays.any fun b => overlap a b
    | none => false)

/-- The reason why a table descriptor is rejected; 0 for none (R277). -/
def State.tblReason (s : State) (t : Nat) (b : List Byte) : Nat :=
  let d := tblDescOf b
  let fields := d.table == t && (d.fmt == 1 || d.fmt == 2) && decide (32 ≤ d.elems) && decide (d.elems ≤ 4096) &&
    decide (d.elems % 32 = 0) && decide (d.form ≤ 5) && decide (1 ≤ d.rows) && decide (d.rowBase + d.rows ≤ 2 ^ 32) &&
    decide (d.rowOff % 65536 = 0) && decide (d.guestLog2 ≤ 16) && (d.guestLog2 == 0 || decide (d.guestOff % 65536 = 0)) &&
    decide (0x00800000 ≤ d.wclamp) && decide (d.wclamp ≤ 0x7E800000)
  if !fields then 1
  else if 320 < d.x then 2
  else if d.arrays.any (fun a => !s.inStacks a.1 a.2 || s.tblClash t a) then 3
  else 0

/-- TBL_STATUS and TBL_EPOCH.PINS follow the pins and the swaps.
Assumption log: 87 (DEDUCED). -/
def State.countTbl (s : State) : State :=
  let ps := s.tbl.pins.filterMap Prod.snd
  let s := (s.set F.TBL_STATUS_PINS ps.length).set F.TBL_STATUS_SWAPS (s.tbl.swaps.filterMap Prod.snd).length
  ((s.tbl.copies.map Prod.fst) ++ ps.map TblPin.table).dedup.foldl
    (fun s t => s.set (F.TBL_EPOCH_PINS t) (ps.filter fun p => p.table == t).length) s

/-- EN set for a table: the descriptor is checked and copied; the active epoch starts at 0, and pins of an earlier enabling are dropped.
Assumption log: 83 (DEDUCED). -/
def State.tblEnable (s : State) (t : Nat) : State :=
  if s.get (F.TBL_CTL_STATE t) = 1 then s
  else
    let x := s.load (s.get (F.TBL_DESC_BASE_ADDR t)) 128
    let s := x.st
    let why := if x.code ≠ E_NONE then 3 else s.tblReason t x.data
    if why = 0 then
      let s := ((s.setBit (F.TBL_CTL_EN t) true).set (F.TBL_CTL_STATE t) 1).set (F.TBL_CTL_REASON t) 0
      let s := s.setReg (Reg.TBL_EPOCH t) 0
      let pins := s.tbl.pins.filter fun e => match e.2 with
        | some p => p.table != t
        | none => false
      State.countTbl { s with tbl := { s.tbl with copies := smPut (fun _ => none) s.tbl.copies t (some (tblDescOf x.data)), pins := pins } }
    else
      (((s.setBit (F.TBL_CTL_EN t) false).set (F.TBL_CTL_STATE t) 2).set (F.TBL_CTL_REASON t) why).raise EV_TBL_REJECTED 0 []

/-- EN cleared for a table: new requests are refused (R275). -/
def State.tblDisable (s : State) (t : Nat) : State :=
  let s := ((s.setBit (F.TBL_CTL_EN t) false).set (F.TBL_CTL_STATE t) 0).set (F.TBL_CTL_REASON t) 0
  { s with tbl := { s.tbl with copies := smPut (fun _ => none) s.tbl.copies t none } }

/-- TABLE_ENABLE (R275). -/
def execTableEnable (table : Nat) (s : State) : Res := s.live <| onUnit (table < 256) (s.tblEnable table)
/-- TABLE_DISABLE (R275). -/
def execTableDisable (table : Nat) (s : State) : Res := s.live <| onUnit (table < 256) (s.tblDisable table)

/-- The descriptor of an enabled table that holds a shard. -/
def State.tblDesc (s : State) (t shard : Nat) : Option TblDesc :=
  match smGet (fun _ => none) s.tbl.copies t with
  | some d => if d.shard = shard then some d else none
  | none => none

/-- Active epoch of a table. -/
def State.tblEpoch (s : State) (t : Nat) : Nat := s.get (F.TBL_EPOCH_ACTIVE t)

/-! Rows (R277, R297). -/

/-- Where a row stands on this node: extent and whether it is a guest. -/
structure RowPlace where
  addr : Nat
  guest : Bool
  slot : Nat := 0

/-- The guest slots that a row probes (R297).
Assumption log: 85 (DESIGN CHOICE). -/
def TblDesc.probes (d : TblDesc) (row : Nat) : List Nat :=
  if d.guestLog2 = 0 then []
  else
    let h := row * 0x9E3779B1 % 2 ^ 32 / 2 ^ (32 - d.guestLog2)
    (List.range 8).map fun i => (h + i) % d.guests

/-- The entry of a guest slot: row number and VALID.
Assumption log: 85 (DESIGN CHOICE). -/
def State.guestEntry (s : State) (d : TblDesc) (g : Nat) : Option Nat :=
  if s.num (d.guestOff + 8 * g + 4) 1 % 2 = 1 then some (s.num (d.guestOff + 8 * g) 4) else none

/-- The place of a row that the node holds: the native range first, then the guest area. -/
def State.rowPlace (s : State) (d : TblDesc) (row : Nat) : Option RowPlace :=
  if d.rowBase ≤ row ∧ row < d.rowBase + d.rows then some ⟨d.extent d.rowOff (row - d.rowBase), false, 0⟩
  else ((d.probes row).find? fun g => s.guestEntry d g == some row).map fun g => ⟨d.extent d.guestBase g, true, g⟩

/-- The migration slot that names a row and is in one of some states. -/
def State.rowSlot (s : State) (table row : Nat) (sts : List Nat) : Option Nat :=
  (List.range 16).find? fun k => s.get (F.TIER_MIG_OBJ_KIND k) == 2 && s.get (F.TIER_MIG_OBJ_TABLE k) == table &&
    s.get (F.TIER_MIG_OBJ_ID k) == row && sts.contains (s.migState k)

/-- Whether requests for a row are held by its cut (R195, R196). -/
def State.rowHeld (s : State) (table row : Nat) : Bool := (s.rowSlot table row [MS_CUTTING, MS_STALLED]).isSome

/-- The node to which a row has moved, while its slot is DONE (R195). -/
def State.rowMoved (s : State) (table row : Nat) : Option Nat :=
  (s.rowSlot table row [MS_DONE]).map fun k => s.get (F.TIER_MIG_DEST_NODE k)

/-- Stack, unit and unit-local offset of a node offset (R149). -/
def unitPlace (a : Nat) : Nat × Nat × Nat :=
  let o := (a - stackBase 0) % 0x800000000
  ((a - stackBase 0) / 0x800000000, unitOf o, localOf o)

/-- A row command sent to the unit that owns an extent (R281): OP, SUB, LEN, bytes 20 to 63 of granule 0, further granules. -/
def State.sendRow (s : State) (d : TblDesc) (addr op sub len tag : Nat) (tail more : List Byte) : State :=
  let u := unitPlace addr
  let f := d.fmt + (if d.double then 4 else 0)
  let head := leBytes 1 op ++ leBytes 1 sub ++ leBytes 2 len ++ leBytes 4 tag ++ leBytes 4 u.2.2 ++ leBytes 4 d.x ++ leBytes 2 d.elems ++
    leBytes 1 f ++ leBytes 1 d.form ++ padTo 44 tail
  s.sendItem u.1 u.2.1 (.packet { bytes := head ++ padTo (64 * (len - 1)) more, dest := U_TABLES, tag := tag })

/-- The next command tag.
Assumption log: 79 (DESIGN CHOICE). -/
def State.rowTag (s : State) : Nat × State :=
  (s.tbl.next % 2 ^ 32, { s with tbl := { s.tbl with next := s.tbl.next + 1 } })

/-! Requests. -/

/-- A request of the engine, replaced. -/
def State.setTblReq (s : State) (q : TblReq) : State :=
  { s with tbl := { s.tbl with reqs := s.tbl.reqs.map fun p => if p.r.src = q.r.src ∧ p.r.reqId = q.r.reqId then q else p } }

/-- A request of the engine, removed. -/
def State.dropTblReq (s : State) (q : TblReq) : State :=
  { s with tbl := { s.tbl with reqs := s.tbl.reqs.filter fun p => !(p.r.src == q.r.src && p.r.reqId == q.r.reqId) } }

/-- An update is rejected (R291). -/
def State.tblReject (s : State) (r : Req) (code : Nat) : State := (s.bump F.TBL_CNT_EXC_REJECT 1).answer U_TABLES r code

/-- First byte and bytes per row of a LOOKUP's data. -/
def TblReq.doff (q : TblReq) : Nat := at_ q.r.payload 8 2
def TblReq.dlen (q : TblReq) : Nat := at_ q.r.payload 10 2

/-- A row of a LOOKUP with a code other than E_NONE; a redirect names the new home.
Assumption log: 201 (DESIGN CHOICE). -/
def lostRow (w : TblRow) (code home dlen : Nat) : TblRow :=
  { w with st := .done, code := code, data := leBytes 2 code ++ zeros 2 ++ leBytes 2 home ++ zeros 6 ++ zeros dlen }

/-- The GATHER_ROW of a LOOKUP's row, or its record where the row is not held here or has moved; a row under a cut waits (R195, R284).
Assumption log: 79 (DESIGN CHOICE). -/
def State.issueGather (s : State) (q : TblReq) (w : TblRow) : TblRow × State :=
  let d := q.desc
  if s.rowHeld d.table w.row then ({ w with st := .held }, s)
  else match s.rowMoved d.table w.row with
    | some h => (lostRow w E_REDIRECT h q.dlen, s.bump F.TBL_CNT_EXC_REDIRECTS 1)
    | none =>
      match s.rowPlace d w.row with
      | none => (lostRow w E_ABSENT 0 q.dlen, s)
      | some p =>
        let x := s.rowTag
        let g0 := q.doff / 64
        let n := (q.dlen + 63) / 64
        let tail := leBytes 4 (q.pin.getD (s.tblEpoch d.table)) ++ leBytes 2 g0 ++ leBytes 2 n
        ({ w with st := .sent, tag := x.1, guest := p.guest },
          x.2.sendRow d p.addr 0x20 (if q.pin.isSome then 1 else 0) 1 x.1 tail [])

/-- The rows of a LOOKUP in ascending j.
Assumption log: 79 (DESIGN CHOICE). -/
def State.issueRows (s : State) (q : TblReq) : List TblRow → List TblRow × State
  | [] => ([], s)
  | w :: r =>
    let x := s.issueGather q w
    let y := x.2.issueRows q r
    (x.1 :: y.1, y.2)

/-- A LOOKUP with every row done: the records go to the requester, then the RESULT behind them (R284, R285). -/
def State.lookupDone (s : State) (q : TblReq) : State :=
  if q.rows.all fun w => w.st == .done then
    let n := 16 + q.dlen
    let base := at_ q.r.payload 16 6
    let s := s.dropTblReq q
    let put (s : State) (j : Nat) (w : TblRow) : State :=
      let b := leBytes 4 w.row ++ w.data
      s.issue { op := OP_WRITE, dst := q.r.src, cls := q.r.cls, gten := q.r.gten, issuer := U_TABLES, offset := base + j * n,
                total := b.length, data := b, rehearsal := q.r.rehearsal }
    let s := if s.silenced q.r.src q.r.reqId then s
      else (q.rows.mapIdx fun j w => (j, w)).foldl (fun s p => put s p.1 p.2) s
    let code := ((q.rows.find? fun w => w.code != E_NONE).map TblRow.code).getD E_NONE
    (s.bump F.TBL_CNT_OPS_ROWS_READ (q.rows.filter fun w => w.code == E_NONE).length).answer U_TABLES q.r code
  else s.setTblReq q

/-- Bytes of the gradient granules of an APPLY. -/
def gradBytes (e : Nat) : Nat := e + e / 16

/-- The row command of an update (R286 to R288). -/
def State.sendUpdate (s : State) (q : TblReq) (addr tag : Nat) : State :=
  let d := q.desc
  let b := q.r.payload
  let ep := leBytes 4 (s.tblEpoch d.table)
  let row := (b.drop 64).take 8 ++ zeros 56 ++ padTo (64 * d.dg) ((b.drop 80).take d.slotBytes)
  if q.kind = 1 then s.sendRow d addr 0x21 0 (d.dg + 2) tag ep row
  else if q.kind = 3 then s.sendRow d addr 0x22 4 (d.dg + 2) tag (ep ++ leBytes 4 d.wclamp) row
  else
    s.sendRow d addr 0x22 (at_ b 8 1 % 32) (1 + (gradBytes d.elems + 63) / 64) tag (ep ++ leBytes 4 d.wclamp ++ (b.drop 16).take 36)
      ((b.drop 64).take (gradBytes d.elems))

/-- An update goes to its row, or is held, redirected or refused where the row is not here (R195, R291, R298). -/
def State.issueUpdate (s : State) (q : TblReq) (row : Nat) : State :=
  let d := q.desc
  if s.rowHeld d.table row then s
  else match s.rowMoved d.table row with
    | some h => ((s.dropTblReq q).bump F.TBL_CNT_EXC_REDIRECTS 1).redirect U_TABLES q.r 1 d.table d.shard h row
    | none =>
      match s.rowPlace d row with
      | none => (s.dropTblReq q).tblReject q.r E_ABSENT
      | some p =>
        let x := s.rowTag
        let w : TblRow := { row := row, st := .sent, tag := x.1, guest := p.guest }
        (x.2.setTblReq { q with rows := [w] }).sendUpdate q p.addr x.1

/-- The requests held for a row are taken up again, in arrival order (R196, R197). -/
def State.releaseRow (s : State) (table row : Nat) : State :=
  (s.tbl.reqs.filter fun q => q.desc.table == table && q.rows.any fun w => w.row == row && w.st == .held).foldl
    (fun s q =>
      if q.kind = 0 then
        let go (a : List TblRow × State) (w : TblRow) : List TblRow × State :=
          if w.row = row ∧ w.st = .held then let x := a.2.issueGather q w; (a.1 ++ [x.1], x.2) else (a.1 ++ [w], a.2)
        let y := q.rows.foldl go ([], s)
        y.2.lookupDone { q with rows := y.1 }
      else s.issueUpdate q row) s

/-! LOOKUP (R283 to R285). -/

/-- The checks of R285 on a LOOKUP that come after the table's; the pin's epoch where it is good. -/
def State.lookupCode (s : State) (d : TblDesc) (r : Req) : Nat × Option Nat :=
  let b := r.payload
  let pinned := at_ b 1 1 % 2 == 1
  let n := at_ b 6 2
  let doff := at_ b 8 2
  let dlen := at_ b 10 2
  if b.length ≠ 32 + 4 * n ∨ n = 0 ∨ 256 < n ∨ doff % 64 ≠ 0 ∨ dlen < 8 ∨ 4096 < dlen ∨ dlen % 8 ≠ 0 ∨ d.slotBytes < doff + dlen ∨
      at_ b 16 6 % 8 ≠ 0 then (E_MALFORMED, none)
  else if pinned && !d.double then (E_CAPACITY, none)
  else
    let dead (c : Nat) : Nat := if s.deadlinePassed r.deadline then E_DEADLINE else c
    if pinned then
      match smGet (fun _ => none) s.tbl.pins (at_ b 4 2) with
      | some p => if p.table = d.table ∧ !p.revoked then (dead E_NONE, some p.epoch) else (E_EPOCH, none)
      | none => (E_EPOCH, none)
    else (dead E_NONE, none)

/-- A LOOKUP is checked and its rows are read (R284, R285). -/
def State.takeLookup (s : State) (r : Req) (m : List Byte) : State :=
  let b := r.payload
  match s.tblDesc (at_ b 0 1) (at_ b 2 2) with
  | none => s.answer U_TABLES r E_ABSENT
  | some d =>
    let c := s.lookupCode d r
    if c.1 ≠ E_NONE then s.answer U_TABLES r c.1
    else if s.cancelled r.src r.reqId then s.answer U_TABLES r E_CANCELLED
    else
      let rows := (List.range (at_ b 6 2)).map fun j => ({ row := at_ b (32 + 4 * j) 4, st := .held } : TblRow)
      let q : TblReq := { r := r, msg := m, desc := d, kind := 0, rows := rows, pin := c.2 }
      let s := { s with tbl := { s.tbl with reqs := s.tbl.reqs ++ [q] } }
      let x := s.issueRows q rows
      x.2.lookupDone { q with rows := x.1 }

/-- LOOKUP at the head of a ring (R284). -/
def execLookup (ring : Nat) (s : State) : Res := s.live <|
  onUnit (ring < 8192) <| match s.headReq ring U_TABLES T_LOOKUP with
    | some (m, r) => (s.popMsg ring m).takeLookup r m
    | none => s

/-! UPDATE_ROW (R286 to R291). -/

/-- The field and length checks of an update. -/
def updateOk (d : TblDesc) (b : List Byte) : Bool :=
  let op := at_ b 0 1
  if op = 2 then
    decide (at_ b 8 1 % 16 ≤ 3) && modeFits (at_ b 8 1 % 16) d.form && b.length == 64 + gradBytes d.elems
  else (op == 1 || op == 3) && b.length == 80 + roundUp d.slotBytes 16

/-- An update that is to be applied: the checks of R291. -/
def State.takeUpdate (s : State) (r : Req) (m : List Byte) : State :=
  let b := r.payload
  match s.tblDesc (at_ b 1 1) (at_ b 2 2) with
  | none => s.tblReject r E_ABSENT
  | some d =>
    if !updateOk d b then s.tblReject r E_MALFORMED
    else if s.deadlinePassed r.deadline then s.tblReject r E_DEADLINE
    else if s.cancelled r.src r.reqId then s.tblReject r E_CANCELLED
    else if !s.journalRoom then s.tblReject r E_CAPACITY
    else if r.rehearsal then
      (match s.rowPlace d (at_ b 4 4) with
        | some _ => s.answer U_TABLES r E_NONE
        | none => s.tblReject r E_ABSENT)
    else
      let q : TblReq := { r := r, msg := m, desc := d, kind := at_ b 0 1, rows := [{ row := at_ b 4 4, st := .held }] }
      { s with tbl := { s.tbl with reqs := s.tbl.reqs ++ [q] } }.issueUpdate q (at_ b 4 4)

/-- The UPDATE_ROW at the head of a ring with an OP that a row of the table takes. -/
def State.updateAt (s : State) (ring : Nat) (mine : Nat → Bool) : State :=
  match s.headReq ring U_TABLES T_UPDATE_ROW with
  | some (m, r) => if mine (at_ r.payload 0 1) then (s.popMsg ring m).takeUpdate r m else s
  | none => s

/-- REPLACE (R287); an OP that is none is answered here as well (R291). -/
def execReplace (ring : Nat) (s : State) : Res := s.live <| onUnit (ring < 8192) (s.updateAt ring fun op => !(op == 2 || op == 3))
/-- APPLY (R288). -/
def execApply (ring : Nat) (s : State) : Res := s.live <| onUnit (ring < 8192) (s.updateAt ring (· == 2))
/-- LOAD (R287). -/
def execLoad (ring : Nat) (s : State) : Res := s.live <| onUnit (ring < 8192) (s.updateAt ring (· == 3))

/-! Row results (R281, R285, R291). -/

/-- The code of a row result that failed: POISON or an OFFLINE unit is E_MEDIA; an ABSENT row has moved or is not held;
a reset of its stack is E_CANCELLED (R476). -/
def failedRow (p : InlPkt) : Nat :=
  let st := at_ p.bytes 5 1
  if st = IS_OK then E_NONE else if st = IS_MALFORMED then E_MALFORMED else if st = IS_ABORTED ∧ p.aux = 2 then E_ABSENT
  else if st = IS_ABORTED ∧ p.aux = 3 then E_CANCELLED else E_MEDIA

/-- A LOOKUP's row returns. -/
def State.gathered (s : State) (q : TblReq) (w : TblRow) (p : InlPkt) : TblRow × State :=
  let d := q.desc
  let code := failedRow p
  if w.revoked then (lostRow w E_EPOCH 0 q.dlen, s)
  else if code = E_ABSENT then
    (match s.rowMoved d.table w.row with
      | some h => (lostRow w E_REDIRECT h q.dlen, s.bump F.TBL_CNT_EXC_REDIRECTS 1)
      | none => (lostRow w E_ABSENT 0 q.dlen, s))
  else if code ≠ E_NONE then (lostRow w code 0 q.dlen, s)
  else
    let frozen := decide (p.aux < s.tblEpoch d.table)
    let fl := (if frozen then 1 else 0) + (if w.guest then 2 else 0)
    let data := leBytes 2 E_NONE ++ leBytes 1 fl ++ zeros 1 ++ (p.bytes.drop 16).take 8 ++ (p.bytes.drop 64).take q.dlen
    ({ w with st := .done, code := E_NONE, data := data }, s.charge q.r.tenant 9 1)

/-- An update's row returns: applied and journalled, or refused (R291). -/
def State.updated (s : State) (q : TblReq) (w : TblRow) (p : InlPkt) : State :=
  let d := q.desc
  let code := failedRow p
  let s := s.dropTblReq q
  if code = E_NONE then
    let addr := ((s.rowPlace d w.row).map RowPlace.addr).getD 0
    (((s.bump F.TBL_CNT_OPS_UPDATES 1).charge q.r.tenant 9 1).journal q.msg [(addr, 64 * d.x)]).answer U_TABLES q.r E_NONE
  else if code = E_ABSENT then
    (match s.rowMoved d.table w.row with
      | some h => (s.bump F.TBL_CNT_EXC_REDIRECTS 1).redirect U_TABLES q.r 1 d.table d.shard h w.row
      | none => s.tblReject q.r E_ABSENT)
  else s.tblReject q.r code

/-- A row result of a request. -/
def State.rowResult (s : State) (q : TblReq) (p : InlPkt) : State :=
  match q.rows.find? fun w => w.st == .sent && w.tag == p.tag with
  | none => s
  | some w =>
    if q.kind = 0 then
      let x := s.gathered q w p
      x.2.lookupDone { q with rows := q.rows.map fun v => if v.st = .sent ∧ v.tag = p.tag then x.1 else v }
    else s.updated q w p

/-- The request whose row command has a tag.
Assumption log: 79 (DESIGN CHOICE). -/
def State.reqOfTag (s : State) (tag : Nat) : Option TblReq :=
  s.tbl.reqs.find? fun q => q.rows.any fun w => w.st == .sent && w.tag == tag

/-- Whether a tag is that of a running swap's row command. -/
def State.swapTag (s : State) (tag : Nat) : Bool := s.tbl.swaps.any fun e => match e.2 with
  | some w => w.tag == some tag
  | none => false

/-- ROW_COMMAND_DONE: the next result of a unit, if it is a request's (R282). -/
def State.rowCommandDone (s : State) (k u : Nat) : State :=
  match s.resultFor k u U_TABLES with
  | none => s
  | some (p, s') =>
    if s.swapTag p.tag then s
    else match s.reqOfTag p.tag with
      | some q => s'.rowResult q p
      | none => s'

/-- ROW_COMMAND_DONE (R282). -/
def execRowCommandDone (stack unit : Nat) (s : State) : Res := s.live <|
  onUnit (stack < 12 && unit < 256) (if s.hasUnit stack unit then s.rowCommandDone stack unit else s)

/-! Pins and epochs (R292 to R294, R296). -/

/-- The frozen epoch of a table. -/
def State.frozen (s : State) (t : Nat) : Nat := (s.tblEpoch t + 2 ^ 32 - 1) % 2 ^ 32

/-- A pin is taken on the frozen epoch: its record goes to the requester before the RESULT (R294). -/
def State.takePin (s : State) (r : Req) (d : TblDesc) : State :=
  let want := at_ r.payload 8 4
  let f := s.frozen d.table
  if want ≠ 0xFFFFFFFF ∧ want ≠ f then s.answer U_TABLES r E_EPOCH
  else match (List.range 256).find? fun h => (smGet (fun _ => none) s.tbl.pins h).isNone with
    | none => s.answer U_TABLES r E_CAPACITY
    | some h =>
      let s := if r.rehearsal then s
        else State.countTbl { s with tbl := { s.tbl with pins := smPut (fun _ => none) s.tbl.pins h (some ⟨d.table, f, false⟩) } }
      let b := leBytes 2 h ++ zeros 2 ++ leBytes 4 f
      let s := if s.silenced r.src r.reqId then s
        else s.issue { op := OP_WRITE, dst := r.src, cls := r.cls, gten := r.gten, issuer := U_TABLES,
                       offset := at_ r.payload 16 6, total := 8, data := b,
                       rehearsal := r.rehearsal }
      s.answer U_TABLES r E_NONE

/-- Pins held on an epoch of a table, not yet revoked.
Assumption log: 80 (DEDUCED). -/
def State.pinsOn (s : State) (t e : Nat) : Nat :=
  (s.tbl.pins.filter fun x => match x.2 with
    | some p => p.table == t && p.epoch == e && !p.revoked
    | none => false).length

/-- The rows of pinned lookups on a revoked pin: the row that is being read finishes, later ones give E_EPOCH (R293).
Assumption log: 80 (DEDUCED). -/
def State.revokeReads (s : State) (t e : Nat) : State :=
  { s with tbl := { s.tbl with reqs := s.tbl.reqs.map fun q =>
      if q.kind = 0 ∧ q.desc.table = t ∧ q.pin = some e then
        let j := (q.rows.findIdx? fun w => w.st == .sent).getD 0
        { q with rows := q.rows.mapIdx fun i w => if j < i ∧ w.st ≠ .done then { w with revoked := true } else w }
      else q } }

/-- The flip of a switching table (R293): pins on A − 1 are revoked, A advances, PINs that waited are answered.
Assumption log: 80 (DEDUCED). -/
def State.tblFlip (s : State) (t : Nat) : State :=
  let old := s.frozen t
  let n := s.pinsOn t old
  let s := if n = 0 then s
    else
      let pins := s.tbl.pins.map fun x => (x.1, x.2.map fun p => if p.table = t ∧ p.epoch = old then { p with revoked := true } else p)
      let s := { s with tbl := { s.tbl with pins := pins } }.revokeReads t old
      (s.bump F.TBL_CNT_EXC_PIN_REVOKED n).raise EV_TBL_PIN_REVOKED 0 [n]
  let s := (s.set (F.TBL_EPOCH_ACTIVE t) (s.tblEpoch t + 1)).setBit (F.TBL_EPOCH_SWITCHING t) false
  let s := s.raise EV_TBL_EPOCH 0 []
  let ws := s.tbl.waits.filter fun w => w.2.table == t
  let s := { s with tbl := { s.tbl with waits := s.tbl.waits.filter fun w => w.2.table != t } }
  ws.foldl (fun s w => s.takePin w.1 w.2) s

/-- A switching table flips once no pin on A − 1 remains. -/
def State.tryFlip (s : State) (t : Nat) : State :=
  if s.bit (F.TBL_EPOCH_SWITCHING t) && s.pinsOn t (s.frozen t) == 0 then s.tblFlip t else s

/-- TABLE_EPOCH, the action 0x05 (R293).
Assumption log: 82 (DEDUCED). -/
def State.tableEpoch (s : State) (t arg : Nat) : State :=
  match smGet (fun _ => none) s.tbl.copies t with
  | none => s.raise EV_TBL_EPOCH_REJECTED 0 []
  | some d =>
    if arg % 2 ^ 32 ≠ (s.tblEpoch t + 1) % 2 ^ 32 ∨ s.bit (F.TBL_EPOCH_SWITCHING t) then s.raise EV_TBL_EPOCH_REJECTED 0 []
    else if d.double then
      let s := s.setBit (F.TBL_EPOCH_SWITCHING t) true
      State.tryFlip { s with tbl := { s.tbl with since := smPut (fun _ => 0) s.tbl.since t s.now } } t
    else (s.set (F.TBL_EPOCH_ACTIVE t) (arg % 2 ^ 32)).raise EV_TBL_EPOCH 0 []

/-- TABLE_FLIP_TIMEOUT: 4,096 beats after the dispatch slot the table flips whatever its pins (R293). -/
def execTableFlipTimeout (table : Nat) (s : State) : Res := s.live <|
  onUnit (table < 256) <|
    if s.bit (F.TBL_EPOCH_SWITCHING table) then
      (s.reach (smGet (fun _ => 0) s.tbl.since table + beatsNs 4096)).tblFlip table
    else s

/-- A TABLE_OP at the head of a ring, with the checks that all three share: table and shard, length, deadline.
Assumption log: 81 (DEDUCED). -/
def State.tableOpAt (s : State) (ring : Nat) (mine : Nat → Bool) (f : State → Req → TblDesc → State) : State :=
  match s.headReq ring U_TABLES T_TABLE_OP with
  | none => s
  | some (m, r) =>
    let b := r.payload
    if !mine (at_ b 0 1) then s
    else
      let s := s.popMsg ring m
      match s.tblDesc (at_ b 1 1) (at_ b 2 2) with
      | none => s.answer U_TABLES r E_ABSENT
      | some d =>
        if b.length ≠ 32 ∨ at_ b 0 1 = 0 ∨ 3 < at_ b 0 1 then s.answer U_TABLES r E_MALFORMED
        else if s.deadlinePassed r.deadline then s.answer U_TABLES r E_DEADLINE
        else if s.cancelled r.src r.reqId then s.answer U_TABLES r E_CANCELLED
        else f s r d

/-- PIN (R294); an OP that is none is answered here as well. -/
def execPin (ring : Nat) (s : State) : Res := s.live <|
  onUnit (ring < 8192) (s.tableOpAt ring (fun op => !(op == 2 || op == 3)) fun s r d =>
    if !d.double then s.answer U_TABLES r E_CAPACITY
    else if s.bit (F.TBL_EPOCH_SWITCHING d.table) then { s with tbl := { s.tbl with waits := s.tbl.waits ++ [(r, d)] } }
    else s.takePin r d)

/-- UNPIN (R294): a handle that is not held for the table gives E_EPOCH. -/
def execUnpin (ring : Nat) (s : State) : Res := s.live <|
  onUnit (ring < 8192) (s.tableOpAt ring (· == 2) fun s r d =>
    let h := at_ r.payload 4 2
    match smGet (fun _ => none) s.tbl.pins h with
    | some p =>
      if p.table ≠ d.table then s.answer U_TABLES r E_EPOCH
      else if r.rehearsal then s.answer U_TABLES r E_NONE
      else
        let s := State.countTbl { s with tbl := { s.tbl with pins := smPut (fun _ => none) s.tbl.pins h none } }
        (s.answer U_TABLES r E_NONE).tryFlip d.table
    | none => s.answer U_TABLES r E_EPOCH)

/-! Swaps (R295). -/

def SW_IDLE : Nat := 0
def SW_RUNNING : Nat := 1
def SW_DONE : Nat := 2
def SW_INTERRUPTED : Nat := 3
def SW_CANCELLED : Nat := 4

/-- The swap of a table. -/
def State.swap (s : State) (t : Nat) : Option TblSwap := smGet (fun _ => none) s.tbl.swaps t

/-- A table's swap, replaced. -/
def State.setSwap (s : State) (t : Nat) (w : Option TblSwap) : State :=
  State.countTbl { s with tbl := { s.tbl with swaps := smPut (fun _ => none) s.tbl.swaps t w } }

/-- A swap ends: its answer, and TBL_SWAP.STATE.
Assumption log: 84 (DESIGN CHOICE). -/
def State.swapEnd (s : State) (t : Nat) (w : TblSwap) (code st : Nat) : State :=
  ((s.setSwap t none).set (F.TBL_SWAP_STATE t) st).answer U_TABLES w.r code

/-- Bytes of a source row. -/
def TblDesc.srcBytes (d : TblDesc) : Nat := 64 * (1 + d.dg)

/-- The next row of a swap is read from its source and its command issued; a CANCEL stops at a row boundary. -/
def State.swapNext (s : State) (t : Nat) (w : TblSwap) : State :=
  let cur := s.get (F.TBL_SWAP_CURSOR t)
  let i := cur - w.first
  if w.first + w.count ≤ cur then (s.swapEnd t w E_NONE SW_DONE).raiseReq EV_TBL_SWAP_DONE 0 [] w.r.tenant w.r.reqId
  else if s.cancelled w.r.src w.r.reqId then s.swapEnd t w E_CANCELLED SW_CANCELLED
  else
    let d := w.desc
    let x := (s.serveFor w.r).load (w.src + i * d.srcBytes) d.srcBytes
    let s := x.st.serveEnd
    if x.code ≠ E_NONE then s.swapEnd t w x.code SW_CANCELLED
    else
      let y := s.rowTag
      let s := y.2.setSwap t (some { w with tag := some y.1 })
      let addr := d.extent d.rowOff (cur - d.rowBase)
      let more := x.data.take 8 ++ zeros 56 ++ x.data.drop 64
      let ep := leBytes 4 (s.tblEpoch t)
      if at_ x.data 8 1 % 2 = 1 then s.sendRow d addr 0x22 4 (d.dg + 2) y.1 (ep ++ leBytes 4 d.wclamp) more
      else s.sendRow d addr 0x21 0 (d.dg + 2) y.1 ep more

/-- SWAP (R295, R296). -/
def execSwap (ring : Nat) (s : State) : Res := s.live <|
  onUnit (ring < 8192) (s.tableOpAt ring (· == 3) fun s r d =>
    let b := r.payload
    let first := at_ b 8 4
    let n := at_ b 12 4
    let src := at_ b 16 6
    if n = 0 ∨ first < d.rowBase ∨ d.rowBase + d.rows < first + n ∨ !s.arrayOk src (n * d.srcBytes) then s.answer U_TABLES r E_MALFORMED
    else if (s.swap d.table).isSome ∨ 16 ≤ (s.tbl.swaps.filterMap Prod.snd).length then s.answer U_TABLES r E_CAPACITY
    else if r.rehearsal then s.answer U_TABLES r E_NONE
    else
      let w : TblSwap := { r := r, desc := d, first := first, count := n, src := src, durable := first }
      let s := (s.set (F.TBL_SWAP_CURSOR d.table) first).set (F.TBL_SWAP_STATE d.table) SW_RUNNING
      ((s.writeSys 2 d.table [first, first + n]).2.setSwap d.table (some w)).swapNext d.table w)

/-- A swap's row has committed: the cursor advances, and is journalled once another MiB of source is committed. -/
def State.swapRow (s : State) (t : Nat) (w : TblSwap) : State :=
  let cur := s.get (F.TBL_SWAP_CURSOR t) + 1
  let s := ((s.set (F.TBL_SWAP_CURSOR t) cur).bump F.TBL_CNT_OPS_UPDATES 1).charge w.r.tenant 9 1
  let n := w.bytes + w.desc.srcBytes
  if 1048576 ≤ n then
    let x := s.writeSys 2 t [cur, w.first + w.count]
    x.2.swapNext t { w with tag := none, bytes := n - 1048576, durable := if x.1 then cur else w.durable }
  else s.swapNext t { w with tag := none, bytes := n }

/-- SWAP_ROW_COMMIT: the result of a swap's row command is taken (R295).
Assumption log: 84 (DESIGN CHOICE). -/
def State.swapCommit (s : State) (t : Nat) : State :=
  match s.swap t with
  | none => s
  | some w =>
    let u := unitPlace (w.desc.extent w.desc.rowOff (s.get (F.TBL_SWAP_CURSOR t) - w.desc.rowBase))
    match s.resultFor u.1 u.2.1 U_TABLES with
    | none => s
    | some (p, s') =>
      if w.tag ≠ some p.tag then s
      else if failedRow p = E_NONE then s'.swapRow t w
      else s'.swapEnd t w (failedRow p) SW_CANCELLED

/-- SWAP_ROW_COMMIT (R295). -/
def execSwapRowCommit (table : Nat) (s : State) : Res := s.live <| onUnit (table < 256) (s.swapCommit table)

/-! Rows that change home (R192, R195 to R197, R297, R298). -/

/-- START for a row (R192). -/
def State.migStartRow (s : State) (k : Nat) : State :=
  let t := s.get (F.TIER_MIG_OBJ_TABLE k)
  let h := s.get (F.TIER_MIG_DEST_NODE k)
  match smGet (fun _ => none) s.tbl.copies t with
  | none => s.migFail k MR_DEST
  | some _ => if h = s.node then s.migFail k MR_DEST else s.setMigState k MS_COPYING

/-- The extent of a slot's row, read in one step. -/
def State.rowImage (s : State) (k : Nat) : Acc :=
  let t := s.get (F.TIER_MIG_OBJ_TABLE k)
  match smGet (fun _ => none) s.tbl.copies t with
  | none => ⟨E_ABSENT, [], s⟩
  | some d =>
    match s.rowPlace d (s.get (F.TIER_MIG_OBJ_ID k)) with
    | none => ⟨E_ABSENT, [], s⟩
    | some p => s.loadPhys p.addr (64 * d.x)

/-- A row's copy finishes: its image is ready, or the slot fails. -/
def State.migCopyRow (s : State) (k : Nat) : State :=
  let x := s.rowImage k
  if x.code ≠ E_NONE then x.st.migFail k (if x.code = E_MEDIA then MR_MEDIA else MR_DEST)
  else (x.st.setMig k { x.st.migSt k with image := x.data }).setMigState k MS_READY

/-- Whether a command on a row is still out. -/
def State.rowBusy (s : State) (table row : Nat) : Bool :=
  s.tbl.reqs.any fun q => q.desc.table == table && q.rows.any fun w => w.row == row && w.st == .sent

/-- ROW_CUT_SEND: once the admitted commands on the row are complete, its final state is read and sent (R195 steps 2 and 3). -/
def State.rowCutSend (s : State) (k : Nat) : State :=
  let t := s.get (F.TIER_MIG_OBJ_TABLE k)
  let row := s.get (F.TIER_MIG_OBJ_ID k)
  if s.migState k = MS_CUTTING ∧ s.get (F.TIER_MIG_OBJ_KIND k) = 2 ∧ !(s.migSt k).sent ∧ !s.rowBusy t row then
    let x := s.rowImage k
    if x.code ≠ E_NONE then
      (((x.st.migFail k (if x.code = E_MEDIA then MR_MEDIA else MR_DEST)).cutRefused k).releaseRow t row)
    else x.st.setMig k { x.st.migSt k with image := x.data, sent := true, sentAt := s.now }
  else s

/-- ROW_CUT_SEND (R195). -/
def execRowCutSend (slot : Nat) (s : State) : Res := s.live <| onUnit (slot < 16) (s.rowCutSend slot)

/-- The slot in which a migrated row is installed: native, the guest slot that holds it, or the first that is not VALID (R297).
Assumption log: 85 (DESIGN CHOICE). -/
def State.installPlace (s : State) (d : TblDesc) (row : Nat) : Option RowPlace :=
  match s.rowPlace d row with
  | some p => some p
  | none => ((d.probes row).find? fun g => (s.guestEntry d g).isNone).map fun g => ⟨d.extent d.guestBase g, true, g⟩

/-- ROW_INSTALL at the new home: an extent that a node has sent is installed in one step and acknowledged (R195 step 4, R297). -/
def State.rowInstall (s : State) (node table row : Nat) (b : List Byte) : State :=
  match smGet (fun _ => none) s.tbl.copies table with
  | none => s
  | some d =>
    if b.length ≠ 64 * d.x then s
    else match s.installPlace d row with
      | none => s.raise EV_TBL_GUEST_FULL 0 []
      | some p =>
        let flag := (b.getD 28 0).toNat
        let b := b.take 28 ++ leBytes 1 (flag - flag % 2) ++ b.drop 29
        let s := (s.store p.addr b).2
        let s := if p.guest then (s.store (d.guestOff + 8 * p.slot) (leBytes 4 row ++ [1, 0, 0, 0])).2 else s
        let ack : List RowAck := [{ node := node, table := table, row := row }]
        { s with tier := { s.tier with acks := s.tier.acks ++ ack } }.raise EV_TIER_MIGRATED_IN 0 []

/-- ROW_INSTALL (R297). -/
def execRowInstall (node table row : Nat) (data : List Byte) (s : State) : Res := s.live <| onUnit (table < 256) (s.rowInstall node table row data)

/-- Step 5 of a row cut (R195, R298): the copy is marked absent, the slot is DONE, held requests are redirected. -/
def State.rowCutDone (s : State) (k : Nat) : State :=
  let t := s.get (F.TIER_MIG_OBJ_TABLE k)
  let row := s.get (F.TIER_MIG_OBJ_ID k)
  let s := match smGet (fun _ => none) s.tbl.copies t with
    | none => s
    | some d =>
      match s.rowPlace d row with
      | none => s
      | some p =>
        let s := (s.store (p.addr + 28) (leBytes 1 (Nat.lor (s.num (p.addr + 28) 1) 1))).2
        if p.guest then (s.store (d.guestOff + 8 * p.slot + 4) [0]).2 else s
  let s := (s.setMig k {}).setMigState k MS_DONE
  (s.releaseRow t row).raise EV_TIER_MIGRATED 0 []

/-- ROW_CUT_ACK: the acknowledgement of a row image that was sent (R195 step 5). -/
def execRowCutAck (slot : Nat) (s : State) : Res := s.live <|
  onUnit (slot < 16) <|
    if s.migState slot = MS_CUTTING ∧ s.get (F.TIER_MIG_OBJ_KIND slot) = 2 ∧ (s.migSt slot).sent then s.rowCutDone slot else s

/-- MIGRATE_STALL: no acknowledgement 16 beats after sending (R196). -/
def execMigrateStall (slot : Nat) (s : State) : Res := s.live <|
  onUnit (slot < 16) <|
    if s.migState slot = MS_CUTTING ∧ s.get (F.TIER_MIG_OBJ_KIND slot) = 2 ∧ (s.migSt slot).sent then
      ((s.reach ((s.migSt slot).sentAt + beatsNs 16)).setMigState slot MS_STALLED).raise EV_TIER_MIGRATE_STALLED 0 []
    else s

/-- CONFIRM of a STALLED slot: step 5 completes. -/
def State.migConfirm (s : State) (k : Nat) : State := if s.migState k = MS_STALLED then s.rowCutDone k else s

/-- MIG_CONFIRM (R196). -/
def execMigConfirm (slot : Nat) (s : State) : Res := s.live <| onUnit (slot < 16) (s.migConfirm slot)

/-- REVERT of a STALLED slot: the old home is the home again, and held requests go to it in arrival order. -/
def State.migRevert (s : State) (k : Nat) : State :=
  if s.migState k = MS_STALLED then
    (s.migFail k MR_STALLED).releaseRow (s.get (F.TIER_MIG_OBJ_TABLE k)) (s.get (F.TIER_MIG_OBJ_ID k))
  else s

/-- MIG_REVERT (R196). -/
def execMigRevert (slot : Nat) (s : State) : Res := s.live <| onUnit (slot < 16) (s.migRevert slot)

/-- MIG_START (R192): a page or a row. -/
def State.migStart (s : State) (k : Nat) : State :=
  if s.migState k ≠ MS_FREE then s
  else if s.get (F.TIER_MIG_OBJ_KIND k) = 1 then s.migStartPage k
  else if s.get (F.TIER_MIG_OBJ_KIND k) = 2 then s.migStartRow k
  else s.migFail k MR_DEST

/-- MIG_START (R192). -/
def execMigStart (slot : Nat) (s : State) : Res := s.live <| onUnit (slot < 16) (s.migStart slot)

/-- MIG_COPY_DONE (R192). -/
def execMigCopyDone (slot : Nat) (s : State) : Res := s.live <|
  onUnit (slot < 16) <|
    if s.migState slot ≠ MS_COPYING then s
    else if s.get (F.TIER_MIG_OBJ_KIND slot) = 1 then s.migCopyPage slot else s.migCopyRow slot

/-- MIG_ABORT (R193). -/
def execMigAbort (slot : Nat) (s : State) : Res := s.live <| onUnit (slot < 16) (s.migAbort slot)
/-- MIG_FREE (R195). -/
def execMigFree (slot : Nat) (s : State) : Res := s.live <| onUnit (slot < 16) (s.migFree slot)

/-! What other happenings do to the engine. -/

/-- A CANCEL of a request: one with rows held by a cut ends with E_CANCELLED (R195); a swap stops at its next row boundary (R295). -/
def State.tblCancel (s : State) (src reqId : Nat) : State :=
  match s.tbl.reqs.find? fun q => q.r.src == src && q.r.reqId == reqId with
  | some q =>
    if q.rows.any fun w => w.st == .held then
      (if q.kind = 0 then (s.dropTblReq q).answer U_TABLES q.r E_CANCELLED else (s.dropTblReq q).tblReject q.r E_CANCELLED)
    else s
  | none => s

/-- A swap is interrupted by a reset: the event names the last durable cursor (R295).
Assumption log: 84 (DESIGN CHOICE). -/
def State.swapBreak (s : State) (t : Nat) : State :=
  match s.swap t with
  | some w => ((s.setSwap t none).set (F.TBL_SWAP_STATE t) SW_INTERRUPTED).raiseReq EV_TBL_SWAP_INTERRUPTED 0 [w.durable] w.r.tenant w.r.reqId
  | none => s

/-- A reset that covers the tables engine (R294, R295, R476): pins are released, requests end. -/
def State.tblReset (s : State) : State :=
  let ts := s.tbl.swaps.map Prod.fst
  let rs := (s.tbl.reqs.map fun q => q.r) ++ (s.tbl.waits.map Prod.fst) ++
    (s.tbl.swaps.filterMap Prod.snd).map fun w => w.r
  let s := ts.foldl State.swapBreak s
  let s := State.countTbl { s with tbl := { s.tbl with reqs := [], waits := [], pins := [] } }
  rs.foldl (fun s r => s.forget r.src r.reqId) s

end Sys2Proof.Machine
end

