-- ==== Sys2Proof/Machine/Text.lean ====
section
/-! DEFINITION. The text unit (R300 to R324): QUERY_TEXT, streams, generation, stop strings, grammars. -/

namespace Sys2Proof.Machine

def T_TXT_TOKENS : Nat := 0xD0
def T_TXT_PROMPT : Nat := 0xD1
def T_TXT_STEP : Nat := 0xD2
def T_TXT_GEN : Nat := 0xD3
def T_TXT_STEP_FREE : Nat := 0xD4

/-! Tables in force. -/

/-- The TEXT_TABLES section of the active image (R60, R301). -/
def State.textSection (s : State) : Option (Nat × Nat) :=
  match s.img.active with
  | none => none
  | some i => (i.sections.find? fun x => x.ty == 7).map fun x => (i.addr + x.off, x.len)

/-- Tokenisers of the active image. -/
def State.tokCount (s : State) : Nat :=
  match s.textSection with
  | none => 0
  | some (a, _) => (s.load a 4).data |> leNat

/-- A tokeniser's bytes, read in place; `none` where the active image has none of that number. -/
def State.tokeniser (s : State) (n : Nat) : Option Acc :=
  match s.textSection with
  | none => none
  | some (a, l) =>
    if s.tokCount ≤ n then none
    else
      let e := s.load (a + 8 + 8 * n) 8
      let x := e.st.load (a + at_ e.data 0 4) (min (at_ e.data 4 4) (l - at_ e.data 0 4))
      some (if e.code = E_NONE then x else e)

/-- The counts of user text made into tokens (R305, R308, R324, R425). -/
def State.countText (s : State) (tenant : Nat) (o : TxtOut) : State :=
  let s := (s.bump F.TXT_CNT_TOK_TOKENS_IN o.toks.length).bump F.TXT_CNT_EXC_INVALID_SEQ o.seqs
  ((s.bump F.TXT_CNT_EXC_INVALID_BYTES o.bytes).bump F.TXT_CNT_EXC_ESCAPED o.esc).charge tenant 13 o.toks.length

/-- Token IDs as bytes. -/
def tokenBytes (ts : List Nat) : List Byte := ts.flatMap (leBytes 4)

/-! QUERY_TEXT (R309). -/

/-- A QUERY_TEXT that fails; the merge target of its query header learns of it.
Assumption log: 94 (DEDUCED). -/
def State.failText (s : State) (r : Req) (code : Nat) : State :=
  let b := r.payload
  let s := { s with txt := { s.txt with asked := s.txt.asked.filter fun q => !(q.src == r.src && q.reqId == r.reqId) } }
  if b.length < 96 then s.answer U_TEXT r code else s.failSearch U_TEXT r (mergeOf b 20) (at_ b 2 2) (at_ b 4 2) 0 code

/-- Whether a QUERY_TEXT's own fields are well formed. -/
def textQueryOk (b : List Byte) : Bool :=
  decide (112 ≤ b.length) && decide (1 ≤ at_ b 100 4) && decide (at_ b 100 4 ≤ 16384) && b.length == 112 + at_ b 100 4 &&
    decide (at_ b 96 1 ≤ 1)

/-- A QUERY_TEXT is tokenised and its tokens go to an ENCODER panel. -/
def State.takeQueryText (s : State) (r : Req) : State :=
  let b := r.payload
  if !textQueryOk b then s.failText r E_MALFORMED
  else match s.tokeniser (at_ b 97 1) with
    | none => s.failText r E_MALFORMED
    | some x =>
      let s := x.st
      if x.code ≠ E_NONE then s.failText r x.code
      else if s.cancelled r.src r.reqId then s.failText r E_CANCELLED
      else
        let t := x.data
        let rep := at_ b 98 1 % 2 == 1
        let o := (endText t rep (feedText t rep {} (b.drop 112))).2
        let s := s.countText r.tenant o
        let ids := tkPrefix t ++ o.toks
        if tkMaxQuery t < ids.length then s.failText r E_CAPACITY
        else
          let live := s.txt.asked.filter fun q => (s.flight q.src q.reqId).isSome
          let s := { s with txt := { s.txt with asked := live ++ [{ r with payload := b.take 96 }] } }
          s.sendWork 1 T_TXT_TOKENS r (b.take 96 ++ leBytes 4 ids.length ++ zeros 28 ++ tokenBytes ids)

/-- QUERY_TEXT: the query at the head of a ring (R309). -/
def execQueryText (ring : Nat) (s : State) : Res := s.live <|
  onUnit (ring < 8192) <| match s.headReq ring U_TEXT T_QUERY_TEXT with
    | some (m, r) => (s.popMsg ring m).takeQueryText r
    | none => s

/-! Streams. -/

/-- A stream slot. -/
def State.stream (s : State) (n : Nat) : Option TxtStream := smGet (fun _ => none) s.txt.streams n

/-- TXT_STATUS follows the slots. -/
def State.countTxt (s : State) : State :=
  let os := s.txt.streams.filterMap Prod.snd
  (s.set F.TXT_STATUS_OPEN os.length).set F.TXT_STATUS_GENERATING
    (os.filter fun x => x.promptDone && x.generate).length

/-- A stream slot, replaced. -/
def State.setStream (s : State) (n : Nat) (x : Option TxtStream) : State :=
  State.countTxt { s with txt := { s.txt with streams := smPut (fun _ => none) s.txt.streams n x } }

/-- The slot of the stream that an OPEN's source and request ID name (R312). -/
def State.streamOf (s : State) (src reqId : Nat) : Option (Nat × TxtStream) :=
  s.txt.streams.findSome? fun e => match e.2 with
    | some x => if x.r.src = src ∧ x.r.reqId = reqId then some (e.1, x) else none
    | none => none

/-- The lowest free stream slot (R300). -/
def State.freeStream (s : State) : Option Nat := (List.range 4096).find? fun n => (s.stream n).isNone

/-- The work header (R313).
Assumption log: 90 (DESIGN CHOICE). -/
def workHeader (slot serial step tok : Nat) : List Byte := leBytes 2 slot ++ zeros 2 ++ leBytes 4 serial ++ leBytes 4 step ++ leBytes 4 tok

/-- An OUTPUT message (R322).
Assumption log: 91 (DEDUCED). -/
def State.sendOutput (s : State) (x : TxtStream) (fin : Bool) (reason stopId code stopByte stopTok : Nat) (text : List Byte) : State :=
  let b := leBytes 1 16 ++ leBytes 1 (if fin then 1 else 0) ++ leBytes 1 reason ++ leBytes 1 stopId ++ leBytes 2 code ++ leBytes 2 stopByte ++
    leBytes 8 x.r.reqId ++ leBytes 4 text.length ++ leBytes 4 x.gen ++ leBytes 4 stopTok ++ leBytes 4 x.outSeq ++ text
  (s.sendHaldio U_TEXT 0 x.r.src x.r.cls x.r.gten T_TEXT_STREAM x.r.reqId 0 x.r.rehearsal b).charge x.r.tenant 2 1

/-! Output (R315 to R318). -/

/-- What a decoded item emits. -/
def emitUtf (rep : Bool) : Utf → List Byte
  | .chr b => b
  | .bad b => if rep then [0xEF, 0xBF, 0xBD] else b

/-- Bytes that stop matching releases pass the UTF-8 stage: the stream and what is emitted (R315).
Assumption log: 81 (DEDUCED). -/
def release (x : TxtStream) : List Byte → TxtStream × List Byte
  | [] => (x, [])
  | b :: r =>
    let u := utfByte x.tail b
    let y := release { x with tail := u.2 } r
    (y.1, u.1.flatMap (emitUtf x.outReplace) ++ y.2)

/-- The lengths of the suffixes of held bytes, longest first, that satisfy a test. -/
def longestSuffix (ok : List Byte → Bool) : List Byte → Nat
  | [] => 0
  | b :: r => if ok (b :: r) then (b :: r).length else longestSuffix ok r

/-- Whether bytes are a proper prefix of some stop string. -/
def properPrefix (stops : List (List Byte)) (p : List Byte) : Bool := stops.any fun z => decide (p.length < z.length) && p.isPrefixOf z

/-- The stop string that ends with the held bytes: the longest, then the lowest ID (R317). -/
def stopHit (stops : List (List Byte)) (held : List Byte) : Option (Nat × List Byte) :=
  (stops.mapIdx fun i z => (i, z)).foldl (fun b e =>
    if e.2.isSuffixOf held then
      (match b with
      | none => some e
      | some q => if q.2.length < e.2.length then some e else b)
    else b) none

/-- A stop string that has completed: its ID, and the token and byte at which it began. -/
structure StopAt where
  id : Nat
  tok : Nat
  byte : Nat
deriving DecidableEq, Repr

/-- The bytes of a token pass stop matching (R316, R317): the stream, what is emitted, a stop string that completes. -/
def matchBytes (x : TxtStream) : List HeldByte → TxtStream × List Byte × Option StopAt
  | [] => (x, [], none)
  | h :: r =>
    let held := x.held ++ [h]
    let bs := held.map HeldByte.b
    match stopHit x.stops bs with
    | some (i, z) =>
      let n := held.length - z.length
      let y := release { x with held := [] } (bs.take n)
      let at0 := (held.drop n).headD ⟨0, 0, 0⟩
      (y.1, y.2, some ⟨i, at0.tok, at0.off⟩)
    | none =>
      let n := held.length - longestSuffix (properPrefix x.stops) bs
      let y := release { x with held := held.drop n } (bs.take n)
      let w := matchBytes y.1 r
      (w.1, y.2 ++ w.2.1, w.2.2)

/-- The reasons at which held bytes are released and the UTF-8 stage is flushed (R318). -/
def flushes (reason : Nat) : Bool := [1, 3, 4, 5, 6].contains reason

/-- A stream ends (R318, R322, R323): its final OUTPUT leaves and the slot is free.
Assumption log: 91 (DEDUCED). -/
def State.endStream (s : State) (n : Nat) (x : TxtStream) (reason code : Nat) (stop : StopAt) : State :=
  let y := if flushes reason then release { x with held := [] } (x.held.map HeldByte.b) else (x, [])
  let text := if flushes reason then y.2 ++ (utfEnd y.1.tail).flatMap (emitUtf x.outReplace) else []
  ((s.sendOutput x true reason stop.id code stop.byte stop.tok text).setStream n none).dropWork x.r.src x.r.reqId

/-- A stream ends with no stop string. -/
def State.stopStream (s : State) (n : Nat) (x : TxtStream) (reason code : Nat) : State := s.endStream n x reason code ⟨0, 0, 0⟩

/-! Steps (R313, R320). -/

/-- Bytes of a mask (R319). -/
def maskBytes (vocab : Nat) : Nat := 64 * ((vocab + 511) / 512)

/-- A step is asked for: at once without a grammar, after the mask's fetch with one. -/
def State.askStep (s : State) (n : Nat) (x : TxtStream) : State :=
  match x.grammar with
  | none =>
    (s.setStream n (some { x with awaiting := some x.gen })).sendToRing x.ring T_TXT_STEP_FREE x.r (workHeader n x.serial x.gen x.prev)
  | some _ => s.setStream n (some { x with awaiting := none, fetching := true })

/-- A mask, a state record or an exception cannot be used (R321).
Assumption log: 93 (DEDUCED). -/
def State.maskError (s : State) (n : Nat) (x : TxtStream) (code : Nat) : State :=
  ((s.stopStream n x 10 (if code = E_MALFORMED then E_MALFORMED else E_MEDIA)).raiseReq EV_TXT_MASK_ERROR n [] x.r.tenant x.r.reqId)

/-- MASK_FETCH_DONE: the mask of the grammar's state arrives and the step is sent. -/
def State.maskFetched (s : State) (n : Nat) : State :=
  match s.stream n with
  | none => s
  | some x =>
    if !x.fetching then s
    else if x.gdesc.states ≤ x.gstate then s.maskError n x E_MALFORMED
    else match s.tokeniser x.tok with
      | none => s.maskError n x E_MALFORMED
      | some t =>
        let mb := maskBytes (tkVocab t.data)
        let m := (t.st.serveFor x.r).load (x.gdesc.maskOff + x.gstate * mb) mb
        let s := m.st.serveEnd
        if t.code ≠ E_NONE ∨ m.code ≠ E_NONE then s.maskError n x E_MEDIA
        else
          (s.setStream n (some { x with awaiting := some x.gen, fetching := false })).sendToRing x.ring T_TXT_STEP x.r
            (workHeader n x.serial x.gen x.prev ++ zeros 16 ++ m.data)

/-- MASK_FETCH_DONE (R313). -/
def execMaskFetchDone (stream : Nat) (s : State) : Res := s.live <| onUnit (stream < 4096) (s.maskFetched stream)

/-! The prompt (R303, R310, R312). -/

/-- Tokens cut into the messages that a ring can hold. -/
def cutTokens (k : Nat) : Nat → List Nat → List (List Nat)
  | 0, ts => [ts]
  | fuel + 1, ts => if ts.length ≤ k then [ts] else ts.take k :: cutTokens k fuel (ts.drop k)

/-- Prompt tokens go to the stream's ring; the last message of the prompt says so.
Assumption log: 90 (DESIGN CHOICE). -/
def State.sendPrompt (s : State) (n : Nat) (x : TxtStream) (toks : List Nat) (last : Bool) : State :=
  if toks.isEmpty ∧ !last then s
  else
    let k := max 1 (((s.ring x.ring).size - 64) / 4)
    let cs := cutTokens k toks.length toks
    (cs.mapIdx fun i c => (i, c)).foldl (fun s e =>
      s.sendToRing x.ring T_TXT_PROMPT x.r
        (workHeader n x.serial 0 0 ++ leBytes 4 e.2.length ++ leBytes 1 (if last && e.1 + 1 == cs.length then 1 else 0) ++ zeros 11 ++
          tokenBytes e.2)) s

/-- Prompt tokens have been made; at the end of the prompt a stream with GENERATE set asks for step 0 (R313). -/
def State.prompt (s : State) (n : Nat) (x : TxtStream) (toks : List Nat) (last : Bool) : State :=
  let x := { x with last := s.now, promptDone := last }
  let s := (s.setStream n (some x)).sendPrompt n x toks last
  if last && x.generate then s.askStep n x else s

/-- Whether a TEXT_STREAM's header fits its payload. -/
def streamLenOk (b : List Byte) : Bool := decide (32 ≤ b.length) && b.length == 32 + at_ b 16 4

/-- The stream that a TEXT_STREAM names, of the same source and global tenant (R312).
Assumption log: 95 (DESIGN CHOICE). -/
def State.namedStream (s : State) (r : Req) : Option (Nat × TxtStream) :=
  match s.streamOf r.src (at_ r.payload 8 8) with
  | some (n, x) => if x.r.gten = r.gten then some (n, x) else none
  | none => none

/-- STREAM_INPUT (R303). -/
def State.takeInput (s : State) (r : Req) : State :=
  let b := r.payload
  match s.namedStream r with
  | none => s.answer U_TEXT r E_ABSENT
  | some (n, x) =>
    if x.promptDone ∨ !streamLenOk b then s.answer U_TEXT r E_MALFORMED
    else match s.tokeniser x.tok with
      | none => s.answer U_TEXT r E_ABSENT
      | some a =>
        let s := a.st
        if a.code ≠ E_NONE then s.answer U_TEXT r a.code
        else
          let last := at_ b 1 1 % 2 == 1
          let y := feedText a.data x.inReplace x.inp (b.drop 32)
          let y := if last then endText a.data x.inReplace y else y
          ((s.countText x.r.tenant y.2).prompt n { x with inp := y.1 } y.2.toks last).answer U_TEXT r E_NONE

/-- Whether a node tenant may use CONTROL (R310). -/
def State.ctrlAllowed (s : State) (tenant : Nat) : Bool := s.get (F.TXT_CTRL_TEN_ALLOW (tenant / 64 % 4)) / 2 ^ (tenant % 64) % 2 == 1

/-- The token IDs of a byte string. -/
def tokenIds : Nat → List Byte → List Nat
  | 0, _ => []
  | n + 1, b => leNat (b.take 4) :: tokenIds n (b.drop 4)

/-- STREAM_CONTROL (R310). -/
def State.takeControl (s : State) (r : Req) : State :=
  let b := r.payload
  match s.namedStream r with
  | none => s.answer U_TEXT r E_ABSENT
  | some (n, x) =>
    if !s.ctrlAllowed r.tenant then s.answer U_TEXT r E_TENANT
    else if x.promptDone ∨ !streamLenOk b ∨ at_ b 16 4 % 4 ≠ 0 then s.answer U_TEXT r E_MALFORMED
    else match s.tokeniser x.tok with
      | none => s.answer U_TEXT r E_ABSENT
      | some a =>
        let s := a.st
        let ids := tokenIds (at_ b 16 4 / 4) (b.drop 32)
        if a.code ≠ E_NONE then s.answer U_TEXT r a.code
        else if ids.any fun i => decide (tkVocab a.data ≤ i) then s.answer U_TEXT r E_MALFORMED
        else
          let y := endText a.data x.inReplace (x.inp, {})
          ((s.countText x.r.tenant y.2).prompt n { x with inp := y.1 } (y.2.toks ++ ids) (at_ b 1 1 % 2 == 1)).answer U_TEXT r E_NONE

/-- STREAM_CLOSE (R310, R322). -/
def State.takeClose (s : State) (r : Req) : State :=
  match s.namedStream r with
  | none => s.answer U_TEXT r E_ABSENT
  | some (n, x) =>
    if !streamLenOk r.payload ∨ at_ r.payload 16 4 ≠ 0 then s.answer U_TEXT r E_MALFORMED
    else (s.answer U_TEXT r E_NONE).stopStream n x 7 E_NONE

/-- The stop strings of an OPEN block; `none` where they do not fill the block exactly (R311). -/
def stopStrings : Nat → List Byte → Option (List (List Byte))
  | 0, b => if b.isEmpty then some [] else none
  | n + 1, b =>
    let l := at_ b 0 1
    if l = 0 ∨ 64 < l ∨ b.length < 1 + l then none
    else (stopStrings n (b.drop (1 + l))).map fun r => (b.drop 1).take l :: r

/-- Whether a ring may take a stream's work: produced by the text unit, owned by a tile of a MODEL panel (R312).
Assumption log: 95 (DESIGN CHOICE). -/
def State.streamRing (s : State) (g : Nat) : Bool :=
  let x := s.ring g
  decide (0 < x.size) && x.prodKind == 2 && x.producer == 12 && x.ofTile &&
    s.img.panels.any fun e => match e.2.run with
      | some d => d.role == 7 && d.tiles.contains x.owner
      | none => false

/-- The grammar that an OPEN names: nothing asked for, or a slot that is ON (R312).
Assumption log: 89 (DEDUCED). -/
def State.openGrammar (s : State) (g : Nat) : Option (Option (Nat × GramDesc)) :=
  if g = 0xFF then some none
  else match smGet (fun _ => none) s.txt.grams g with
    | some d => if s.get (F.TXT_GRAM_CTL_STATE g) = 1 ∧ g < 16 then some (some (g, d)) else none
    | none => none

/-- STREAM_OPEN (R311, R312), its conditions in the order of R312's table.
Assumption log: 88 (DEDUCED). -/
def State.takeOpen (s : State) (r : Req) : State :=
  let b := r.payload
  match s.freeStream with
  | none => s.answer U_TEXT r E_CAPACITY
  | some n =>
    match s.openGrammar (at_ b 33 1), stopStrings (at_ b 35 1) (b.drop 64) with
    | none, _ => s.answer U_TEXT r (if 16 ≤ at_ b 33 1 then E_MALFORMED else E_ABSENT)
    | some g, stops =>
      if s.tokCount ≤ at_ b 32 1 then s.answer U_TEXT r E_ABSENT
      else if !s.streamRing (at_ b 38 2) ∨ (g.any fun p => p.2.tok != at_ b 32 1) ∨
          (s.streamOf r.src r.reqId).isSome ∨ !streamLenOk b ∨ b.length < 64 ∨ 16 < at_ b 35 1 ∨ at_ b 36 2 = 0 ∨ stops.isNone then
        s.answer U_TEXT r E_MALFORMED
      else
        let f := at_ b 34 1
        let serial := smGet (fun _ => 0) s.txt.serials n + 1
        let x : TxtStream :=
          { r := { r with payload := [] }, serial := serial % 2 ^ 32, tok := at_ b 32 1, inReplace := f % 2 == 1, outReplace := f / 2 % 2 == 1,
            generate := f / 4 % 2 == 1, stops := stops.getD [], maxTokens := at_ b 36 2, ring := at_ b 38 2, grammar := g.map Prod.fst,
            gdesc := (g.map Prod.snd).getD {}, gstate := ((g.map Prod.snd).getD {}).start, last := s.now }
        let s := { s with txt := { s.txt with serials := smPut (fun _ => 0) s.txt.serials n (serial % 2 ^ 32) } }
        (s.setStream n (some x)).answer U_TEXT r E_NONE

/-- The TEXT_STREAM at the head of a ring, by its OP. -/
def State.headStream (s : State) (ring : Nat) (op : Nat → Bool) : Option (List Byte × Req) :=
  match s.headReq ring U_TEXT T_TEXT_STREAM with
  | some (m, r) => if op (at_ r.payload 0 1) then some (m, r) else none
  | none => none

/-- A head that is a TEXT_STREAM of a given OP is freed and served. -/
def State.serveStream (s : State) (ring : Nat) (op : Nat → Bool) (f : State → Req → State) : State :=
  match s.headStream ring op with
  | some (m, r) => f (s.popMsg ring m) r
  | none => s

/-- STREAM_OPEN (R311); a TEXT_STREAM whose OP the node does not take is rejected here too (R312).
Assumption log: 88 (DEDUCED). -/
def execStreamOpen (ring : Nat) (s : State) : Res := s.live <|
  onUnit (ring < 8192) (s.serveStream ring (fun o => o == 1 || !([2, 3, 4].contains o)) fun s r =>
    if at_ r.payload 0 1 = 1 then s.takeOpen r else s.answer U_TEXT r E_MALFORMED)
/-- STREAM_INPUT (R303). -/
def execStreamInput (ring : Nat) (s : State) : Res := s.live <| onUnit (ring < 8192) (s.serveStream ring (· == 2) State.takeInput)
/-- STREAM_CONTROL (R310). -/
def execStreamControl (ring : Nat) (s : State) : Res := s.live <| onUnit (ring < 8192) (s.serveStream ring (· == 3) State.takeControl)
/-- STREAM_CLOSE (R322). -/
def execStreamClose (ring : Nat) (s : State) : Res := s.live <| onUnit (ring < 8192) (s.serveStream ring (· == 4) State.takeClose)

/-! Generation (R314, R321). -/

/-- What a grammar says of a token: go on with a state and stack, end with a reason, or an error. -/
inductive GramStep where
  | go (st : Nat) (stack : List Nat)
  | fin (reason : Nat)
  | err (code : Nat)
deriving DecidableEq, Repr

/-- The action for a token: its exception, or the state's default (R321). -/
def gramAction (rec exc : List Byte) (tok : Nat) : List Byte :=
  match (List.range (exc.length / 16)).find? fun i => at_ exc (16 * i) 4 == tok with
  | some i => (exc.drop (16 * i + 8)).take 8
  | none => rec.take 8

/-- An action carried out on a state and a stack (R321 step 3).
Assumption log: 93 (DEDUCED). -/
def gramActs (d : GramDesc) (x : TxtStream) (act : List Byte) : GramStep :=
  let target := at_ act 2 2
  let ret := at_ act 4 2
  if at_ act 0 1 = 1 then (if d.states ≤ target then .err E_MALFORMED else .go target x.gstack)
  else if at_ act 0 1 = 2 then
    (if d.states ≤ target ∨ d.states ≤ ret then .err E_MALFORMED
     else if 64 ≤ x.gstack.length then .fin 6 else .go target (ret :: x.gstack))
  else if at_ act 0 1 = 3 then
    (match x.gstack with
      | [] => .fin 5
      | a :: r => .go a r)
  else .err E_MALFORMED

/-- The grammar step of a token (R321). -/
def State.gramStep (s : State) (x : TxtStream) (t : List Byte) (tok : Nat) : GramStep × State :=
  let d := x.gdesc
  if d.states ≤ x.gstate then (.err E_MALFORMED, s)
  else
    let s := s.serveFor x.r
    let m := s.load (d.maskOff + x.gstate * maskBytes (tkVocab t) + tok / 8) 1
    let c := m.st.load (d.stateOff + 16 * x.gstate) 16
    let e := c.st.load (d.excOff + 16 * at_ c.data 8 4) (16 * at_ c.data 12 2)
    let s := e.st.serveEnd
    if m.code ≠ E_NONE ∨ c.code ≠ E_NONE ∨ e.code ≠ E_NONE then (.err E_MEDIA, s)
    else
      let act := gramAction c.data e.data tok
      if at_ m.data 0 1 / 2 ^ (tok % 8) % 2 = 0 ∨ at_ act 0 1 = 0 then (.fin 5, s)
      else if (tkEos t).contains tok then
        (if at_ c.data 14 1 % 2 = 1 ∧ x.gstack.isEmpty then .go x.gstate x.gstack else .fin 5, s)
      else (gramActs d x act, s)

/-- Steps 4 to 7 of R314.
Assumption log: 91 (DEDUCED). -/
def State.genEmit (s : State) (n : Nat) (x : TxtStream) (t : List Byte) (tok : Nat) : State :=
  if (tkEos t).contains tok then s.stopStream n x 1 E_NONE
  else
    let bs := if tkCtrl t tok then [] else (tkStr t tok).mapIdx fun i b => (⟨b, x.gen - 1, i⟩ : HeldByte)
    let y := matchBytes x bs
    let x := y.1
    let s := if y.2.1.isEmpty then s else s.sendOutput x false 0 0 E_NONE 0 0 y.2.1
    let x := if y.2.1.isEmpty then x else { x with outSeq := x.outSeq + 1 }
    match y.2.2 with
    | some h => s.endStream n x 2 E_NONE h
    | none => if x.gen = x.maxTokens then s.stopStream n x 3 E_NONE else s.askStep n { x with prev := tok }

/-- A generated token is treated in the order of R314. -/
def State.genToken (s : State) (n : Nat) (x : TxtStream) (tok : Nat) : State :=
  let x := { x with gen := x.gen + 1, awaiting := none, last := s.now }
  let s := ((s.bump F.TXT_CNT_TOK_TOKENS_GEN 1).charge x.r.tenant 13 1).setStream n (some x)
  if tok = 0xFFFFFFFF then s.stopStream n x 4 E_NONE
  else match s.tokeniser x.tok with
    | none => s.stopStream n x 10 E_MALFORMED
    | some a =>
      let s := a.st
      if a.code ≠ E_NONE then s.stopStream n x 10 a.code
      else if tkVocab a.data ≤ tok then s.stopStream n x 10 E_MALFORMED
      else match x.grammar with
        | none => s.genEmit n x a.data tok
        | some _ =>
          match s.gramStep x a.data tok with
          | (.go st stack, s) => s.genEmit n { x with gstate := st, gstack := stack } a.data tok
          | (.fin reason, s) => s.stopStream n x reason E_NONE
          | (.err code, s) => s.maskError n x code

/-- A failed completion of a text message: a QUERY_TEXT is answered with its code, a stream ends with ERROR (R145, R313).
Assumption log: 92 (DEDUCED). -/
def State.textFail (s : State) (f : WorkFail) : State :=
  let s := { s with fails := s.fails.filter fun g => decide (g ≠ f) }
  if f.ty = T_TXT_TOKENS then
    match s.txt.asked.find? fun q => q.src == f.src && q.reqId == f.reqId with
    | some r => s.failText r f.code
    | none => s
  else match s.streamOf f.src f.reqId with
    | some (n, x) => s.stopStream n x 10 f.code
    | none => s

/-- The failed completions of text messages are taken.
Assumption log: 92 (DEDUCED). -/
def State.textFails (s : State) : State :=
  (s.fails.filter fun f => [T_TXT_TOKENS, T_TXT_PROMPT, T_TXT_STEP, T_TXT_STEP_FREE].contains f.ty).foldl State.textFail s

/-- TXT_GEN: the panel's answer at the head of a ring; one that names no step awaited is discarded and counted (R313). -/
def State.takeGen (s : State) (b : List Byte) : State :=
  match s.stream (at_ b 0 2) with
  | some x =>
    if x.serial = at_ b 4 4 ∧ x.awaiting = some (at_ b 8 4) ∧ 16 ≤ b.length then s.genToken (at_ b 0 2) x (at_ b 12 4)
    else s.bump F.TXT_CNT_EXC_STALE_GEN 1
  | none => s.bump F.TXT_CNT_EXC_STALE_GEN 1

/-- TXT_GEN (R314): what a panel hands back to the text unit, failed completions (R313) and the token at the head of a ring.
Assumption log: 92 (DEDUCED). -/
def execTxtGen (ring : Nat) (s : State) : Res := s.live <|
  onUnit (ring < 8192) <|
    let s := s.textFails
    match s.headReq ring U_TEXT T_TXT_GEN with
    | some (m, r) => (s.popMsg ring m).takeGen r.payload
    | none => s

/-! Ends (R322, R323). -/

/-- Whether a stream generates. -/
def TxtStream.generating (x : TxtStream) : Bool := x.promptDone && x.generate

/-- STREAM_IDLE (R323). -/
def State.streamIdle (s : State) (n : Nat) : State :=
  match s.stream n with
  | none => s
  | some x =>
    if x.generating then s
    else
      let s := s.reach (x.last + beatsNs (s.get F.TXT_CFG_IDLE_LIMIT))
      (s.stopStream n x 12 E_NONE).raiseReq EV_TXT_STREAM_IDLE n [] x.r.tenant x.r.reqId

/-- STREAM_IDLE (R323). -/
def execStreamIdle (stream : Nat) (s : State) : Res := s.live <| onUnit (stream < 4096) (s.streamIdle stream)

/-- STREAM_DEADLINE: the boundary of the OPEN's deadline beat has come (R322). -/
def State.streamDeadline (s : State) (n : Nat) : State :=
  match s.stream n with
  | none => s
  | some x =>
    if x.r.deadline ≠ 0 ∧ s.beat.valid ∧ !beatAfter x.r.deadline s.beat.beat then s.stopStream n x 9 E_DEADLINE else s

/-- STREAM_DEADLINE (R322). -/
def execStreamDeadline (stream : Nat) (s : State) : Res := s.live <| onUnit (stream < 4096) (s.streamDeadline stream)

/-- A CANCEL: of an OPEN, the stream ends; of a QUERY_TEXT whose tokens have not left, it is answered (R322, R403). -/
def State.textCancel (s : State) (src reqId : Nat) : State :=
  match s.streamOf src reqId with
  | some (n, x) => s.stopStream n x 8 E_CANCELLED
  | none =>
    if s.work.any fun w => w.ty == T_TXT_TOKENS && w.src == src && w.reqId == reqId then
      match s.txt.asked.find? fun q => q.src == src && q.reqId == reqId with
      | some r => (s.dropWork src reqId).failText r E_CANCELLED
      | none => s
    else s

/-- Every open stream ends with ABORTED at a full load (R322).
Assumption log: 170 (DEDUCED). -/
def State.textAbort (s : State) : State :=
  s.txt.streams.foldl (fun s e => match s.stream e.1 with
    | some x => s.stopStream e.1 x 11 E_CANCELLED
    | none => s) s

/-- A reset of the text unit ends every stream with no OUTPUT (R323). -/
def State.textReset (s : State) : State :=
  let s := s.txt.asked.foldl (fun s r => s.forget r.src r.reqId) s
  let s := s.txt.streams.foldl (fun s e => match e.2 with
    | some x => s.dropWork x.r.src x.r.reqId
    | none => s) s
  let mine (ty : Nat) : Bool := [T_TXT_TOKENS, T_TXT_PROMPT, T_TXT_STEP, T_TXT_STEP_FREE].contains ty
  State.countTxt { s with txt := { s.txt with streams := [], asked := [] }, work := s.work.filter fun w => !mine w.ty,
                          fails := s.fails.filter fun f => !mine f.ty }

/-! Grammars (R319, R324). -/

/-- A grammar descriptor from its 64 bytes. -/
def gramOf (b : List Byte) : GramDesc :=
  { states := at_ b 0 4, tok := at_ b 4 1, start := at_ b 6 2, stateOff := at_ b 8 6, excOff := at_ b 16 6, maskOff := at_ b 24 6 }

/-- The reason why a grammar descriptor is rejected, 0 for none: 1 FIELD, 2 ADDRESS, 3 TOKENISER (R324).
Assumption log: 93 (DEDUCED). -/
def State.gramReason (s : State) (base : Nat) (x : Acc) : Nat :=
  let d := gramOf x.data
  if base % 64 ≠ 0 ∨ x.code ≠ E_NONE then 2
  else if d.states = 0 ∨ 65536 < d.states ∨ d.states ≤ d.start then 1
  else
    let mb := match s.tokeniser d.tok with
      | some t => maskBytes (tkVocab t.data)
      | none => 64
    if !(s.arrayOk d.stateOff (16 * d.states) && s.arrayOk d.excOff 16 && s.arrayOk d.maskOff (mb * d.states)) then 2
    else if s.tokCount ≤ d.tok then 3
    else 0

/-- EN set on a grammar slot (R319). -/
def State.gramEnable (s : State) (g : Nat) : State :=
  if s.get (F.TXT_GRAM_CTL_STATE g) = 1 then s
  else
    let base := s.get (F.TXT_GRAM_BASE_ADDR g)
    let x := s.load base 64
    let s := x.st
    let why := s.gramReason base x
    let s := ((s.setBit (F.TXT_GRAM_CTL_EN g) (why == 0)).set (F.TXT_GRAM_CTL_STATE g) (if why = 0 then 1 else 2)).set (F.TXT_GRAM_CTL_REASON g) why
    if why = 0 then { s with txt := { s.txt with grams := smPut (fun _ => none) s.txt.grams g (some (gramOf x.data)) } }
    else s.raise EV_TXT_GRAMMAR_REJECTED 0 []

/-- EN cleared on a grammar slot: new OPENs are refused (R319). -/
def State.gramDisable (s : State) (g : Nat) : State :=
  let s := ((s.setBit (F.TXT_GRAM_CTL_EN g) false).set (F.TXT_GRAM_CTL_STATE g) 0).set (F.TXT_GRAM_CTL_REASON g) 0
  { s with txt := { s.txt with grams := smPut (fun _ => none) s.txt.grams g none } }

/-- GRAMMAR_ENABLE (R319). -/
def execGrammarEnable (grammar : Nat) (s : State) : Res := s.live <| onUnit (grammar < 16) (s.gramEnable grammar)
/-- GRAMMAR_DISABLE (R319). -/
def execGrammarDisable (grammar : Nat) (s : State) : Res := s.live <| onUnit (grammar < 16) (s.gramDisable grammar)

end Sys2Proof.Machine
end

