-- ==== Sys2Proof/Machine/Traffic.lean ====
section
/-! DEFINITION. The traffic unit and telemetry (R406 to R428): the choice of the next frame, time gates, policing, samples, the shadow bank. -/

namespace Sys2Proof.Machine

/-! Time gates (R411 to R414). -/

/-- OFFSET_NS of an entry of a gate list. -/
def State.gateOff (s : State) (l e : Nat) : Nat := s.get (F.TS_GATE_ENT_OFFSET_NS l e)
/-- MASK of an entry of a gate list. -/
def State.gateMask (s : State) (l e : Nat) : Nat := s.get (F.TS_GATE_ENT_MASK l e)
/-- COUNT of a gate list. -/
def State.gateCount (s : State) (l : Nat) : Nat := s.get (F.TS_GATE_CFG_COUNT l)
/-- The cycle of a gate list, in ns. -/
def State.gateCycle (s : State) (l : Nat) : Nat := s.get (F.TS_GATE_CFG_CYCLE_BEATS l) * 8192

/-- The rules of R411 for a gate list. -/
def State.gateListOk (s : State) (l : Nat) : Bool :=
  let n := s.gateCount l
  decide (1 ≤ n) && decide (n ≤ 64) && decide (0 < s.gateCycle l) && s.gateOff l 0 == 0 &&
    decide (s.gateOff l (n - 1) < s.gateCycle l) && (List.range (n - 1)).all fun e => decide (s.gateOff l e < s.gateOff l (e + 1))

/-- The position of local time in the cycle of a list whose base beat is given (R411).
Assumption log: 118 (DEDUCED). -/
def State.gatePos (s : State) (l : Nat) : Nat :=
  let w := beatMod * 8192
  let d := (s.beat.t + w - s.ts.baseBeat * 8192 % w) % w
  let x : Int := if d < w / 2 then (d : Int) else (d : Int) - w
  (x % (s.gateCycle l : Int)).toNat

/-- The entry that governs a position: the last whose offset is not above it. -/
def State.gateEntAt (s : State) (l pos : Nat) : Nat :=
  ((List.range (s.gateCount l)).filter fun e => decide (s.gateOff l e ≤ pos)).getLastD 0

/-- The entry in force: that of the local time, or the one held while the beat is not valid (R413). -/
def State.gateEntry (s : State) : Nat :=
  match s.ts.list with
  | none => 0
  | some l => if s.beat.valid then s.gateEntAt l (s.gatePos l) else s.ts.entry

/-- The gates that are open now, by class (R411). -/
def State.gatesOpen (s : State) : Nat :=
  match s.ts.list with
  | none => 255
  | some l => s.gateMask l s.gateEntry

/-- Whether the gate of a class is open now. -/
def State.gateOpen (s : State) (c : Nat) : Bool := s.gatesOpen / 2 ^ c % 2 == 1

/-- The lower of two instants, where `none` is never. -/
def earlier : Option Nat → Option Nat → Option Nat
  | some a, some b => some (min a b)
  | some a, none => some a
  | none, b => b

/-- ns from now to the start of an entry of the active list that closes a class, in this cycle or the next (R414). -/
def State.closeByList (s : State) (c : Nat) : Option Nat :=
  match s.ts.list with
  | none => none
  | some l =>
    if !s.beat.valid then none
    else
      let pos := s.gatePos l
      let shut := (List.range (s.gateCount l)).filter fun e => s.gateMask l e / 2 ^ c % 2 == 0
      earlier ((shut.find? fun e => decide (pos < s.gateOff l e)).map fun e => s.gateOff l e - pos)
        (shut.head?.map fun e => s.gateCycle l - pos + s.gateOff l e)

/-- Whether an entry of the event table is armed to make active a list whose entry 0 closes a class (R414). -/
def State.armsClose (s : State) (c n : Nat) : Bool :=
  s.entState n == 1 && s.get (F.BEAT_EVT_ACT_ACTION n) == 1 && decide (s.get (F.BEAT_EVT_ACT_TARGET n) < 2) &&
    s.gateMask (s.get (F.BEAT_EVT_ACT_TARGET n)) 0 / 2 ^ c % 2 == 0

/-- ns from now to the next boundary of a beat at which a switch that closes a class is armed (R414). -/
def State.closeByEvent (s : State) (c : Nat) : Option Nat :=
  if s.beat.valid then
    (entries.filter fun n => s.armsClose c n && beatAfter (s.get (F.BEAT_EVT_BEAT_BEAT n)) s.beat.beat).foldl
      (fun m n => earlier m (some ((s.get (F.BEAT_EVT_BEAT_BEAT n) + beatMod - s.beat.t / 8192 % beatMod) % beatMod * 8192 - s.beat.t % 8192))) none
  else none

/-- Thousandths of a ns that one wire byte takes (R407). -/
def State.byteTime (s : State) : Nat := if s.get F.PORT_STATUS_SPEED = 1 then 10 else 5

/-- The kerf rule: the gate of a class is open and stays open until a frame has ended and KERF_NS has passed (R414). -/
def State.kerfOk (s : State) (c wire : Nat) : Bool :=
  s.gateOpen c &&
    match earlier (s.closeByList c) (s.closeByEvent c) with
    | none => true
    | some d => decide (wire * s.byteTime + s.get F.TS_CFG_KERF_NS * 1000 ≤ d * 1000)

/-- Classes whose gate is closed, or which PFC holds, are noted for the sampler (R422). -/
def State.markSample (s : State) : State :=
  (List.range 8).foldl (fun s c =>
    let g := !s.gateOpen c
    let p := decide (s.now < smGet (fun _ => 0) s.port.pauseUntil c)
    if g || p then
      let q := smGet (fun _ => {}) s.ts.sample c
      { s with ts := { s.ts with sample := smPut (fun _ => {}) s.ts.sample c { q with gated := q.gated || g, paused := q.paused || p } } }
    else s) s

/-- A GATE_LIST action (R412). -/
def State.gateList (s : State) (target arg : Nat) : State :=
  if target < 2 ∧ arg = 0 ∧ s.gateListOk target then
    (({ s with ts := { s.ts with list := some target, baseBeat := s.beat.beat, entry := 0 } }).markSample).raise EV_TS_GATE_LIST target []
  else s.raise EV_TS_GATE_REJECTED target []

/-- ns from now to the next start of an entry of the active list.
Assumption log: 118 (DEDUCED). -/
def State.nextEntry (s : State) (l : Nat) : Nat :=
  let pos := s.gatePos l
  match (List.range (s.gateCount l)).find? fun e => decide (pos < s.gateOff l e) with
  | some e => s.gateOff l e - pos
  | none => s.gateCycle l - pos

/-- The entry in force at the present local time.
Assumption log: 7 (DESIGN CHOICE), 118 (DEDUCED). -/
def State.settleGates (s : State) : State := ({ s with ts := { s.ts with entry := s.gateEntry } }).markSample

/-- GATE_ENTRY_BOUNDARY: local time moves to the start of the next entry, if it has not passed one already, and gates change (R411, R413). -/
def State.gateBoundary (s : State) : State :=
  match s.ts.list with
  | none => s
  | some l =>
    if !s.beat.valid then s
    else if s.gateEntry ≠ s.ts.entry then s.settleGates
    else (s.reach (s.now + s.nextEntry l)).settleGates

/-- GATE_ENTRY_BOUNDARY (R411). -/
def execGateEntryBoundary (s : State) : Res := s.live <| .next s.gateBoundary

/-! The express shaper (R410). -/

/-- Tokens up to the present instant, in 1/8,000 byte. -/
def State.fillTokens (s : State) : State :=
  let t := min (s.get F.TS_EXP_EXP_BURST * 8000) (s.ts.tokens + s.get F.TS_EXP_EXP_RATE_MBPS * (s.now - s.ts.tokensAt))
  { s with ts := { s.ts with tokens := t, tokensAt := s.now } }

/-- The frames queued for a class. -/
def State.tsQueue (s : State) (c : Nat) : List QFrame := smGet (fun _ => []) s.ts.queue c

/-- EXPRESS_SHAPER_READY: the tokens reach what class 7's head frame needs (R410). -/
def State.shaperReady (s : State) : State :=
  let s := s.fillTokens
  match s.tsQueue 7 with
  | [] => s
  | f :: _ =>
    let need := f.wire * 8000 - s.ts.tokens
    let rate := s.get F.TS_EXP_EXP_RATE_MBPS
    if need = 0 then s else (s.reach (s.now + (need + rate - 1) / rate)).fillTokens

/-- EXPRESS_SHAPER_READY (R410). -/
def execExpressShaperReady (s : State) : Res := s.live <| .next s.shaperReady

/-! The choice of a frame (R408, R409). -/

/-- Whether a class may send its head frame (R408). -/
def State.tsEligible (s : State) (c : Nat) : Bool :=
  match s.tsQueue c with
  | [] => false
  | f :: _ => decide (smGet (fun _ => 0) s.port.pauseUntil c ≤ s.now) && s.kerfOk c f.wire

/-- The state of the round: deficits, pointer, visit (R409). -/
structure Drr where
  deficit : SMap Nat
  ptr : Nat
  visiting : Bool

/-- A visit ends. -/
def Drr.endVisit (d : Drr) : Drr := { d with visiting := false, ptr := (d.ptr + 1) % 7 }

/-- What the round needs to know of a class: the wire bytes of its head frame (none: empty), whether a frame follows it, whether it is
eligible, QUANTUM, BURST_CAP. -/
structure DrrClass where
  head : Option Nat
  more : Bool
  ok : Bool
  quantum : Nat
  cap : Nat

/-- One turn of the loop of `pick_frame` (R409): the round and, once one is chosen, the class. -/
def Drr.turn (d : Drr) (cs : Nat → DrrClass) : Drr × Option Nat :=
  let c := d.ptr
  let k := cs c
  let f := smGet (fun _ => 0) d.deficit c
  let put (d : Drr) (v : Nat) : Drr := { d with deficit := smPut (fun _ => 0) d.deficit c v }
  let serve (d : Drr) (f : Nat) : Drr × Option Nat :=
    match k.head with
    | some w =>
      if k.ok ∧ w ≤ f then
        if k.more then (put d (f - w), some c) else ((put d (min (f - w) k.cap)).endVisit, some c)
      else ((put d f).endVisit, none)
    | none => (d.endVisit, none)
  if d.visiting then serve d f
  else if k.head.isNone then ((put d (min (f + k.quantum) k.cap)).endVisit, none)
  else if !k.ok then (d.endVisit, none)
  else serve { d with visiting := true } (f + k.quantum)

/-- Turns of the round until a class is chosen. -/
def Drr.run (cs : Nat → DrrClass) : Nat → Drr → Drr × Option Nat
  | 0, d => (d, none)
  | fuel + 1, d =>
    let x := d.turn cs
    match x.2 with
    | some c => (x.1, some c)
    | none => x.1.run cs fuel

/-- What the round sees of a class. -/
def State.drrClass (s : State) (c : Nat) : DrrClass :=
  { head := (s.tsQueue c).head?.map QFrame.wire, more := decide (1 < (s.tsQueue c).length), ok := s.tsEligible c,
    quantum := s.get (F.TS_Q_CFG_QUANTUM c), cap := s.get (F.TS_Q_CFG_BURST_CAP c) }

/-- The class of the next frame of classes 0 to 6; without an eligible one nothing changes (R409). A frame needs at most 9,236 rounds, a QUANTUM
being at least 1. -/
def State.drrPick (s : State) : Option Nat × State :=
  if (List.range 7).any fun c => s.tsEligible c then
    let x := Drr.run s.drrClass 140000 ⟨s.ts.deficit, s.ts.ptr, s.ts.visiting⟩
    (x.2, { s with ts := { s.ts with deficit := x.1.deficit, ptr := x.1.ptr, visiting := x.1.visiting } })
  else (none, s)

/-! The frame leaves (R407, R420, R422, R372). -/

/-- The global tenant to which a frame is charged (R424). -/
def TxBody.gten : TxBody → Option Nat
  | .pkt p => some p.gten
  | _ => none

/-- Whether a frame is one of PTP. -/
def TxBody.isPtp : TxBody → Bool
  | .ptp _ => true
  | _ => false

/-- The register of the next packet number of the transmit association in use (R372). -/
def State.txPnReg (s : State) : Nat := Reg.PORT_SEC_SA 0 (s.get F.PORT_SEC_CFG_TX_AN) 4

/-- A frame takes its packet number; `none` where it is discarded because the numbers have run out (R372).
Assumption log: 114 (DESIGN CHOICE). -/
def State.takePn (s : State) : Option Nat × State :=
  let pn := (s.reg s.txPnReg).toNat
  let xpn := s.bit F.PORT_SEC_CFG_CIPHER
  let last := if xpn then 2 ^ 64 - 1 else 2 ^ 32 - 1
  if s.port.pnSpent ∨ last < pn then
    let s := s.bump F.PORT_SEC_CNT_TX_PN_STOP 1
    (none, if s.port.pnExhausted then s else { s with port := { s.port with pnExhausted := true } }.raise EV_PORT_SEC_PN_EXHAUSTED 0 [])
  else
    let s := if pn = 2 ^ 64 - 1 then { s with port := { s.port with pnSpent := true } } else s.setReg s.txPnReg (BitVec.ofNat 64 (pn + 1))
    (some pn, if pn = (if xpn then 2 ^ 62 else 0xC0000000) then s.raise EV_PORT_SEC_PN_LOW 0 [] else s)

/-- The samples of a class after a frame of it has started (R422). -/
def State.sampleSent (s : State) (c soj : Nat) : State :=
  let q := smGet (fun _ => {}) s.ts.sample c
  let r : QSample := { q with sent := q.sent + 1, sojournSum := q.sojournSum + soj, sojournMax := max q.sojournMax soj }
  { s with ts := { s.ts with sample := smPut (fun _ => {}) s.ts.sample c r } }

/-- ns that wire bytes take, rounded up (R407). -/
def State.wireNs (s : State) (n : Nat) : Nat := (n * s.byteTime + 999) / 1000

/-- R418's bound at the current speed; 0 while the link is not UP.
Assumption log: 116 (DESIGN CHOICE). -/
def State.tsBound (s : State) : Nat :=
  if s.get F.PORT_STATUS_STATE = 4 then (1400000 + (18556 + s.get F.TS_EXP_EXP_BURST) * s.byteTime + 999) / 1000 else 0

/-- An express frame that took longer than the bound is counted, and reported once in a sample period (R420). The time in the node is the
sojourn, the frame's own time, and the fixed path of 400 ns.
Assumption log: 116 (DESIGN CHOICE). -/
def State.expressLate (s : State) (soj : Nat) (f : QFrame) : State :=
  let n := soj + s.wireNs f.wire + 400
  if s.tsBound < n then
    let s := s.bump F.TS_BOUND_EXPRESS_LATE 1
    if s.ts.lateRaised then s else { s with ts := { s.ts with lateRaised := true } }.raise EV_TS_EXPRESS_LATE 0 [n, f.depth]
  else s

/-- The head frame of a class leaves its queue and the node.
Assumption log: 119 (DESIGN CHOICE). -/
def State.sendFrame (s : State) (c : Nat) (f : QFrame) (rest : List QFrame) : State :=
  let s := { s with ts := { s.ts with queue := smPut (fun _ => []) s.ts.queue c rest } }
  let soj := s.now - f.enq
  let sec := s.bit F.PORT_SEC_CFG_EN && !(f.body.isPtp && s.bit F.PORT_PTP_CFG_PTP_BYPASS)
  let x : Option (Option Nat) × State :=
    if sec then (match s.takePn with | (some n, s) => (some (some n), s) | (none, s) => (none, s)) else (some none, s)
  match x.1 with
  | none => x.2
  | some pn =>
    let s := x.2.sampleSent c soj
    let ten := match f.body.gten with | some g => s.tenantOf g | none => 0
    let s := s.charge ten 3 f.wire
    let s := if c = 7 then s.expressLate soj f else s
    { s with port := { s.port with busyUntil := s.now + s.wireNs f.wire, sent := s.port.sent ++ [⟨c, f.body, f.wire, s.now, pn⟩] } }

/-- Connections of a class that waited for room in its queue send on (R406).
Assumption log: 119 (DESIGN CHOICE). -/
def State.pumpClass (s : State) (c : Nat) : State :=
  let s := s.pumpCtl c
  ((s.sko.tx.filter fun e => e.1 % 8 == c && !e.2.waiting.isEmpty).map Prod.fst).foldl State.pump s

/-- TX_SLOT: the port can start a frame; class 7 is offered the slot first, then classes 0 to 6 (R408).
Assumption log: 119 (DESIGN CHOICE). -/
def State.txSlot (s : State) : State :=
  if s.get F.PORT_STATUS_STATE ≠ 4 then s
  else
    let s := (s.reach (max s.port.busyUntil s.port.trimUntil)).fillTokens
    let go (s : State) (c : Nat) : State :=
      match s.tsQueue c with
      | [] => s
      | f :: rest => (s.sendFrame c f rest).pumpClass c
    let w := match s.tsQueue 7 with | [] => 0 | f :: _ => f.wire * 8000
    if s.tsEligible 7 ∧ w ≤ s.ts.tokens then go { s with ts := { s.ts with tokens := s.ts.tokens - w } } 7
    else
      match s.drrPick with
      | (some c, s) => go s c
      | (none, s) => s

/-- TX_SLOT (R408). -/
def execTxSlot (s : State) : Res := s.live <| .next s.txSlot

/-! Policing (R415, R416). -/

/-- What a policer says of a request. -/
inductive Colour where
  | green | yellow | red
deriving DecidableEq, Repr

/-- The policer of a tenant and class. -/
def polOf (tenant cls : Nat) : Nat := tenant * 2 + (if cls = 7 then 1 else 0)

/-- A policer is filled: at the set of EN, and at a write of its registers (R416). -/
def State.fillPolicer (s : State) (t q : Nat) : State :=
  let p : PolicerSt := ⟨s.get (F.TS_POL_BURST_CBS t q) * 8000, s.get (F.TS_POL_BURST_PBS t q) * 8000, s.now⟩
  { s with ts := { s.ts with pol := smPut (fun _ => {}) s.ts.pol (t * 2 + q) p } }

/-- A request of `b` bytes judged by the policer of its tenant and class (R415, R416). -/
def State.police (s : State) (tenant cls b : Nat) : Colour × State :=
  let q := if cls = 7 then 1 else 0
  if tenant = 0 ∨ !s.bit (F.TS_POL_RATE_EN tenant q) then (.green, s)
  else
    let p := smGet (fun _ => {}) s.ts.pol (polOf tenant cls)
    let dt := s.now - p.last
    let tc := min (s.get (F.TS_POL_BURST_CBS tenant q) * 8000) (p.tc + s.get (F.TS_POL_RATE_CIR_MBPS tenant q) * dt)
    let tp := min (s.get (F.TS_POL_BURST_PBS tenant q) * 8000) (p.tp + s.get (F.TS_POL_RATE_PIR_MBPS tenant q) * dt)
    let put (tc tp : Nat) : State := { s with ts := { s.ts with pol := smPut (fun _ => {}) s.ts.pol (polOf tenant cls) ⟨tc, tp, s.now⟩ } }
    if tp < b * 8000 then (.red, put tc tp)
    else if tc < b * 8000 then (.yellow, put tc (tp - b * 8000))
    else (.green, put (tc - b * 8000) (tp - b * 8000))

/-! Samples (R421, R422). -/

/-- The sample record of a class. -/
def State.sampleRecord (s : State) (c : Nat) : List Byte :=
  let q := smGet (fun _ => {}) s.ts.sample c
  leBytes 6 s.beatNow ++ leBytes 1 c ++ leBytes 1 ((if q.gated then 1 else 0) + (if q.paused then 2 else 0)) ++ leBytes 4 (s.queued c) ++
    leBytes 4 q.maxDepth ++ leBytes 2 (min (s.tsQueue c).length 0xFFFF) ++ zeros 2 ++ leBytes 4 (min q.sojournMax 0xFFFFFFFF) ++
    leBytes 4 (if q.sent = 0 then 0 else q.sojournSum / q.sent) ++ leBytes 4 (min q.sent 0xFFFFFFFF)

/-- The record of a class is written, and its next period begins. -/
def State.writeSample (s : State) (c : Nat) : State :=
  let n := s.get F.TS_SAMPLE_CNT_RECORDS
  let a := s.get F.TS_SAMPLE_BASE_ADDR + 32 * (n % 2 ^ s.get F.TS_SAMPLE_CTL_SIZE_LOG2)
  let s := ((s.store a (s.sampleRecord c)).2).set F.TS_SAMPLE_CNT_RECORDS (n + 1)
  { s with ts := { s.ts with sample := smPut (fun _ => {}) s.ts.sample c { maxDepth := s.queued c } } }

/-- QUEUE_SAMPLE: at the boundary of a beat that is a multiple of PERIOD the eight records are written, once (R421).
Assumption log: 117 (DESIGN CHOICE). -/
def State.queueSample (s : State) : State :=
  if s.bit F.TS_SAMPLE_CTL_EN ∧ s.beat.valid ∧ s.beat.beat % s.get F.TS_SAMPLE_CTL_PERIOD = 0 ∧ s.ts.sampledAt ≠ some s.beat.beat then
    let s := { s with ts := { s.ts with sampledAt := some s.beat.beat } }
    ([0, 1, 2, 3, 4, 5, 6, 7].foldl State.writeSample s).markSample
  else s

/-- QUEUE_SAMPLE (R421). -/
def execQueueSample (s : State) : Res := s.live <| .next s.queueSample

/-- A sample period ends at a boundary: a late express frame may be reported again (R420). -/
def State.samplePeriod (s : State) : State :=
  if s.beat.valid ∧ s.beat.beat % s.get F.TS_SAMPLE_CTL_PERIOD = 0 then { s with ts := { s.ts with lateRaised := false } } else s

/-! Telemetry (R426). -/

/-- Whether a register offset is one that SNAP captures. -/
def snapped (off : Nat) : Bool :=
  (decide (Reg.TEL_TEN 0 0 ≤ off) && decide (off < Reg.TEL_TEN 0 0 + 256 * 0x80)) ||
    (decide (Reg.TEL_SHARD_KEY 0 ≤ off) && decide (off < Reg.TEL_SHARD_KEY 1024) &&
      ((off - Reg.TEL_SHARD_KEY 0) % 0x20 == 8 || (off - Reg.TEL_SHARD_KEY 0) % 0x20 == 0x10))

/-- TEL_SNAP: the tenant counters, COUNT and SUM_NS are copied at one instant (R426).
Assumption log: 117 (DESIGN CHOICE). -/
def State.telSnap (s : State) : State :=
  { s with tel := { shadow := (s.regs.filter fun e => snapped e.1).map fun e => (e.1, e.2.toNat) } }

/-- TEL_SNAP (R426). -/
def execTelSnap (s : State) : Res := s.live <| .next s.telSnap

/-! Reset (R428). -/

/-- A reset of the traffic unit: frames in its queues are discarded, deficits, buckets and pointer return to their reset state, the tenant
counters to 0; the active gate list stays (R425, R428). -/
def State.tsReset (s : State) : State :=
  { s with
    ts := { s.ts with queue := [], deficit := [], ptr := 0, visiting := false, tokens := s.get F.TS_EXP_EXP_BURST * 8000, tokensAt := s.now,
                      sample := [], lateRaised := false,
                      pol := s.ts.pol.map fun e =>
                        (e.1, ⟨s.get (F.TS_POL_BURST_CBS (e.1 / 2) (e.1 % 2)) * 8000, s.get (F.TS_POL_BURST_PBS (e.1 / 2) (e.1 % 2)) * 8000, s.now⟩) },
    tel := {} }

end Sys2Proof.Machine
end

