-- ==== Sys2Proof/Machine/Land.lean ====
section
/-! DEFINITION. The landing of Haldio messages: checks and admission (R399), delivery to rings (R400), the composition of the node as a request
meets it (R68, R70, R86, R535), CANCEL (R403), and answers to requests of the node. -/

namespace Sys2Proof.Machine

/-! A message (R398). -/

/-- Types that a unit of the node answers for a shard, with the shard ID in payload bytes 2 and 3. -/
def shardType (ty : Nat) : Bool :=
  ty == T_QUERY_LS || ty == T_QUERY_GW || ty == T_QUERY_TEXT || ty == T_UPDATE_VEC || ty == T_UPDATE_ROW || ty == T_TABLE_OP || ty == T_LOOKUP

/-- Types that R86 calls updates. -/
def updateType (ty : Nat) : Bool := ty == T_UPDATE_VEC || ty == T_UPDATE_ROW || ty == T_TABLE_OP

/-- RESULT, REDIRECT and EVENT are replies or reports. -/
def reportType (ty : Nat) : Bool := ty == T_RESULT || ty == T_REDIRECT || ty == T_EVENT

/-- The kind of object that a type names: 0 index, 1 table. -/
def kindOf (ty : Nat) : Nat := if ty = T_UPDATE_ROW ∨ ty = T_TABLE_OP ∨ ty = T_LOOKUP then 1 else 0

/-- The index or table that a message names. -/
def objectOf (ty : Nat) (payload : List Byte) : Nat := if updateType ty then at_ payload 1 1 else at_ payload 0 1

/-- The first check of R399. -/
def msgOk (cls : Nat) (m : List Byte) : Bool :=
  at_ m 0 1 / 16 == 1 && haldioTypes.contains (at_ m 1 1) && at_ m 2 1 % 8 == cls && at_ m 24 4 + 32 == m.length && decide (32 ≤ m.length)

/-- The node tenant of a global tenant that may use a class (R70, R472). -/
def State.nodeTenant (s : State) (gten cls : Nat) : Option Nat :=
  if gten = 0 then some 0
  else (s.img.tenants.find? fun e => e.global == gten).bind fun e => if e.mask / 2 ^ cls % 2 = 1 then some e.node else none

/-- The request that a message from a node spells. -/
def reqFrom (src cls gten tenant : Nat) (m : List Byte) : Req :=
  { ty := at_ m 1 1, cls := cls, tenant := tenant, gten := gten, epoch := at_ m 4 4, reqId := at_ m 8 8, deadline := at_ m 16 6, src := src,
    rehearsal := at_ m 28 1 % 2 == 1, payload := (m.drop 32).take (at_ m 24 4) }

/-! Delivery (R400). -/

/-- The handling unit of a message. -/
def State.deliveryUnit (s : State) (ty : Nat) (payload : List Byte) : Nat :=
  if ty = T_QUERY_LS then 0
  else if ty = T_QUERY_GW then 1
  else if ty = T_UPDATE_VEC then (if (s.gwSlot (at_ payload 1 1) (at_ payload 2 2)).isSome then 1 else 0)
  else if ty = T_QUERY_TEXT ∨ ty = T_TEXT_STREAM then 2
  else if ty = T_CONTROL then 4
  else if ty = T_STORAGE then 5
  else if ty = T_EVENT then 6
  else 3

/-- What chooses among the rings of an entry.
Assumption log: 181 (DEDUCED). -/
def ringChoice (ty reqId : Nat) (payload : List Byte) : Nat :=
  if shardType ty then at_ payload 2 2
  else if ty = T_TEXT_STREAM ∧ at_ payload 0 1 ≠ 1 then at_ payload 8 8
  else reqId

/-- The ring that a message goes to; none where its entry is empty.
Assumption log: 181 (DEDUCED). -/
def State.landRing (s : State) (cls : Nat) (m : List Byte) : Option Nat :=
  let payload := m.drop 32
  let ty := at_ m 1 1
  let e := s.sko.recd.delivery.getD (s.deliveryUnit ty payload * 8 + cls) (0, 0)
  if e.2 = 0 ∨ (s.ring e.1).size = 0 then none else some (e.1 + ringChoice ty (at_ m 8 8) payload % e.2)

/-- Bytes of a ring that messages not yet written to it will take: the ones that are arriving and the ones held for a map cut.
Assumption log: 179 (DESIGN CHOICE). -/
def State.promised (s : State) (g : Nat) : Nat :=
  ((s.sko.rx.map fun e => match e.2.part with
      | p :: _ => if p.op = OP_HALDIO ∧ s.landRing p.cls p.data = some g then roundUp p.total 64 else 0
      | [] => 0).sum) +
    ((s.sko.held.filter fun h => s.landRing h.cls h.msg == some g).map fun h => roundUp h.msg.length 64).sum

/-- Whether a message of a length has room in its ring now; one that will not be written needs none.
Assumption log: 179 (DESIGN CHOICE), 181 (DEDUCED). -/
def State.landRoom (s : State) (cls gten total : Nat) (m : List Byte) : Bool :=
  let ty := at_ m 1 1
  if ty = T_CANCEL ∨ ty = T_RESULT ∨ ty = T_REDIRECT ∨ (s.nodeTenant gten cls).isNone then true
  else
    match s.landRing cls m with
    | none => true
    | some g => decide ((s.ring g).size < total + 64) || decide (s.promised g + roundUp total 64 ≤ s.ringRoom g)

/-- The message is written to its ring with the node tenant and the source in its envelope, and the tail moves (R29, R70, R400). -/
def State.place (s : State) (tenant : Nat) (h : HeldMsg) : State :=
  match s.landRing h.cls h.msg with
  | none => s
  | some g => s.ringSend g (h.msg.take 3 ++ leBytes 1 tenant ++ (h.msg.drop 4).take 18 ++ leBytes 2 h.src ++ h.msg.drop 24)

/-! Composition (R68, R86, R535). -/

/-- Whether the node holds a shard as an old copy. -/
def State.isOldCopy (s : State) (kind object shard : Nat) : Bool :=
  s.img.oldCopies.any fun r => r.kind == kind && r.object == object && r.shard == shard

/-- Whether every row that a request names is a guest row of the node (R297).
Assumption log: 86 (DEDUCED). -/
def State.guestRows (s : State) (r : Req) : Bool :=
  let b := r.payload
  let guest (row : Nat) : Bool := match s.tblDesc (objectOf r.ty b) (at_ b 2 2) with
    | none => false
    | some d => (match s.rowPlace d row with
      | some p => p.guest
      | none => false)
  if r.ty = T_UPDATE_ROW then guest (at_ b 4 4)
  else if r.ty = T_LOOKUP then 0 < at_ b 6 2 && (List.range (min (at_ b 6 2) 256)).all fun j => guest (at_ b (32 + 4 * j) 4)
  else false

/-- The armed beat of a MAP_CUT to an epoch that would be applied, armed for the current beat or the next, not yet dispatched (R535). -/
def State.cutSoon (s : State) (epoch : Nat) : Option Nat :=
  (entries.find? fun n =>
    let b := s.get (F.BEAT_EVT_BEAT_BEAT n)
    s.entState n == 1 && s.get (F.BEAT_EVT_ACT_ACTION n) == 3 && s.get (F.BEAT_EVT_ARG_ARG n) == epoch &&
      s.beat.valid && decide ((b + beatMod - s.beatNow) % beatMod ≤ 1) && s.cutReason b epoch == 0).map
    fun n => s.get (F.BEAT_EVT_BEAT_BEAT n)

/-- What the composition makes of a request. -/
inductive Verdict where
  | serve (oldServed oldCopy : Bool)
  | away (home : Nat)
  | refuse (code : Nat)
  | hold (beat : Nat)
deriving DecidableEq, Repr

/-- R86 for a shard, an epoch and a read or an update.
Assumption log: 86 (DEDUCED), 178 (DEDUCED). -/
def State.verdict (s : State) (r : Req) : Verdict :=
  let kind := kindOf r.ty
  let object := objectOf r.ty r.payload
  let shard := at_ r.payload 2 2
  let home := s.homeOf kind object shard
  let here := home == some s.node || s.guestRows r
  let gone : Verdict := match home with
    | some h => .away h
    | none => .refuse E_ABSENT
  if r.epoch = s.mapEpoch then (if here then .serve false false else gone)
  else if s.windowOpen ∧ r.epoch = s.get F.IMG_MAP_PREVIOUS then
    (if here then .serve true false else if !updateType r.ty && s.isOldCopy kind object shard then .serve true true else gone)
  else if r.epoch = (s.mapEpoch + 1) % 2 ^ 32 then
    (match s.cutSoon r.epoch with
      | some b => .hold b
      | none => .refuse E_EPOCH)
  else .refuse E_EPOCH

/-- The unit that answers for a type. -/
def State.answerUnit (s : State) (r : Req) : Nat :=
  match s.deliveryUnit r.ty r.payload with
  | 2 => U_TEXT
  | 3 => U_TABLES
  | 4 => U_NCTL
  | 5 => U_FLASH
  | _ => U_SEARCH

/-- Whether a search's body holds a usable merge target. -/
def hasMerge (r : Req) : Bool :=
  (r.ty == T_QUERY_LS || r.ty == T_QUERY_GW || r.ty == T_QUERY_TEXT) && decide (96 ≤ r.payload.length) && (mergeOf r.payload 20).ok

/-- A request that the composition refuses is answered. -/
def State.refuseReq (s : State) (r : Req) (code : Nat) : State :=
  if hasMerge r then s.failSearch (s.answerUnit r) r (mergeOf r.payload 20) (at_ r.payload 2 2) (at_ r.payload 4 2) 0 code
  else if r.ty = T_UPDATE_ROW then s.tblReject r code
  else s.answer (s.answerUnit r) r code

/-- A request is redirected to the home of its shard (R86, R401). -/
def State.sendAway (s : State) (r : Req) (home : Nat) : State :=
  let kind := kindOf r.ty
  let object := objectOf r.ty r.payload
  let shard := at_ r.payload 2 2
  if hasMerge r then s.redirectSearch (s.answerUnit r) r (mergeOf r.payload 20) shard (at_ r.payload 4 2) kind object home
  else s.redirect (s.answerUnit r) r kind object shard home 0

/-- An entry of the in-flight table, changed. -/
def State.setFlight (s : State) (src reqId : Nat) (f : InFlight → InFlight) : State :=
  { s with sko := { s.sko with inflight := s.sko.inflight.map fun e => if e.src = src ∧ e.reqId = reqId then f e else e } }

/-- An admitted request goes on: it is answered if it has been cancelled, waits for ever if a rehearsal silences it, else lands in its ring,
is refused, redirected or held (R86, R403, R495). -/
def State.goOn (s : State) (h : HeldMsg) (r : Req) : State :=
  if s.cancelled r.src r.reqId then s.answer (s.answerUnit r) r E_CANCELLED
  else if s.silenced r.src r.reqId then s
  else if !shardType r.ty then s.place r.tenant h
  else
    match s.verdict r with
    | .serve old copy => (s.setFlight r.src r.reqId fun e => { e with oldServed := old, oldCopy := copy }).place r.tenant h
    | .away home => s.sendAway r home
    | .refuse code => s.refuseReq r code
    | .hold b => { s with sko := { s.sko with held := s.sko.held ++ [{ h with until_ := b }] } }

/-- The request of a message that is held; its node tenant is the one it was admitted under.
Assumption log: 179 (DESIGN CHOICE). -/
def State.heldReq (s : State) (h : HeldMsg) : Req :=
  let t := match s.flight h.src (at_ h.msg 8 8) with
    | some e => e.tenant
    | none => 0
  reqFrom h.src h.cls h.gten t h.msg

/-- The requests held for a map cut are decided afresh; one whose cut is still to come is held on (R535).
Assumption log: 179 (DESIGN CHOICE). -/
def State.decideHeld (s : State) : State :=
  let hs := s.sko.held
  hs.foldl (fun s h => s.goOn h (s.heldReq h)) { s with sko := { s.sko with held := [] } }

/-! CANCEL (R403). -/

/-- SKO_LOAD counts the held CANCELs. -/
def State.countCancels (s : State) : State := s.set F.SKO_LOAD_CANCEL_HELD s.sko.cancels.length

/-- For how long a CANCEL is held, in ns. -/
def State.cancelHold (s : State) : Nat := beatsNs (s.get F.SKO_CFG2_CANCEL_HOLD)

/-- The held CANCEL of a request.
Assumption log: 180 (DEDUCED). -/
def State.heldCancel (s : State) (src reqId : Nat) : Option HeldCancel :=
  s.sko.cancels.find? fun c => c.src == src && c.reqId == reqId && decide (s.now ≤ c.at_ + s.cancelHold)

/-- A held CANCEL is freed. -/
def State.freeCancel (s : State) (src reqId : Nat) : State :=
  State.countCancels { s with sko := { s.sko with cancels := s.sko.cancels.filter fun c => !(c.src == src && c.reqId == reqId) } }

/-- A CANCEL that matches nothing is held; the oldest of 256 is replaced.
Assumption log: 180 (DEDUCED). -/
def State.holdCancel (s : State) (src reqId : Nat) : State :=
  let s := s.freeCancel src reqId
  let cs := if s.sko.cancels.length < 256 then s.sko.cancels else s.sko.cancels.drop 1
  let c : HeldCancel := { src := src, reqId := reqId, at_ := s.now }
  State.countCancels { s with sko := { s.sko with cancels := cs ++ [c] } }

/-- A CANCEL that matches is passed to every unit that holds the request.
Assumption log: 64 (DEDUCED). -/
def State.cancelFlight (s : State) (src reqId : Nat) : State :=
  let s := s.setFlight src reqId fun e => { e with cancelled := true }
  let s := (((s.lsCancel src reqId).tblCancel src reqId).textCancel src reqId).flCancel src reqId
  match s.sko.held.find? fun h => h.src == src && at_ h.msg 8 8 == reqId with
  | some h =>
    let s := { s with sko := { s.sko with held := s.sko.held.filter fun x => !(x.src == src && at_ x.msg 8 8 == reqId) } }
    s.goOn h (s.heldReq h)
  | none => s

/-- A reply or report that fails, or a CANCEL that does, is dropped and counted (R399). -/
def State.unmatched (s : State) : State := s.bump F.SKO_CNT_DROP_UNMATCHED 1

/-- A CANCEL that has arrived whole.
Assumption log: 180 (DEDUCED). -/
def State.landCancel (s : State) (src cls gten : Nat) (m : List Byte) : State :=
  if !msgOk cls m ∨ at_ m 24 4 ≠ 0 ∨ (s.nodeTenant gten cls).isNone then s.unmatched
  else if (s.flight src (at_ m 8 8)).isSome then s.cancelFlight src (at_ m 8 8)
  else s.holdCancel src (at_ m 8 8)

/-- CANCEL_HOLD_EXPIRY: a held CANCEL is dropped after CANCEL_HOLD beats (R403). -/
def execCancelHoldExpiry (src reqId : Nat) (s : State) : Res := s.live <|
  .next <|
    match s.sko.cancels.find? fun c => c.src == src && c.reqId == reqId with
    | some c => (s.reach (c.at_ + s.cancelHold)).freeCancel src reqId
    | none => s

/-! Replies and reports (R399, R400). -/

/-- A RESULT or REDIRECT goes to the unit that asked, matched by its REQ_ID. -/
def State.landReply (s : State) (src : Nat) (m : List Byte) : State :=
  let q := at_ m 8 8
  match s.sko.asks.find? fun a => a.reqId == q with
  | none => s.unmatched
  | some a =>
    if s.sko.inbox.any fun x => x.reqId == q then s.unmatched
    else
      let x : Answer := { reqId := q, unit := a.unit, ty := at_ m 1 1, src := src, payload := (m.drop 32).take (at_ m 24 4) }
      { s with sko := { s.sko with inbox := s.sko.inbox ++ [x] } }

/-- An EVENT lands in the ring of its unit, if there is one (R472). -/
def State.landEvent (s : State) (src cls gten tenant : Nat) (m : List Byte) : State :=
  match s.landRing cls m with
  | none => s.unmatched
  | some g =>
    if (s.ring g).size < m.length + 64 then s.unmatched
    else s.place tenant { src := src, cls := cls, gten := gten, msg := m, until_ := 0 }

/-- A reply or report that has arrived whole. -/
def State.landReport (s : State) (src cls gten : Nat) (m : List Byte) : State :=
  match s.nodeTenant gten cls with
  | none => s.unmatched
  | some t => if at_ m 1 1 = T_EVENT then s.landEvent src cls gten t m else s.landReply src m

/-! Requests (R399). -/

/-- A request that fails a check is answered; `counted` says whether it has a node tenant to charge (R425).
Assumption log: 178 (DEDUCED). -/
def State.refuse (s : State) (r : Req) (code : Nat) (counted : Bool) : State :=
  let fl := if r.rehearsal then SF_REHEARSAL else 0
  let s := s.sendResult U_NCTL r (resultHead (statusWord fl code) 0 0 0 0 0 1 0 0)
  if counted then s.accountAnswer r.tenant fl code true else s

/-- Why an admissible request does not enter the table or reach a ring.
Assumption log: 178 (DEDUCED). -/
def State.landCode (s : State) (cls : Nat) (r : Req) (m : List Byte) : Nat :=
  if (s.flight r.src r.reqId).isSome then E_MALFORMED
  else if 65536 ≤ s.sko.inflight.length then E_CAPACITY
  else
    match s.landRing cls m with
    | none => E_ABSENT
    | some g =>
      if (s.ring g).size < m.length + 64 then E_CAPACITY
      else if s.img.full ≠ 0 ∧ r.ty ≠ T_CONTROL then E_CAPACITY
      else E_NONE

/-- A full table is reported once per episode. -/
def State.noteFull (s : State) : State :=
  if s.sko.tableFull then s
  else { s with sko := { s.sko with tableFull := true } }.raise EV_SKO_REQ_TABLE_FULL 0 []

/-- The request enters the in-flight table, with the rehearsal that silences it (R399, R425, R495). -/
def State.enter (s : State) (r : Req) (len : Nat) : State :=
  let kind := kindOf r.ty
  let object := objectOf r.ty r.payload
  let shard := at_ r.payload 2 2
  let quiet := if r.rehearsal && shardType r.ty then s.shardScript 4 kind object shard else none
  let e : InFlight :=
    { src := r.src, reqId := r.reqId, ty := r.ty, cls := r.cls, gten := r.gten, tenant := r.tenant, kind := kind, object := object,
      shard := shard, epoch := r.epoch, oldServed := false, rehearsal := r.rehearsal, silent := quiet.isSome, landed := s.now,
      cancelled := false }
  let s := State.countFlights { s with sko := { s.sko with inflight := s.sko.inflight ++ [e] } }
  let s := (s.charge r.tenant 0 1).charge r.tenant 1 len
  match quiet with
  | some n => s.injected n
  | none => s

/-- An admitted request: a CANCEL that came before it ends it at once (R403). -/
def State.takeIn (s : State) (h : HeldMsg) (r : Req) : State :=
  let s := s.enter r h.msg.length
  if (s.heldCancel r.src r.reqId).isSome then (s.freeCancel r.src r.reqId).answer (s.answerUnit r) r E_CANCELLED
  else s.goOn h r

/-- The checks of R399 from policing on.
Assumption log: 178 (DEDUCED). -/
def State.landChecked (s : State) (h : HeldMsg) (r : Req) : State :=
  let x := if r.ty = T_CONTROL then (Colour.green, s) else s.police r.tenant r.cls h.msg.length
  let s := x.2
  if x.1 = .red then (s.charge r.tenant 4 1).refuse r E_POLICED true
  else
    let s := if x.1 = .yellow then s.charge r.tenant 5 1 else s
    let code := s.landCode h.cls r h.msg
    if code = E_NONE then s.takeIn h r
    else
      let s := if code = E_CAPACITY ∧ 65536 ≤ s.sko.inflight.length then s.noteFull else s
      s.refuse r code true

/-- A request that has arrived whole and meets no delay.
Assumption log: 87 (DEDUCED). -/
def State.landReq (s : State) (h : HeldMsg) : State :=
  if !msgOk h.cls h.msg then s.refuse (reqFrom h.src h.cls h.gten 0 h.msg) E_MALFORMED false
  else
    match s.nodeTenant h.gten h.cls with
    | none => s.refuse (reqFrom h.src h.cls h.gten 0 h.msg) E_TENANT false
    | some t => s.landChecked h (reqFrom h.src h.cls h.gten t h.msg)

/-- The script that delays a message (R495).
Assumption log: 152 (DEDUCED). -/
def State.delayScript (s : State) (cls : Nat) (m : List Byte) : Option Nat :=
  let ty := at_ m 1 1
  if msgOk cls m && at_ m 28 1 % 2 == 1 && shardType ty then
    s.shardScript 5 (kindOf ty) (objectOf ty (m.drop 32)) (at_ m 34 2)
  else none

/-- A Haldio message that has arrived whole (R399). -/
def State.landMsg (s : State) (src cls gten : Nat) (m : List Byte) : State :=
  let ty := at_ m 1 1
  if ty = T_CANCEL then s.landCancel src cls gten m
  else if reportType ty then (if msgOk cls m then s.landReport src cls gten m else s.unmatched)
  else
    let h : HeldMsg := { src := src, cls := cls, gten := gten, msg := m, until_ := 0 }
    match s.delayScript cls m with
    | some n =>
      let h := { h with until_ := s.now + beatsNs (s.get (F.EVT_RH_TGT_ARG n)) }
      { s.injected n with sko := { (s.injected n).sko with delayed := s.sko.delayed ++ [h] } }
    | none => s.landReq h

/-- REHEARSAL_DELAY_LAND: a delayed request lands at the end of its ARG beats, once its ring has room (R495).
Assumption log: 152 (DEDUCED). -/
def State.delayLand (s : State) (src reqId : Nat) : State :=
  match s.sko.delayed.find? fun h => h.src == src && at_ h.msg 8 8 == reqId with
  | none => s
  | some h =>
    let s := s.reach h.until_
    if s.landRoom h.cls h.gten h.msg.length h.msg then
      let s := { s with sko := { s.sko with delayed := s.sko.delayed.erase h } }
      s.landReq { h with until_ := 0 }
    else s

/-- REHEARSAL_DELAY_LAND (R495). -/
def execRehearsalDelayLand (src reqId : Nat) (s : State) : Res := s.live <| .next (s.delayLand src reqId)

end Sys2Proof.Machine
end

