-- ==== Sys2Proof/Machine/Parity.lean ====
section
/-! DEFINITION. The parity engine (R447 to R449) and the layout of an erasure group (R451). -/

namespace Sys2Proof.Machine

/-! The field GF(2^8) (R447). -/

/-- A product by g = 2, reduced modulo 0x11D. -/
def gfTwice (a : Nat) : Nat := if a < 128 then 2 * a else (2 * a) ^^^ 0x11D

/-- The product of two elements: one step for each bit of the second. -/
def gfMulGo : Nat → Nat → Nat → Nat
  | 0, _, _ => 0
  | k + 1, a, b => (if b % 2 = 1 then a else 0) ^^^ gfMulGo k (gfTwice a) (b / 2)

/-- The product of two elements. -/
def gfMul (a b : Nat) : Nat := gfMulGo 8 a b

/-- g to a power. -/
def gfPow : Nat → Nat
  | 0 => 1
  | n + 1 => gfTwice (gfPow n)

/-- An element to a power. -/
def gfPowOf (a : Nat) : Nat → Nat
  | 0 => 1
  | n + 1 => gfMul a (gfPowOf a n)

/-- The inverse of a non-zero element. -/
def gfInv (a : Nat) : Nat := gfPowOf a 254

/-- The bytewise sum of two strings. -/
def gfAddB (a b : List Byte) : List Byte := List.zipWith (· ^^^ ·) a b

/-- A string multiplied by an element. -/
def gfMulB (k : Nat) (a : List Byte) : List Byte := a.map fun x => BitVec.ofNat 8 (gfMul k x.toNat)

/-- P of data shards; `n` bytes. -/
def parP (n : Nat) (ds : List (List Byte)) : List Byte := ds.foldl gfAddB (zeros n)

/-- Q of data shards numbered from j on. -/
def parQ (n : Nat) : Nat → List (List Byte) → List Byte
  | _, [] => zeros n
  | j, d :: r => gfAddB (gfMulB (gfPow j) d) (parQ n (j + 1) r)

/-- The data shards of a group with up to two shards missing: `ss` holds N data shards, P and Q, the missing ones as zeros. -/
def parData (n nd e0 e1 : Nat) (ss : List (List Byte)) : List (List Byte) :=
  let ds := ss.take nd
  let p := gfAddB (parP n ds) (ss.getD nd [])
  let q := gfAddB (parQ n 0 ds) (ss.getD (nd + 1) [])
  if nd ≤ e0 then ds
  else if e1 < nd then
    let x := gfMulB (gfInv (gfPow e0 ^^^ gfPow e1)) (gfAddB (gfMulB (gfPow e1) p) q)
    (ds.set e0 x).set e1 (gfAddB p x)
  else if e1 = nd then ds.set e0 (gfMulB (gfInv (gfPow e0)) q)
  else ds.set e0 p

/-- A shard of a group whose data are known. -/
def parShard (n nd e : Nat) (ds : List (List Byte)) : List Byte :=
  if e < nd then ds.getD e [] else if e = nd then parP n ds else parQ n 0 ds

/-! Jobs (R448). -/

def pjOp (d : List Byte) : Nat := at_ d 0 1
def pjN (d : List Byte) : Nat := at_ d 1 1
def pjE0 (d : List Byte) : Nat := at_ d 2 1
def pjE1 (d : List Byte) : Nat := at_ d 3 1
def pjLen (d : List Byte) : Nat := at_ d 4 4
def pjFlag (d : List Byte) : Bool := at_ d 8 1 % 2 == 1
def pjDidx (d : List Byte) : Nat := at_ d 9 1
def pjFlagAddr (d : List Byte) : Nat := at_ d 16 6
def pjFlagInc (d : List Byte) : Nat := at_ d 22 2
def pjOut (d : List Byte) (k : Nat) : Nat := at_ d (24 + 8 * k) 6
def pjSrc (d : List Byte) (j : Nat) : Nat := at_ d (64 + 8 * j) 6

/-- The address of an output that is not written. -/
def noOut : Nat := 0xFFFFFFFFFFFF

/-- The source positions that a job reads.
Assumption log: 124 (DEDUCED). -/
def pjReads (d : List Byte) : List Nat :=
  if pjOp d = 1 then List.range (pjN d)
  else if pjOp d = 2 then (List.range (pjN d + 2)).filter fun j => j != pjE0 d && j != pjE1 d
  else if pjOp d = 3 then [0, 1, 2, 3]
  else List.range (pjN d + 2)

/-- The outputs that a job writes. -/
def pjWrites (d : List Byte) : List Nat :=
  if pjOp d = 4 then []
  else (if pjOp d = 2 ∧ pjE1 d = 0xFF then [0] else [0, 1]).filter fun k => pjOut d k != noOut

/-- The checks of R449. -/
def State.parOk (s : State) (d : List Byte) : Bool :=
  let op := pjOp d
  let n := pjN d
  let len := pjLen d
  let src := (pjReads d).map (pjSrc d)
  let out := (pjWrites d).map (pjOut d)
  decide (1 ≤ op) && decide (op ≤ 4) && decide (1 ≤ n) && decide (n ≤ 30) && decide (64 ≤ len) && decide (len ≤ 2 ^ 24) && len % 64 == 0 &&
    (op != 2 || (decide (pjE0 d < pjE1 d) && decide (pjE0 d ≤ n + 1) && (pjE1 d == 0xFF || decide (pjE1 d ≤ n + 1)))) &&
    (op != 3 || decide (pjDidx d < n)) &&
    (!pjFlag d || (decide (1 ≤ pjFlagInc d) && pjFlagAddr d % 8 == 0 && s.rangeExists (pjFlagAddr d) 8)) &&
    (src ++ out).all (fun a => s.rangeExists a len) &&
    !out.any (fun o => src.any fun a => spansMeet (o, len) (a, len))

/-- The outputs of one granule from what was read at the positions of `pjReads`, in the order of `pjWrites`. -/
def parGranule (d : List Byte) (rd : List (Nat × List Byte)) : List (List Byte) :=
  let n := 64
  let g (j : Nat) : List Byte := ((rd.find? fun e => e.1 == j).map Prod.snd).getD (zeros n)
  let nd := pjN d
  let outs : List (List Byte) :=
    if pjOp d = 1 then
      let ds := (List.range nd).map g
      [parP n ds, parQ n 0 ds]
    else if pjOp d = 2 then
      let ds := parData n nd (pjE0 d) (pjE1 d) ((List.range (nd + 2)).map g)
      [parShard n nd (pjE0 d) ds, parShard n nd (pjE1 d) ds]
    else
      let x := gfAddB (g 0) (g 1)
      [gfAddB (g 2) x, gfAddB (g 3) (gfMulB (gfPow (pjDidx d)) x)]
  (pjWrites d).map fun k => outs.getD k []

/-- The first position at which two strings differ. -/
def firstDiff : List Byte → List Byte → Option Nat
  | a :: x, b :: y => if a = b then (firstDiff x y).map (· + 1) else some 0
  | _, _ => none

/-- The lower of two positions that may be absent. -/
def minOpt : Option Nat → Option Nat → Option Nat
  | some a, some b => some (min a b)
  | some a, none => some a
  | none, b => b

/-- Where VERIFY finds P or Q of a granule to differ from its data.
Assumption log: 124 (DEDUCED). -/
def parDiff (d : List Byte) (rd : List (Nat × List Byte)) : Option Nat :=
  let nd := pjN d
  let ss := rd.map Prod.snd
  minOpt (firstDiff (parP 64 (ss.take nd)) (ss.getD nd [])) (firstDiff (parQ 64 0 (ss.take nd)) (ss.getD (nd + 1) []))

/-- The sources of one granule, read in the order of their positions. -/
def State.parRead (s : State) (d : List Byte) (off : Nat) : List Nat → Nat × List (Nat × List Byte) × State
  | [] => (E_NONE, [], s)
  | j :: r =>
    let x := s.loadAcross (pjSrc d j + off) 64
    if x.code ≠ E_NONE then (x.code, [], x.st)
    else
      let y := x.st.parRead d off r
      (y.1, (j, x.data) :: y.2.1, y.2.2)

/-- The outputs of one granule, written in order. -/
def State.parWrite (s : State) (d : List Byte) (off : Nat) : List (Nat × List Byte) → Nat × State
  | [] => (E_NONE, s)
  | (k, b) :: r =>
    let x := s.storeAcross (pjOut d k + off) b
    if x.1 ≠ E_NONE then x else x.2.parWrite d off r

/-- How a job's data work ended: code, offset, whether VERIFY found a mismatch. -/
structure ParEnd where
  code : Nat
  off : Nat
  mismatch : Bool
  st : State

/-- Granules in turn, to the first that fails or, for VERIFY, differs (R449).
Assumption log: 124 (DEDUCED). -/
def State.parWork (s : State) (d : List Byte) : Nat → Nat → ParEnd
  | 0, off => ⟨E_NONE, off, false, s⟩
  | k + 1, off =>
    let x := s.parRead d off (pjReads d)
    if x.1 ≠ E_NONE then ⟨x.1, off, false, x.2.2⟩
    else if pjOp d = 4 then
      match parDiff d x.2.1 with
      | some i => ⟨E_NONE, off + i, true, x.2.2⟩
      | none => x.2.2.parWork d k (off + 64)
    else
      let y := x.2.2.parWrite d off ((pjWrites d).zip (parGranule d x.2.1))
      if y.1 ≠ E_NONE then ⟨y.1, off, false, y.2⟩ else y.2.parWork d k (off + 64)

/-! Queues (R448, R449). -/

/-- The ring of queue 1. -/
def parRing : Nat := 8256

def PQ_IDLE : Nat := 0
def PQ_RUNNING : Nat := 1
def PQ_HALTED : Nat := 2
def PQ_DISABLED : Nat := 3

/-- The status field of a queue. -/
def parField (q : Nat) : RegField := if q = 0 then F.PAR_STATUS_Q0 else F.PAR_STATUS_Q1

/-- The bytes of a job in queue 1's ring; a job that reaches the end of the buffer continues at its start. -/
def State.parBytes (s : State) (g : RingSt) (pos : Nat) : Acc :=
  let o := pos % g.size
  let m := min 320 (g.size - o)
  let x := s.load (g.base + o) m
  if x.code ≠ E_NONE ∨ m = 320 then x
  else
    let y := x.st.load g.base (320 - m)
    { y with data := x.data ++ y.data }

/-- The job at the head of a queue that is not halted. -/
def State.parHead (s : State) (q : Nat) : Option Acc :=
  if s.get (parField q) ≠ PQ_IDLE then none
  else if q = 0 then s.mov.jobs.head?.map fun j => ⟨E_NONE, j.2, s⟩
  else
    let g := s.ring parRing
    let h := s.headOf parRing
    if 0 < g.size ∧ h + 320 ≤ s.tailOf parRing then some (s.parBytes g h) else none

/-- Whether a queue's head job may start: none runs, and it is that queue's turn or the other has none (R448). -/
def State.parTurn (s : State) (q : Nat) : Bool :=
  s.mov.job.isNone && (s.mov.turn == q || (s.parHead (1 - q)).isNone)

/-- A job starts: its checks, then its granules; how it ended is applied when it is done. -/
def State.parStart (s : State) (q : Nat) (d : List Byte) (code : Nat) : State :=
  let e : ParEnd :=
    if code ≠ E_NONE then ⟨code, 0, false, s⟩
    else if s.parOk d then s.parWork d (pjLen d / 64) 0 else ⟨E_MALFORMED, 0, false, s⟩
  let s := e.st.set (parField q) PQ_RUNNING
  { s with mov := { s.mov with job := some { queue := q, job := d, code := e.code, off := e.off, mismatch := e.mismatch }, turn := 1 - q } }

/-- The head job of a queue starts if it is of the given operation; a reserved one, or one that cannot be read, starts with any.
Assumption log: 127 (DESIGN CHOICE). -/
def State.parRun (s : State) (q op : Nat) : State :=
  if s.parTurn q then
    match s.parHead q with
    | none => s
    | some x =>
      if x.code ≠ E_NONE then x.st.parStart q (zeros 320) x.code
      else if pjOp x.data = op ∨ pjOp x.data = 0 ∨ 4 < pjOp x.data then x.st.parStart q x.data E_NONE
      else s
  else s

/-- ENCODE: P and Q of the data (R447). -/
def execEncode (queue : Nat) (s : State) : Res := s.live <| onUnit (queue < 2) (s.parRun queue 1)
/-- RECOVER: one or two missing shards (R447). -/
def execRecover (queue : Nat) (s : State) : Res := s.live <| onUnit (queue < 2) (s.parRun queue 2)
/-- DELTA: P and Q after one data shard has changed (R448). -/
def execDelta (queue : Nat) (s : State) : Res := s.live <| onUnit (queue < 2) (s.parRun queue 3)
/-- VERIFY: P and Q compared with the data (R449). -/
def execVerify (queue : Nat) (s : State) : Res := s.live <| onUnit (queue < 2) (s.parRun queue 4)

/-- The flag update at the end of a job (R438, R448).
Assumption log: 126 (DEDUCED). -/
def State.parFlag (s : State) (d : List Byte) : Nat × State :=
  if !pjFlag d then (E_NONE, s)
  else
    let x := s.load (pjFlagAddr d) 8
    if x.code ≠ E_NONE then (x.code, x.st) else x.st.store (pjFlagAddr d) (leBytes 8 (leNat x.data + pjFlagInc d * 64))

/-- The head job of a queue is passed over. -/
def State.parPop (s : State) (q : Nat) : State :=
  if q = 0 then { s with mov := { s.mov with jobs := s.mov.jobs.drop 1 } } else s.headAdvance parRing (s.headOf parRing + 320)

/-- The node controller is told how the head job of its queue has ended. -/
def State.parTell (s : State) (code : Nat) : State :=
  match s.mov.jobs.head? with
  | some j => { s with mov := { s.mov with ended := s.mov.ended ++ [(j.1, code)] } }
  | none => s

/-- A job has failed: its queue is halted at it (R449). -/
def State.parFail (s : State) (q code off : Nat) : State :=
  let s := ((s.set F.PAR_ERR_CODE code).set F.PAR_ERR_QUEUE q).set F.PAR_ERR_OFFSET off
  let s := (s.set (parField q) PQ_HALTED).raise EV_PAR_JOB_ERROR q []
  if q = 0 then s.parTell code else s

/-- A job has ended without error.
Assumption log: 127 (DESIGN CHOICE). -/
def State.parEnd (s : State) (q : Nat) (mismatch : Bool) (off : Nat) : State :=
  let s := if q = 0 then s.parTell E_NONE else s
  let s := ((s.set (parField q) PQ_IDLE).parPop q).bump F.PAR_CNT_JOBS 1
  if mismatch then ((s.bump F.PAR_CNT_MISMATCH 1).set F.PAR_ERR_OFFSET off).raise EV_PAR_VERIFY_MISMATCH q [] else s

/-- The request lines on which the end of a job is told (R435).
Assumption log: 125 (DEDUCED). -/
def State.parLines (s : State) (q : Nat) : State :=
  [0, 1, 2, 3, 4, 5, 6, 7].foldl (fun s i => s.request (208 + 2 * i + q) 1) s

/-- PARITY_JOB_DONE: the running job ends.
Assumption log: 126 (DEDUCED), 127 (DESIGN CHOICE). -/
def State.parDone (s : State) (q : Nat) : State :=
  match s.mov.job with
  | none => s
  | some r =>
    if r.queue ≠ q then s
    else
      let s := { s with mov := { s.mov with job := none } }
      let s :=
        if r.code ≠ E_NONE then s.parFail q r.code r.off
        else
          let f := s.parFlag r.job
          if f.1 ≠ E_NONE then f.2.parFail q f.1 (pjLen r.job) else f.2.parEnd q r.mismatch r.off
      s.parLines q

/-- PAR_ENABLE: queue 1 is enabled where its ring lies as R430 lets it (R448). -/
def State.parEnable (s : State) : State :=
  let a := s.get F.PAR_RING_ADDR
  let lg := s.get F.PAR_RING_SIZE_LOG2
  if s.bit F.PAR_CFG_EN ∨ !s.descRingOk a lg then s
  else ((s.openDescRing parRing a lg).setBit F.PAR_CFG_EN true).set F.PAR_STATUS_Q1 PQ_IDLE

/-- PAR_ENABLE (R448). -/
def execParEnable (s : State) : Res := s.live <| .next s.parEnable

/-- EN of queue 1 cleared: ignored while a job of it runs. -/
def State.parDisable (s : State) : State :=
  if s.bit F.PAR_CFG_EN ∧ s.get F.PAR_STATUS_Q1 ≠ PQ_RUNNING then
    ((s.setRing parRing {}).setBit F.PAR_CFG_EN false).set F.PAR_STATUS_Q1 PQ_DISABLED
  else s

/-- PAR_RESUME: queue 1 runs its halted job again (R449). -/
def State.parResume (s : State) : State := if s.get F.PAR_STATUS_Q1 = PQ_HALTED then s.set F.PAR_STATUS_Q1 PQ_IDLE else s

/-- PAR_RESUME (R449). -/
def execParResume (s : State) : Res := s.live <| .next s.parResume

/-- PAR_SKIP: queue 1 passes over its halted job (R449). -/
def State.parSkip (s : State) : State :=
  if s.get F.PAR_STATUS_Q1 = PQ_HALTED then (s.parPop 1).set F.PAR_STATUS_Q1 PQ_IDLE else s

/-- PAR_SKIP (R449). -/
def execParSkip (s : State) : Res := s.live <| .next s.parSkip

/-- A reset of the engine halts both queues (R449). -/
def State.parReset (s : State) : State :=
  let s := s.set F.PAR_STATUS_Q0 PQ_HALTED
  let s := if s.bit F.PAR_CFG_EN then s.set F.PAR_STATUS_Q1 PQ_HALTED else s
  { s with mov := { s.mov with job := none, turn := 0 } }

/-! The layout of an erasure group (R451). -/

/-- The position of P of a stripe. -/
def posP (n str : Nat) : Nat := str % (n + 2)
/-- The position of Q of a stripe. -/
def posQ (n str : Nat) : Nat := (str + 1) % (n + 2)
/-- The positions of the data shards of a stripe, in order. -/
def posData (n str : Nat) : List Nat := (List.range (n + 2)).filter fun p => p != posP n str && p != posQ n str
/-- The positions of all the shards of a stripe: data, P, Q. -/
def posAll (n str : Nat) : List Nat := posData n str ++ [posP n str, posQ n str]

end Sys2Proof.Machine
end

