-- ==== Sys2Proof/Machine/Seal.lean ====
section
/-! DEFINITION. Update epochs: the group, the cut, the seal stream, its shards, how a seal ends; rebuilds of lost shards (R478 to R492). -/

namespace Sys2Proof.Machine

/-- A MiB. -/
def mib : Nat := 1048576

/-! The erasure group (R481). -/

/-- A group descriptor's bytes by name. -/
def groupOf (b : List Byte) : GroupDesc :=
  { n := at_ b 0 1, pos := at_ b 1 1, gid := at_ b 2 2, carrier := at_ b 4 1, first := at_ b 8 8, stripes := at_ b 16 4,
    members := (List.range (at_ b 0 1 + 2)).map fun i => at_ b (32 + 2 * i) 2 }

/-- The member at a position. -/
def GroupDesc.member (g : GroupDesc) (p : Nat) : Nat := g.members.getD p 0

/-- Whether the fields of a descriptor lie in range and its members differ. -/
def GroupDesc.fieldsOk (g : GroupDesc) : Bool :=
  decide (1 ≤ g.n) && decide (g.n ≤ 30) && decide (g.pos ≤ g.n + 1) && decide (g.carrier ≤ 7) && decide (1 ≤ g.stripes) &&
    decide g.members.Nodup && g.members.all fun m => decide (m ≤ 32767)

/-- Why a descriptor is rejected: 1 FIELD, 2 SELF, 3 STORE, 4 CARRIER; 0 where it is not.
Assumption log: 149 (DEDUCED). -/
def State.groupReason (s : State) (g : GroupDesc) : Nat :=
  if !g.fieldsOk then 1
  else if g.member g.pos ≠ s.node then 2
  else if s.nCarriers ≤ g.carrier ∨ s.carState g.carrier = CS_ABSENT then 4
  else if (s.car g.carrier).storeBlocks < g.first + (g.n + 2) * g.stripes * 256 then 3
  else 0

/-- NCTL_GROUP.EN set: the descriptor is read and checked; its copy is in force until EN is cleared. Stripe numbers go on from the epoch log
unless another group comes (R481, R483, R487).
Assumption log: 149 (DEDUCED). -/
def State.groupEnable (s : State) : State :=
  if s.bit F.NCTL_GROUP_EN then s
  else
    let a := s.get F.NCTL_GROUP_ADDR
    let x := s.load a 128
    let g := groupOf x.data
    let s := x.st
    let why := if x.code ≠ E_NONE ∨ a % 128 ≠ 0 then 1 else s.groupReason g
    if why ≠ 0 then ((s.set F.NCTL_GROUP_STATUS_STATE 2).set F.NCTL_GROUP_STATUS_REASON why).raise EV_GROUP_REJECTED 0 []
    else
      let s := ((s.setBit F.NCTL_GROUP_EN true).set F.NCTL_GROUP_STATUS_STATE 1).set F.NCTL_GROUP_STATUS_REASON 0
      let s := if s.epochs.lastGid = some g.gid then s else s.set F.NCTL_GROUP_STATUS_NEXT_STRIPE 0
      { s with epochs := { s.epochs with group := some g, lastGid := some g.gid } }

/-- GROUP_ENABLE (R481). -/
def execGroupEnable (s : State) : Res := s.live <| .next s.groupEnable

/-- A recovery slot. -/
def State.recSlot (s : State) (k : Nat) : RecSt := smGet (fun _ => {}) s.ctl.recs k

/-- A recovery slot, replaced. -/
def State.setRec (s : State) (k : Nat) (v : RecSt) : State := { s with ctl := { s.ctl with recs := smPut (fun _ => {}) s.ctl.recs k v } }

def RS_IDLE : Nat := 0
def RS_RUNNING : Nat := 1
def RS_HELD : Nat := 2
def RS_DONE : Nat := 3
def RS_ABANDONED : Nat := 4
def RS_INTERRUPTED : Nat := 5

/-- The recovery slots. -/
def recSlots : List Nat := List.range 8

/-- State of a recovery slot. -/
def State.recState (s : State) (k : Nat) : Nat := s.get (F.NCTL_REC_STATE_STATE k)

/-- State and reason of a recovery slot, replaced. -/
def State.setRecState (s : State) (k st why : Nat) : State := (s.set (F.NCTL_REC_STATE_STATE k) st).set (F.NCTL_REC_STATE_REASON k) why

/-- Whether a rebuild stands in a slot, running or held. -/
def State.recLive (s : State) (k : Nat) : Bool := s.recState k == RS_RUNNING || s.recState k == RS_HELD

def SL_IDLE : Nat := 0
def SL_WRITING : Nat := 2
def SL_HELD : Nat := 3

/-- NCTL_SEAL_STATUS.STATE. -/
def State.sealState (s : State) : Nat := s.get F.NCTL_SEAL_STATUS_STATE

/-- EN cleared: ignored while a seal, or a rebuild of the group, is running or HELD (R500). -/
def State.groupDisable (s : State) : State :=
  if s.sealState ≠ SL_IDLE ∨ recSlots.any s.recLive then s
  else
    let s := (s.setBit F.NCTL_GROUP_EN false).set F.NCTL_GROUP_STATUS_STATE 0
    { s with epochs := { s.epochs with group := none } }

/-! Requests of the node controller. -/

/-- The tag under which the end of an operation that carries a request is told. -/
def askTag (ask : Nat) : Nat := 0x10000 + ask

/-- A STORAGE body (R352). -/
def storageBody (op carrier count block off : Nat) : List Byte :=
  leBytes 1 op ++ leBytes 1 carrier ++ leBytes 1 (if op = 2 then 1 else 0) ++ zeros 1 ++ leBytes 2 count ++ zeros 2 ++ leBytes 8 block ++
    leBytes 6 off ++ zeros 10

/-- A STORAGE request of the node controller to another node (R472): its number.
Assumption log: 148 (DEDUCED). -/
def State.askStorage (s : State) (dst op carrier block off : Nat) : Nat × State :=
  let x := s.newAsk U_NCTL dst false
  (x.1, x.2.sendHaldio U_NCTL (askTag x.1) dst (s.get F.NCTL_SEAL_CFG_CLASS) 0 T_STORAGE x.1 0 false (storageBody op carrier 256 block off))

/-- 256 blocks written to the node's own area: the flash subsystem serves the write like any other, and its answer comes back (R483, R488).
Assumption log: 148 (DEDUCED). -/
def State.askOwn (s : State) (carrier block : Nat) (data : List Byte) : Nat × State :=
  let x := s.newAsk U_NCTL s.node false
  let r : Req := { ty := T_STORAGE, cls := s.get F.NCTL_SEAL_CFG_CLASS, tenant := 0, gten := 0, epoch := s.mapEpoch, reqId := x.1, deadline := 0,
                   src := s.node, rehearsal := false, payload := storageBody 2 carrier 256 block 0 }
  let s := x.2
  let code := s.storageCode r
  if code ≠ E_NONE then (x.1, s.answer U_FLASH r code)
  else
    let o : FlOp := { op := 2, r := { r with payload := [] }, first := (s.car carrier).storeFirst + block, count := 256, data := some data }
    (x.1, s.admitOp carrier o)

/-- The answer to a request of the node controller, once it has come: its code. -/
def State.askCode (s : State) (ask : Nat) : Option (Nat × State) :=
  (s.takeAnswer ask).map fun p => (if p.1.ty = T_RESULT then at_ p.1.payload 2 2 else E_ABSENT, p.2)

/-! The seal stream (R482). -/

/-- The journal of a stream, and its page records. -/
def SealSt.streamTail (e : SealSt) : List Byte :=
  e.cutJournal.flatMap (fun m => m) ++
    e.cutPages.flatMap fun p => leBytes 6 p.off ++ zeros 2 ++ leBytes 4 (crc32c p.data) ++ zeros 52 ++ p.data

/-- Bytes of the stream before padding. -/
def SealSt.streamLen (e : SealSt) : Nat := 4096 + (e.cutJournal.map List.length).sum + 65600 * e.cutPages.length

/-- Stripes of a stream in a group of N data shards; none for an empty journal. -/
def SealSt.stripesFor (e : SealSt) (n : Nat) : Nat := if e.cutJournal.isEmpty then 0 else (e.streamLen + n * mib - 1) / (n * mib)

/-- The header block of the stream. -/
def State.sealHeader (s : State) (g : GroupDesc) (tail : List Byte) : List Byte :=
  let e := s.epochs
  let h := [0x4F, 0x53, 0x45, 0x4C] ++ leBytes 2 1 ++ leBytes 2 s.node ++ leBytes 4 (s.get F.NCTL_UEPOCH_HELD) ++ leBytes 2 g.gid ++ leBytes 1 g.n ++
    zeros 1 ++ leBytes 6 e.cutBeat ++ zeros 2 ++ leBytes 8 e.first ++ leBytes 4 e.count ++ leBytes 4 e.cutJournal.length ++
    leBytes 4 e.cutPages.length ++ leBytes 4 (e.cutJournal.map List.length).sum ++ leBytes 4 (crc32c tail) ++ zeros 8
  padTo 4096 (h ++ leBytes 4 (crc32c h))

/-- Node offset of a half of the seal buffer (R480). -/
def State.halfBase (s : State) (h : Nat) : Nat := s.get F.NCTL_SEAL_BUF_BASE_64K * 65536 + h * s.get F.NCTL_SEAL_BUF_HALF_MIB * mib

/-- The half of the sealing epoch; the open epoch has the other one. -/
def State.sealBase (s : State) : Nat := s.halfBase (1 - s.epochs.half)

/-- Where P, Q and a MiB of zeros stand for the stripe under way: at the start of the other half, whose own stream is put together at its cut.
Assumption log: 145 (DESIGN CHOICE). -/
def State.scratch (s : State) : Nat := s.halfBase s.epochs.half

/-- The place of data shard k of the whole stream: padding beyond the half is the MiB of zeros. -/
def State.shardAddr (s : State) (k : Nat) : Nat := if k < s.get F.NCTL_SEAL_BUF_HALF_MIB then s.sealBase + k * mib else s.scratch + 2 * mib

/-- The place of shard index j (data, then P, then Q) of stripe i.
Assumption log: 145 (DESIGN CHOICE). -/
def State.sealShard (s : State) (g : GroupDesc) (i j : Nat) : Nat :=
  if j < g.n then s.shardAddr (i * g.n + j) else s.scratch + (j - g.n) * mib

/-- A parity job of 1 MiB shards (R448). -/
def parityJob (op n e0 e1 p q : Nat) (srcs : List Nat) : List Byte :=
  padTo 320 (leBytes 1 op ++ leBytes 1 n ++ leBytes 1 e0 ++ leBytes 1 e1 ++ leBytes 4 mib ++ zeros 16 ++ leBytes 6 p ++ zeros 2 ++ leBytes 6 q ++
    zeros 26 ++ srcs.flatMap fun a => leBytes 6 a ++ zeros 2)

/-- A job joins the node controller's queue; a queue that a failure or a reset has halted is released (R449). -/
def State.pushJob (s : State) (owner : Nat) (job : List Byte) : State :=
  let s := if s.get F.PAR_STATUS_Q0 = PQ_HALTED then
      { s.set F.PAR_STATUS_Q0 PQ_IDLE with mov := { s.mov with jobs := s.mov.jobs.filter fun j => !(s.mov.ended.any fun x => x.1 == j.1 && x.2 != E_NONE) } }
    else s
  { s with mov := { s.mov with jobs := s.mov.jobs ++ [(owner, job)], ended := s.mov.ended.filter fun x => x.1 != owner } }

/-- How a job of an owner ended, once it has. -/
def State.jobCode (s : State) (owner : Nat) : Option Nat := (s.mov.ended.find? fun x => x.1 == owner).map Prod.snd

/-- Jobs of an owner are given up, and what was told of them is dropped. -/
def State.dropJobs (s : State) (owner : Nat) : State :=
  let running := match s.mov.job with
    | some r => r.queue == 0
    | none => false
  let keep (i : Nat) (j : Nat × List Byte) : Bool := j.1 != owner || (i == 0 && running)
  let s := if s.get F.PAR_STATUS_Q0 = PQ_HALTED ∧ (s.mov.jobs.head?.map Prod.fst) = some owner then s.set F.PAR_STATUS_Q0 PQ_IDLE else s
  { s with mov := { s.mov with jobs := (s.mov.jobs.zipIdx.filter fun e => keep e.2 e.1).map Prod.fst,
                               ended := s.mov.ended.filter fun x => x.1 != owner } }

/-! The cut (R479). -/

/-- The epoch log as a SYS record (R485, R487): the group, the next stripe, the last epoch released plus 1, the epochs.
Assumption log: 146 (DESIGN CHOICE). -/
def State.writeLog (s : State) : State :=
  let e := s.epochs
  (s.writeSys 0 0 ([e.lastGid.getD 0, s.get F.NCTL_GROUP_STATUS_NEXT_STRIPE, (e.released.map (· + 1)).getD 0] ++
    e.log.flatMap fun x => [x.epoch, x.first, x.count])).2

/-- The entries of an epoch log record. -/
def logEntries : Nat → List Nat → List EpochEnt
  | 0, _ => []
  | fuel + 1, v => match v with
    | a :: b :: c :: r => ⟨a, b, c⟩ :: logEntries fuel r
    | _ => []

/-- Whether an update has begun its apply step and has not completed it.
Assumption log: 143 (DEDUCED). -/
def State.updateRuns (s : State) : Bool :=
  (s.tbl.reqs.any fun q => (q.kind == 1 || q.kind == 2) && q.rows.any fun w => w.st == .sent) ||
    s.gw.walks.any fun e => match e.2 with
      | some w => w.insert && !w.wrote.isEmpty
      | none => false

/-- Whether the stripes of the sealing epoch would overwrite one of an epoch that has not been released (R485). -/
def State.areaFull (s : State) (g : GroupDesc) : Bool :=
  let e := s.epochs
  let mine := rangeFrom e.first (min e.count (g.stripes + 1))
  decide (g.stripes < e.count) || e.log.any fun x =>
    (match e.released with
      | some r => decide (r < x.epoch)
      | none => true) && mine.any fun i => (rangeFrom x.first (min x.count g.stripes)).any fun k => i % g.stripes == k % g.stripes

/-- The ENCODE of stripe i. -/
def State.codeStripe (s : State) (g : GroupDesc) (i : Nat) : State :=
  let srcs := (List.range g.n).map fun j => s.sealShard g i j
  let s := s.pushJob 0 (parityJob 1 g.n 0 0xFF s.scratch (s.scratch + mib) srcs)
  { s with epochs := { s.epochs with stripe := i, coding := true } }

/-- The sealing epoch's stream is laid down and its first stripe goes to the parity engine; a failure that needs no write is noted (R482 to
R485).
Assumption log: 144 (DESIGN CHOICE). -/
def State.beginSeal (s : State) : State :=
  let s := (s.set F.NCTL_SEAL_STATUS_STATE SL_WRITING).set F.NCTL_SEAL_STATUS_LAST_EPOCH (s.get F.NCTL_UEPOCH_HELD)
  let s := { s with epochs := { s.epochs with writes := [], fail := 0, coding := false, stripe := 0 } }
  match s.epochs.group with
  | none => { s with epochs := { s.epochs with fail := 4 } }
  | some g =>
    let again := s.epochs.reseal.isSome && decide (0 < s.epochs.count)
    let first := if again then s.epochs.first else s.get F.NCTL_GROUP_STATUS_NEXT_STRIPE
    let s := { s with epochs := { s.epochs with first := first, count := s.epochs.stripesFor g.n } }
    let n := s.epochs.count
    if n = 0 then s
    else if s.areaFull g then { s with epochs := { s.epochs with fail := 1, count := 0 } }
    else
      let s := if s.get F.NCTL_GROUP_STATUS_NEXT_STRIPE < first + n then s.set F.NCTL_GROUP_STATUS_NEXT_STRIPE (first + n) else s
      let tail := s.epochs.streamTail
      let b := s.sealHeader g tail ++ tail
      let len := min (n * g.n) (s.get F.NCTL_SEAL_BUF_HALF_MIB) * mib
      let s := (s.zeroBytes s.sealBase len).putBytes s.sealBase b
      (s.zeroBytes (s.scratch + 2 * mib) mib).codeStripe g 0

/-- The bytes of a changed page as they stand. -/
def State.cutPage (s : State) (p : Nat) : SealPage × State :=
  let x := s.load (p * 65536) 65536
  (⟨p * 65536, padTo 65536 x.data⟩, x.st)

/-- The changed pages in ascending offset.
Assumption log: 144 (DESIGN CHOICE). -/
def State.cutPagesOf (s : State) : List Nat → List SealPage × State
  | [] => ([], s)
  | p :: r =>
    let x := s.cutPage p
    let y := x.2.cutPagesOf r
    (x.1 :: y.1, y.2)

/-- The open epoch is cut, if the other half is free (R479). A cut waits for an update that is running; all cuts of one beat are one.
Assumption log: 143 (DEDUCED). -/
def State.sealCut (s : State) : State :=
  if s.epochs.lastCut = some s.beatNow ∧ !s.epochs.due then s
  else if s.sealState ≠ SL_IDLE then
    ({ s with epochs := { s.epochs with lastCut := some s.beatNow, due := false } }).raise EV_SEAL_SKIPPED 0 [s.get F.NCTL_UEPOCH_HELD]
  else if s.updateRuns then { s with epochs := { s.epochs with lastCut := some s.beatNow, due := true } }
  else
    let u := s.get F.NCTL_UEPOCH_OPEN
    let ps := s.cutPagesOf (s.epochs.changed.map Prod.fst)
    let s := ps.2
    let e := s.epochs
    let s := { s with epochs := { e with cutJournal := e.journal, cutPages := ps.1, journal := [], changed := [], half := 1 - e.half,
                                         cutBeat := s.beatNow, lastCut := some s.beatNow, due := false, reseal := none, count := 0 } }
    ((((s.set F.NCTL_UEPOCH_HELD u).set F.NCTL_UEPOCH_OPEN (u + 1)).countFill)).beginSeal

/-- PERIODIC_SEAL: slot 0 of a beat whose number is a multiple of PERIOD, or the end of the update that a cut has waited for (R479).
Assumption log: 143 (DEDUCED). -/
def State.periodicSeal (s : State) : State :=
  let p := s.get F.NCTL_SEAL_CFG_PERIOD
  if s.epochs.due ∨ (s.beat.valid ∧ 0 < p ∧ s.beatNow % p = 0) then s.sealCut else s

/-- PERIODIC_SEAL (R479). -/
def execPeriodicSeal (s : State) : Res := s.live <| .next s.periodicSeal

/-! The shards of a stripe (R483). -/

/-- The first STORE block of source position m's share of stripe g. -/
def GroupDesc.block (g : GroupDesc) (m str : Nat) : Nat := g.first + (m * g.stripes + str % g.stripes) * 256

/-- The shard of one position is written: to the member there, or to the node's own carrier. -/
def State.writeShard (s : State) (g : GroupDesc) (i : Nat) (e : Nat × Nat) : State :=
  let a := s.sealShard g i e.2
  let blk := g.block g.pos (s.epochs.first + i)
  let x := if e.1 = g.pos then s.askOwn g.carrier blk (s.bytes a mib) else s.askStorage (g.member e.1) 2 g.carrier blk a
  { x.2 with epochs := { x.2.epochs with writes := x.2.epochs.writes ++ [{ stripe := i, pos := e.1, ask := some x.1 }] } }

/-- Every shard of a stripe is written, each to its position (R451). -/
def State.writeStripe (s : State) (g : GroupDesc) (i : Nat) : State :=
  (posAll g.n (s.epochs.first + i)).zipIdx.foldl (fun s e => s.writeShard g i e) { s with epochs := { s.epochs with coding := false } }

/-- The answers that have come to shard writes.
Assumption log: 148 (DEDUCED). -/
def State.takeWrites (s : State) : List ShardWrite → State × List ShardWrite
  | [] => (s, [])
  | w :: r =>
    let x : State × ShardWrite := match w.ask with
      | none => (s, w)
      | some q => (match s.askCode q with
        | some (c, t) => (t, { w with ask := none, code := some c })
        | none => (s, w))
    let y := x.1.takeWrites r
    (y.1, x.2 :: y.2)

/-- What can go on of a seal goes on: P and Q are there and the stripe is written; the stripe is written and the next one goes to the parity
engine. A failed ENCODE fails the seal.
Assumption log: 144 (DESIGN CHOICE). -/
def State.sealStep (s : State) : State :=
  if s.sealState ≠ SL_WRITING ∨ s.epochs.fail ≠ 0 then s
  else
    match s.epochs.group with
    | none => s
    | some g =>
      if s.epochs.coding then
        match s.jobCode 0 with
        | none => s
        | some c =>
          let s := s.dropJobs 0
          if c = E_NONE then s.writeStripe g s.epochs.stripe else { s with epochs := { s.epochs with coding := false, fail := 2 } }
      else
        let x : State × List ShardWrite := s.takeWrites s.epochs.writes
        let s : State := { x.1 with epochs := { x.1.epochs with writes := x.2 } }
        let i := s.epochs.stripe
        if i + 1 < s.epochs.count ∧ (!x.2.isEmpty && x.2.all fun w => w.code.isSome) = true then s.codeStripe g (i + 1) else s

/-! How a seal ends (R484). -/

/-- Shards of a stripe that were written. -/
def SealSt.written (e : SealSt) (i : Nat) : Nat := (e.writes.filter fun w => w.stripe == i && w.code == some E_NONE).length

/-- Whether every write of the seal has been answered. -/
def SealSt.answered (e : SealSt) : Bool := e.writes.all (fun w => w.code.isSome) && !e.coding && (e.count == 0 || e.stripe + 1 == e.count && !e.writes.isEmpty)

/-- A RESEAL is answered (R493). -/
def State.answerReseal (s : State) (code : Nat) : State :=
  match s.epochs.reseal with
  | none => s
  | some r => { s with epochs := { s.epochs with reseal := none } }.answer U_NCTL r code

/-- The half is free. -/
def State.freeHalf (s : State) : State :=
  { s.set F.NCTL_SEAL_STATUS_STATE SL_IDLE with
    epochs := { s.epochs with cutJournal := [], cutPages := [], writes := [], count := 0, first := 0, cutBeat := 0, fail := 0, stripe := 0,
                              coding := false } }

/-- A seal ends SEALED: its half is free and the log records its stripes (R485). -/
def State.sealedOk (s : State) : State :=
  let u := s.get F.NCTL_UEPOCH_HELD
  let s := (s.set F.NCTL_SEAL_STATUS_OUTCOME 1).set F.NCTL_SEAL_STATUS_REASON 0
  let log : List EpochEnt := s.epochs.log.filter (fun x => x.epoch != u) ++ [⟨u, s.epochs.first, s.epochs.count⟩]
  let s := { s with epochs := { s.epochs with log := log } }
  ((s.freeHalf.writeLog).raise EV_SEAL_DONE 0 []).answerReseal E_NONE

/-- A seal ends FAILED: its half is kept. -/
def State.sealFailed (s : State) (why : Nat) : State :=
  let s := ((s.set F.NCTL_SEAL_STATUS_STATE SL_HELD).set F.NCTL_SEAL_STATUS_OUTCOME 3).set F.NCTL_SEAL_STATUS_REASON why
  let s := (s.epochs.writes.filterMap ShardWrite.ask).foldl State.dropAsk s
  let s := { s.dropJobs 0 with epochs := { s.epochs with writes := [], coding := false } }
  (s.raise EV_SEAL_FAILED 0 [why]).answerReseal E_MEDIA

/-- A seal ends DEGRADED: its half is kept. -/
def State.sealDegraded (s : State) (missing : Nat) : State :=
  let s := ((s.set F.NCTL_SEAL_STATUS_STATE SL_HELD).set F.NCTL_SEAL_STATUS_OUTCOME 2).set F.NCTL_SEAL_STATUS_REASON 0
  (s.raise EV_SEAL_DEGRADED 0 [missing]).answerReseal E_MEDIA

/-- SEAL_END: every shard write has ended, or the seal has failed without one (R484).
Assumption log: 149 (DEDUCED). -/
def State.sealEnd (s0 : State) : State :=
  let s := s0.sealStep
  if s.sealState ≠ SL_WRITING then s
  else if s.epochs.fail ≠ 0 then s.sealFailed s.epochs.fail
  else if !s.epochs.answered then s
  else
    let n := match s.epochs.group with
      | some g => g.n
      | none => 0
    let got := (List.range s.epochs.count).map s.epochs.written
    if got.all fun k => k == n + 2 then s.sealedOk
    else if got.all fun k => decide (n + 1 ≤ k) then s.sealDegraded (got.filter fun k => k != n + 2).length
    else s.sealFailed 2

/-- SEAL_END (R484). -/
def execSealEnd (s : State) : Res := s.live <| .next s.sealEnd

/-- A reset that covers a unit which a running seal uses fails it (R484). -/
def State.sealReset (s : State) : State :=
  if s.sealState = SL_WRITING then { s with epochs := { s.epochs with fail := 3 } }.sealFailed 3 else s

/-! Rebuilds (R488 to R491). -/

/-- The lost set of a slot (R489). -/
def State.lostSet (s : State) (k : Nat) : Nat := s.get (F.NCTL_REC_STATE_LOST k)

/-- Positions of a set. -/
def posOf (m : Nat) : List Nat := (List.range 32).filter fun p => m / 2 ^ p % 2 == 1

/-- A set with one more position. -/
def addPos (m p : Nat) : Nat := if m / 2 ^ p % 2 = 1 then m else m + 2 ^ p

/-- The cursor of a slot. -/
def State.cursor (s : State) (k : Nat) : Nat := s.get (F.NCTL_REC_CUR_CURSOR k)

/-- The durable cursor record of a slot (R487): source position, first stripe, cursor, last, whether it is open.
Assumption log: 146 (DESIGN CHOICE). -/
def State.writeCursor (s : State) (k : Nat) (open_ : Bool) : Bool × State :=
  s.writeSys 1 k [s.get (F.NCTL_REC_STATE_SRC_POS k), (s.recSlot k).first, s.cursor k, s.get (F.NCTL_REC_CUR_LAST k), if open_ then 1 else 0]

/-- What is out of a rebuild is given up. -/
def State.recDrop (s : State) (k : Nat) : State :=
  let x := s.recSlot k
  let s := match x.ask with
    | some a => s.dropAsk a.1
    | none => s
  (s.dropJobs (1 + k)).setRec k { x with ask := none, got := [], stage := 0 }

/-- A rebuild is HELD with a reason. -/
def State.recHold (s : State) (k why : Nat) : State := (s.recDrop k).setRecState k RS_HELD why

/-- HELD with OWN_FAULT (R490). -/
def State.recFault (s : State) (k : Nat) : State := (s.recHold k 2).raise EV_RECOVERY_HELD k []

/-- HELD with BELOW_THRESHOLD: the stripe and the set (R489). -/
def State.recBelow (s : State) (k : Nat) : State := (s.recHold k 1).raise EV_GROUP_BELOW_THRESHOLD k [s.cursor k, s.lostSet k]

/-- Whether an event reports a fault in a unit that a rebuild uses (R490). -/
def faultOf (die stack : Nat) (e : EventRec) : Bool :=
  decide (2 ≤ e.severity) && e.rhTag == 0 &&
    (e.code == EV_PAR_JOB_ERROR || e.code == EV_PAR_VERIFY_MISMATCH || e.code / 256 == 0x0D || (e.code / 256 == 5 && e.source / 4 == die) ||
      (e.code == EV_STACK_TRAIN_FAIL && e.source == stack) ||
      (e.code / 256 == 3 && e.code != EV_STACK_TRAIN_FAIL && e.source / 256 == stack))

/-- The serial number that the next event takes, behind those of this command. -/
def State.seqAfter (s : State) : Nat := s.get F.EVT_STATUS_SEQ_NEXT + s.evt.fresh.length

/-- Whether such an event has been raised since the slot last began to run. -/
def State.ownFault (s : State) (g : GroupDesc) (k : Nat) : Bool :=
  let x := s.recSlot k
  let mine : EventRec → Bool := faultOf (g.carrier / 4) ((x.buf - 0x001000000000) / 0x800000000)
  (s.evt.ring.any fun e => decide (x.seq ≤ e.2.seq) && mine e.2) ||
    (decide (x.seq ≤ s.get F.EVT_STATUS_SEQ_NEXT) && s.evt.fresh.any fun e => mine e.ev)

/-- The index of a position's shard in a stripe: data in order, then P, then Q (R451). -/
def shardIdx (n str p : Nat) : Nat := (posAll n str).findIdx (· == p)

/-- The next position to read: the lowest one beyond those tried that is not lost. -/
def State.nextPos (s : State) (g : GroupDesc) (k : Nat) : Option Nat :=
  let x := s.recSlot k
  (List.range (g.n + 2)).find? fun p => !((posOf (s.lostSet k)).contains p) && !x.got.contains p

/-- The next read of a stripe is sent; its reply lands at the start of the buffer (R353, R488). -/
def State.recRead (s : State) (g : GroupDesc) (k : Nat) : State :=
  match s.nextPos g k with
  | none => s.recBelow k
  | some p =>
    let x := s.askStorage (g.member p) 1 g.carrier (g.block (s.get (F.NCTL_REC_STATE_SRC_POS k)) (s.cursor k)) (s.recSlot k).buf
    x.2.setRec k { x.2.recSlot k with stage := 1, ask := some (x.1, p) }

/-- A stripe begins: at the boundary the node's own faults and the threshold are judged (R489, R490). -/
def State.recBegin (s : State) (g : GroupDesc) (k : Nat) : State :=
  if s.ownFault g k then s.recFault k
  else if 2 < (posOf (s.lostSet k)).length then s.recBelow k
  else (s.setRec k { s.recSlot k with got := [], stage := 1 }).recRead g k

/-- The place of the j-th shard read: behind the two shards that RECOVER writes. -/
def recPlace (buf j : Nat) : Nat := buf + (2 + j) * mib

/-- The RECOVER job: the two shards not read, the node's own among them (R488). -/
def State.recJob (s : State) (g : GroupDesc) (k : Nat) : State :=
  let x := s.recSlot k
  let str := s.cursor k
  let idx (p : Nat) : Nat := shardIdx g.n str p
  let miss := (List.range (g.n + 2)).filter fun i => !(x.got.any fun p => idx p == i)
  let src (i : Nat) : Nat := match x.got.findIdx? fun p => idx p == i with
    | some j => recPlace x.buf j
    | none => 0
  let job := parityJob 2 g.n (miss.getD 0 0) (miss.getD 1 0xFF) x.buf (x.buf + mib) ((List.range (g.n + 2)).map src)
  (s.setRec k { x with stage := 2 }).pushJob (1 + k) job

/-- A read of a stripe has been answered: its shard is put in its place, or its position is lost (R488, R489). -/
def State.recGot (s : State) (g : GroupDesc) (k p code : Nat) : State :=
  let x := s.recSlot k
  let s := s.setRec k { x with ask := none }
  if code ≠ E_NONE then
    let s := s.set (F.NCTL_REC_STATE_LOST k) (addPos (s.lostSet k) p)
    if 2 < (posOf (s.lostSet k)).length then s.recBelow k else s.recRead g k
  else
    let s := s.putBytes (recPlace x.buf x.got.length) (s.bytes (x.buf + 32) mib)
    let s := s.setRec k { s.recSlot k with got := x.got ++ [p] }
    if x.got.length + 1 = g.n then s.recJob g k else s.recRead g k

/-- The shard has been recovered and goes to the node's own area (R488).
Assumption log: 148 (DEDUCED). -/
def State.recOwn (s : State) (g : GroupDesc) (k : Nat) : State :=
  let x := s.recSlot k
  let str := s.cursor k
  let own := shardIdx g.n str g.pos
  let miss := (List.range (g.n + 2)).filter fun i => !(x.got.any fun p => shardIdx g.n str p == i)
  let a := if miss.getD 0 0 = own then x.buf else x.buf + mib
  let y := s.askOwn g.carrier (g.block (s.get (F.NCTL_REC_STATE_SRC_POS k)) str) (s.bytes a mib)
  y.2.setRec k { y.2.recSlot k with stage := 3, ask := some (y.1, g.pos) }

/-- What can go on of a rebuild goes on, up to the end of its own write. -/
def State.recStep (s : State) (k : Nat) : State :=
  match s.epochs.group with
  | none => s
  | some g =>
    if s.recState k ≠ RS_RUNNING then s
    else
      let x := s.recSlot k
      match x.stage with
      | 0 => s.recBegin g k
      | 1 => (match x.ask with
        | none => s
        | some (a, p) => (match s.askCode a with
          | some (c, t) => t.recGot g k p c
          | none => s))
      | 2 => (match s.jobCode (1 + k) with
        | none => s
        | some c => let t := s.dropJobs (1 + k); if c = E_NONE then t.recOwn g k else t.recFault k)
      | _ => s

/-- A rebuild's own write has been answered: the cursor record, then the cursor, then the next stripe or the end (R488). -/
def State.recWrote (s : State) (k code : Nat) : State :=
  let x := s.recSlot k
  let s := s.setRec k { x with ask := none, stage := 0, got := [] }
  if code ≠ E_NONE then s.recFault k
  else
    let g := s.cursor k
    let last := s.get (F.NCTL_REC_CUR_LAST k)
    let y := (s.set (F.NCTL_REC_CUR_CURSOR k) (g + 1)).writeCursor k (g != last)
    if !y.1 then (y.2.set (F.NCTL_REC_CUR_CURSOR k) g).recFault k
    else if g = last then
      let s := (y.2.setRecState k RS_DONE 0).raise EV_REBUILD_DONE k []
      let s := match x.req with
        | some r => s.answer U_NCTL r E_NONE
        | none => s
      s.setRec k {}
    else y.2.recStep k

/-- REBUILD_STRIPE of a recovery slot (R488): a stripe's own write has completed; before that, what can go on goes on. -/
def State.rebuildStripe (s : State) (k : Nat) : State :=
  let x := s.recSlot k
  if s.recState k ≠ RS_RUNNING ∨ x.stage ≠ 3 then s.recStep k
  else
    match x.ask with
    | none => s
    | some (a, _) => (match s.askCode a with
      | some (c, t) => t.recWrote k c
      | none => s)

/-- REBUILD_STRIPE (R488). -/
def execRebuildStripe (slot : Nat) (s : State) : Res := s.live <| onUnit (slot < 8) (s.rebuildStripe slot)

/-- The node controller looks at what has come for it. -/
def State.ncStep (s : State) : State := recSlots.foldl (fun s k => s.recStep k) s.sealStep

/-- An operation that carried a request of the node controller has failed at Skorath: that is the request's answer. -/
def State.ncFail (s : State) (ask code : Nat) : State :=
  match s.sko.asks.find? fun a => a.reqId == ask && a.unit == U_NCTL with
  | none => s
  | some a =>
    let b := resultHead (statusWord 0 code) 0 0 0 0 0 1 0 0
    State.ncStep { s with sko := { s.sko with inbox := s.sko.inbox ++ [⟨ask, U_NCTL, T_RESULT, a.dst, b⟩] } }

/-- PARITY_JOB_DONE of a queue (R449); the node controller goes on with what its own job was for. -/
def execParityJobDone (queue : Nat) (s : State) : Res := s.live <| onUnit (queue < 2) (s.parDone queue).ncStep

/-- A rebuild ends, and its CONTROL is answered with E_CANCELLED (R490, R491, R493). -/
def State.recEnd (s : State) (k st why : Nat) : State :=
  let r := (s.recSlot k).req
  let s := ((s.recDrop k).setRecState k st why).setRec k {}
  match r with
  | some r => s.answer U_NCTL r E_CANCELLED
  | none => s

/-- A reset that covers a unit which a rebuild uses ends it as INTERRUPTED, with the last durable cursor (R491).
Assumption log: 139 (DEDUCED). -/
def State.recInterrupt (s : State) (k : Nat) : State :=
  if s.recLive k then (s.recEnd k RS_INTERRUPTED 3).raise EV_REBUILD_INTERRUPTED k [s.cursor k, s.get (F.NCTL_REC_CUR_LAST k)] else s

/-- The mount of a carrier finds the records of the node (R487, R491): the epoch log, where the node has none of its own, and rebuilds that were
not finished. -/
def State.sysMount (s : State) : State :=
  let s := match s.epochs.lastGid, s.readSys 0 0 with
    | none, some r =>
      (match r.vals with
        | gid :: next :: rel :: l =>
          { s.set F.NCTL_GROUP_STATUS_NEXT_STRIPE next with
            epochs := { s.epochs with lastGid := some gid, released := if rel = 0 then none else some (rel - 1), log := logEntries l.length l } }
        | _ => s)
    | _, _ => s
  recSlots.foldl (fun s k => match s.readSys 1 k with
    | some r => if r.vals.getD 4 0 = 1 ∧ !s.recLive k then s.raise EV_REBUILD_INTERRUPTED k [r.vals.getD 2 0, r.vals.getD 3 0] else s
    | none => s) s

/-- MOUNT_DONE of a carrier (R330, R487). -/
def execMountDone (carrier : Nat) (ok : Bool) (s : State) : Res := s.live <|
  onUnit (carrier < 8) (let t := s.mountDone carrier ok; if t.serving carrier && !s.serving carrier then t.sysMount else t)

/-! The CONTROL messages on seals and rebuilds (R493). -/

/-- The CONTROL at the head of a ring with an OP that a row serves. -/
def State.headControl (s : State) (ring : Nat) (op : Nat → Bool) : Option (List Byte × Req) :=
  match s.headReq ring U_NCTL T_CONTROL with
  | some (m, r) => if op (at_ r.payload 0 1) then some (m, r) else none
  | none => none

/-- A CONTROL of a row taken from its ring, and what the row does with it. -/
def State.control (s : State) (ring : Nat) (op : Nat → Bool) (f : State → Req → State) : State :=
  match s.headControl ring op with
  | none => s
  | some (m, r) => let s := s.popMsg ring m; if r.payload.length = 32 then f s r else s.answer U_NCTL r E_MALFORMED

/-- Whether a rebuild overlaps one that runs or is HELD.
Assumption log: 147 (DEDUCED). -/
def State.recOverlap (s : State) (src first last : Nat) : Bool :=
  recSlots.any fun k => s.recLive k && s.get (F.NCTL_REC_STATE_SRC_POS k) == src && decide ((s.recSlot k).first ≤ last) &&
    decide (first ≤ s.get (F.NCTL_REC_CUR_LAST k))

/-- Why a REBUILD is refused. -/
def State.rebuildCode (s : State) (b : List Byte) : Nat :=
  let src := at_ b 4 1
  let first := at_ b 8 4
  let last := at_ b 12 4
  if last < first then E_MALFORMED
  else
    match s.epochs.group with
    | none => E_ABSENT
    | some g =>
      if g.n + 1 < src ∨ 2 ^ (g.n + 2) ≤ at_ b 16 4 ∨ !s.inOneStack (at_ b 20 6) ((g.n + 2) * mib) ∨ s.recOverlap src first last then E_MALFORMED
      else if recSlots.all s.recLive then E_CAPACITY
      else E_NONE

/-- Records of interrupted rebuilds of an area are closed when a rebuild of it begins (R491). -/
def State.closeRecords (s : State) (src first last : Nat) : State :=
  recSlots.foldl (fun s k => match s.readSys 1 k with
    | some r =>
      if r.vals.getD 4 0 = 1 ∧ !s.recLive k ∧ r.vals.getD 0 0 = src ∧ r.vals.getD 2 0 ≤ last ∧ first ≤ r.vals.getD 3 0 then
        (s.writeSys 1 k (r.vals.take 4 ++ [0])).2
      else s
    | none => s) s

/-- CONTROL REBUILD (R488). -/
def State.rebuild (s : State) (r : Req) : State :=
  let b := r.payload
  let code := s.rebuildCode b
  if code ≠ E_NONE then s.answer U_NCTL r code
  else
    match s.epochs.group, recSlots.find? fun k => !s.recLive k with
    | some g, some k =>
      let src := at_ b 4 1
      let s := s.closeRecords src (at_ b 8 4) (at_ b 12 4)
      let s := (s.setRecState k RS_RUNNING 0).set (F.NCTL_REC_STATE_SRC_POS k) src
      let s := (s.set (F.NCTL_REC_CUR_CURSOR k) (at_ b 8 4)).set (F.NCTL_REC_CUR_LAST k) (at_ b 12 4)
      let s := s.set (F.NCTL_REC_STATE_LOST k) (addPos (at_ b 16 4) g.pos)
      (s.setRec k { req := some r, first := at_ b 8 4, mask := at_ b 16 4, buf := at_ b 20 6, seq := s.seqAfter }).recStep k
    | _, _ => s.answer U_NCTL r E_CAPACITY

/-- CONTROL_REBUILD (R488). -/
def execControlRebuild (ring : Nat) (s : State) : Res := s.live <| onUnit (ring < 8192) (s.control ring (· == 2) State.rebuild)

/-- CONTROL RESUME (R490): from the cursor, with the lost set back at POS and the LOST mask. -/
def State.recResume (s : State) (r : Req) : State :=
  let k := at_ r.payload 2 2
  if 7 < k then s.answer U_NCTL r E_MALFORMED
  else
    match s.epochs.group with
    | none => s.answer U_NCTL r E_ABSENT
    | some g =>
      if s.recState k ≠ RS_HELD then s.answer U_NCTL r E_ABSENT
      else
        let x := s.recSlot k
        let s := (s.setRecState k RS_RUNNING 0).set (F.NCTL_REC_STATE_LOST k) (addPos x.mask g.pos)
        ((s.setRec k { x with stage := 0, got := [], ask := none, seq := s.seqAfter }).answer U_NCTL r E_NONE).recStep k

/-- CONTROL_RESUME (R490). -/
def execControlResume (ring : Nat) (s : State) : Res := s.live <| onUnit (ring < 8192) (s.control ring (· == 3) State.recResume)

/-- CONTROL ABANDON (R490).
Assumption log: 81 (DEDUCED). -/
def State.recAbandon (s : State) (r : Req) : State :=
  let k := at_ r.payload 2 2
  if 7 < k then s.answer U_NCTL r E_MALFORMED
  else if !s.recLive k then s.answer U_NCTL r E_ABSENT
  else ((s.writeCursor k false).2.recEnd k RS_ABANDONED 0).answer U_NCTL r E_NONE

/-- CONTROL_ABANDON (R490). -/
def execControlAbandon (ring : Nat) (s : State) : Res := s.live <| onUnit (ring < 8192) (s.control ring (· == 4) State.recAbandon)

/-- CONTROL RELEASE (R484, R485): epochs up to the one named are released, and a half that one of them holds is free.
Assumption log: 81 (DEDUCED). -/
def State.release (s : State) (r : Req) : State :=
  let u := at_ r.payload 8 4
  let rel := match s.epochs.released with
    | some v => max v u
    | none => u
  let s := { s with epochs := { s.epochs with released := some rel, log := s.epochs.log.filter fun x => decide (rel < x.epoch) } }
  let s := if s.sealState = SL_HELD ∧ s.get F.NCTL_UEPOCH_HELD ≤ u then s.freeHalf else s
  s.writeLog.answer U_NCTL r E_NONE

/-- CONTROL_RELEASE (R484). -/
def execControlRelease (ring : Nat) (s : State) : Res := s.live <| onUnit (ring < 8192) (s.control ring (· == 5) State.release)

/-- CONTROL RESEAL (R484): the held epoch is sealed again at the same stripe numbers.
Assumption log: 81 (DEDUCED). -/
def State.resealHeld (s : State) (r : Req) : State :=
  if s.epochs.group.isNone ∨ s.sealState ≠ SL_HELD ∨ s.get F.NCTL_UEPOCH_HELD ≠ at_ r.payload 8 4 then s.answer U_NCTL r E_ABSENT
  else { s with epochs := { s.epochs with reseal := some r } }.beginSeal

/-- CONTROL_RESEAL (R484). -/
def execControlReseal (ring : Nat) (s : State) : Res := s.live <| onUnit (ring < 8192) (s.control ring (· == 6) State.resealHeld)

end Sys2Proof.Machine
end

