-- ==== Sys2Proof/Machine/Windows.lean ====
section
/-! DEFINITION. Shim windows (R498, R499), the calibration of stacks and inlay units in them (R170), and rehearsal scripts (R494 to R496). -/

namespace Sys2Proof.Machine

/-! Stacks (R170, R499). -/

/-- A stack. -/
def State.stkSt (s : State) (k : Nat) : StkSt := smGet (fun _ => {}) s.stk k

/-- A stack, replaced. -/
def State.setStk (s : State) (k : Nat) (v : StkSt) : State := { s with stk := smPut (fun _ => {}) s.stk k v }

/-- Whether the open window, if it has not reached its end, selects a kind of work. -/
def State.windowFor (s : State) (bit : Nat) : Bool :=
  match s.ctl.shim with
  | some w => w.target / 2 ^ bit % 2 == 1 && beatAfter w.until_ s.beatNow
  | none => false

/-- The next channel in a stack's rotation starts to retrain; one channel retrains at a time. -/
def State.retrainNext (s : State) (k : Nat) : State :=
  let x := s.stkSt k
  if x.retrain.isSome then s
  else
    let s := s.setStk k { x with retrain := some x.nextChan, nextChan := (x.nextChan + 1) % 32 }
    (s.setBit (F.STK_STATUS_RETRAINING k) true).set (F.STK_STATUS_RETRAIN_CH k) x.nextChan

/-- Every stack that the part has retrains its next channel.
Assumption log: 157 (DESIGN CHOICE). -/
def State.retrainAll (s : State) : State := (List.range s.nStacks).foldl State.retrainNext s

/-- The retrain of a stack's channel has ended; one that does not converge keeps its settings and is reported.
Assumption log: 157 (DESIGN CHOICE). -/
def State.retrained (s : State) (k : Nat) (ok : Bool) : State :=
  let x := s.stkSt k
  match x.retrain with
  | none => s
  | some _ =>
    let s := (s.setStk k { x with retrain := none }).setBit (F.STK_STATUS_RETRAINING k) false
    if ok then s else s.raise EV_STACK_TRAIN_FAIL k []

/-- CHANNEL_RETRAIN_DONE (R170). -/
def execChannelRetrainDone (stack : Nat) (ok : Bool) (s : State) : Res := s.live <|
  onUnit (stack < 12) (if stack < s.nStacks then s.retrained stack ok else s)

/-- The next unit of a stack's trim rotation that is in service.
Assumption log: 155 (DESIGN CHOICE). -/
def State.trimPick (s : State) (k : Nat) : Option Nat :=
  ((rangeFrom (s.stkSt k).nextTrim 256).map (· % 256)).find? fun u =>
    s.unitState k u == US_IDLE || s.unitState k u == US_BUSY

/-- The next unit of a stack is to be trimmed: an idle one stands at a command boundary, a busy one comes to it.
Assumption log: 155 (DESIGN CHOICE). -/
def State.trimNext (s : State) (k : Nat) : State :=
  let x := s.stkSt k
  if x.trimming.isSome then s
  else
    match s.trimPick k with
    | none => s
    | some u =>
      let s := s.setStk k { x with trimming := some u, nextTrim := (u + 1) % 256 }
      if s.unitState k u = US_IDLE then s.setUnitState k u US_TRIM else s

/-- Every stack that the part has starts to trim. -/
def State.trimAll (s : State) : State := (List.range s.nStacks).foldl State.trimNext s

/-- The unit that a stack trims resumes its commands. -/
def State.resumeUnit (s : State) (k u : Nat) : State :=
  let s := s.setUnitState k u US_IDLE
  (s.setUnit k u { s.unit k u with startAt := s.now }).settleUnit k u

/-- The trim of a stack's unit has ended; the next one in rotation follows while the window is open. -/
def State.trimmed (s : State) (k : Nat) (ok : Bool) : State :=
  let x := s.stkSt k
  match x.trimming with
  | none => s
  | some u =>
    if s.unitState k u = US_BUSY then s
    else
      let on := s.unitState k u == US_TRIM
      let s := s.setStk k { x with trimming := none }
      let s := if on then s.resumeUnit k u else s
      let s := if on && !ok then s.raise EV_INLAY_TRIM_FAIL (k * 256 + u) [] else s
      if s.windowFor 1 then s.trimNext k else s

/-- INLAY_TRIM_DONE (R170). -/
def execInlayTrimDone (stack : Nat) (ok : Bool) (s : State) : Res := s.live <|
  onUnit (stack < 12) (if stack < s.nStacks then s.trimmed stack ok else s)

/-- A unit that has reached no command boundary before its window ends is not trimmed in it (R170).
Assumption log: 155 (DESIGN CHOICE). -/
def State.trimSkip (s : State) (k : Nat) : State :=
  let x := s.stkSt k
  match x.trimming with
  | some u => if s.unitState k u = US_TRIM then s else (s.setStk k { x with trimming := none }).bump (F.INL_UNIT_STATUS_TRIM_SKIP k u) 1
  | none => s

/-! Shim windows (R498, R499). -/

/-- The open window closes; a step that is running is finished. -/
def State.shimClose (s : State) : State :=
  match s.ctl.shim with
  | none => s
  | some _ => (List.range s.nStacks).foldl State.trimSkip { s with ctl := { s.ctl with shim := none } }

/-- The port's transmit trim: it starts within 100 ns and takes at most 1,000 ns, and there is at most one per beat (R499).
Assumption log: 156 (DESIGN CHOICE). -/
def State.portTrim (s : State) : State :=
  if s.port.trimBeat = some s.beatNow then s
  else
    let t := s.now + s.free % 1101
    { s.nextFree with port := { s.port with trimUntil := t, trimBeat := some s.beatNow } }

/-- SHIM at its dispatch slot (R498): an open window closes, the new one opens.
Assumption log: 154 (DESIGN CHOICE). -/
def State.shimOpen (s : State) (target arg : Nat) : State :=
  let s := s.shimClose
  let tgt := target % 32
  let len := min (max (arg % 256) 1) 64
  let w : ShimWin := { target := tgt, from_ := s.beatNow, until_ := (s.beatNow + len) % beatMod }
  let s := { s with ctl := { s.ctl with shim := some w } }
  let s := s.raise EV_SHIM_OPEN 0 [target, len]
  let s := if tgt % 2 = 1 then s.retrainAll else s
  let s := if tgt / 2 % 2 = 1 then s.trimAll else s
  if tgt / 8 % 2 = 1 then s.portTrim else s

/-- SHIM_CLOSE (R498): the beat has reached the end of the window. -/
def execShimClose (s : State) : Res := s.live <|
  .next <|
    match s.ctl.shim with
    | some w => if beatAfter w.until_ s.beatNow then s else s.shimClose
    | none => s

/-- What a beat boundary does in an open window: each selected stack retrains its next channel (R499). -/
def State.shimBeat (s : State) : State := if s.windowFor 0 then s.retrainAll else s

/-! Rehearsal scripts (R494 to R496). -/

/-- A script, replaced; EVT_RH_STATUS shows which are active. -/
def State.setScript (s : State) (n : Nat) (v : Option Script) : State :=
  let s := { s with ctl := { s.ctl with scripts := smPut (fun _ => none) s.ctl.scripts n v } }
  s.set F.EVT_RH_STATUS_ACTIVE (setBitsAt (s.get F.EVT_RH_STATUS_ACTIVE) n 1 (if v.isSome then 1 else 0))

/-- The records that an EVENT script raises (R495).
Assumption log: 151 (DESIGN CHOICE). -/
def State.eventScript (s : State) (n : Nat) : Nat → State
  | 0 => s
  | k + 1 => ((s.injected n).raiseAs (n + 1) (s.get (F.EVT_RH_TGT_TARGET n)) 0 [] 0 0).eventScript n k

/-- REHEARSAL at its dispatch slot (R494).
Assumption log: 150 (DESIGN CHOICE), 151 (DESIGN CHOICE). -/
def State.rehearse (s : State) (target : Nat) : State :=
  let n := target
  if 16 ≤ n ∨ s.get (F.EVT_RH_CFG_KIND n) = 0 ∨ s.get (F.EVT_RH_CFG_DURATION n) = 0 then s
  else
    let until_ := s.now + beatsNs (s.get (F.EVT_RH_CFG_DURATION n))
    match s.script n with
    | some c => s.setScript n (some { c with until_ := until_ })
    | none =>
      let s := (s.setScript n (some { until_ := until_ })).raise EV_REHEARSAL_START 0 []
      if s.get (F.EVT_RH_CFG_KIND n) = 6 then s.eventScript n (s.get (F.EVT_RH_CFG_COUNT n)) else s

/-- The requests that a SILENT script has kept from being answered leave the in-flight table (R495).
Assumption log: 152 (DEDUCED). -/
def State.endSilent (s : State) (n : Nat) : State :=
  let hit (e : InFlight) : Bool := e.silent && e.kind == s.get (F.EVT_RH_TGT_OBJ_KIND n) &&
    e.object == s.get (F.EVT_RH_TGT_OBJECT n) && e.shard == s.get (F.EVT_RH_TGT_TARGET n)
  ((s.sko.inflight.filter hit).map fun e => (e.src, e.reqId)).foldl (fun s e => s.forget e.1 e.2) s

/-- A script's duration has ended (R494, R495).
Assumption log: 150 (DESIGN CHOICE). -/
def State.rehearsalEnd (s : State) (n : Nat) : State :=
  match s.script n with
  | none => s
  | some c =>
    let s := (s.reach c.until_).setScript n none
    let s := s.raise EV_REHEARSAL_END 0 [c.made]
    if s.get (F.EVT_RH_CFG_KIND n) = 4 then s.endSilent n else s

/-- REHEARSAL_END (R494). -/
def execRehearsalEnd (script : Nat) (s : State) : Res := s.live <| onUnit (script < 16) (s.rehearsalEnd script)

end Sys2Proof.Machine
end

