-- ==== Sys2Proof/Machine/Actions.lean ====
section
/-! DEFINITION. The actions of the armed-event table (R49 to R53), arming, dispatch, and the boundary of a beat (R38). -/

namespace Sys2Proof.Machine

/-- The action of an entry on the state that the entries before it have left (R49, R50). A code that is none of the table's does nothing. -/
def State.act (s : State) (n : Nat) : State :=
  let target := s.get (F.BEAT_EVT_ACT_TARGET n)
  let arg := s.get (F.BEAT_EVT_ARG_ARG n)
  match s.get (F.BEAT_EVT_ACT_ACTION n) with
  | 1 => s.gateList target arg
  | 2 => s.sealCut
  | 3 => (s.mapCut (s.get (F.BEAT_EVT_BEAT_BEAT n)) arg).decideHeld
  | 4 => s.closeWindow
  | 5 => s.tableEpoch target arg
  | 6 => s.panelReload target
  | 7 => if target < 16 then s.migrateCut target else s.cutRefused target
  | 8 => s.shimOpen target arg
  | 9 => s.rehearse target
  | 10 => s.raise EV_BEAT_NOTIFY n [arg]
  | _ => s

/-- An entry fires: its state and the beat are noted, a past-due one is reported, and its action is done (R51).
Assumption log: 158 (DEDUCED). -/
def State.fire (s : State) (e : Nat × Bool) : State :=
  let s := { s with beat := { s.beat with due := s.beat.due.filter (·.1 != e.1) } }.slotOpens
  let s := (s.setEnt e.1 2).set (F.BEAT_EVT_CTL_FIRE_BEAT e.1) s.beatNow
  let s := if e.2 then s.raisePastDue e.1 0 else s
  (s.act e.1).slotCloses

/-- A dispatch slot opens: what is skipped or dropped uses none, and the next entry due fires (R50).
Assumption log: 158 (DEDUCED). -/
def State.dispatchSlot (s : State) : State :=
  let s := s.settleDue 256
  match s.beat.due with
  | [] => s
  | e :: r => let t := s.fire e; if r.isEmpty then t else t.reach (t.now + 16)

/-- ARMED_EVENT_DISPATCH (R50). -/
def execArmedEventDispatch (s : State) : Res := s.live <| .next s.dispatchSlot

/-- BEAT_EVT_CTL.ARM of an entry: a past-due one is skipped, dropped or dispatched at once (R49, R51, R52).
Assumption log: 158 (DEDUCED). -/
def State.arm (s : State) (n : Nat) : State :=
  let t := s.armEntry n
  if t.beat.due.any (·.1 == n) ∧ s.entState n ≠ 1 then
    let u : State := { t with beat := { t.beat with due := t.beat.due.filter (·.1 != n) } }
    if t.entSkips n then ((u.slotOpens.setEnt n 5).raise EV_BEAT_EVENT_SKIPPED n []).slotCloses
    else if t.entDrops (n, true) then ((u.slotOpens.setEnt n 4).raisePastDue n 1).slotCloses
    else u.fire (n, true)
  else t

/-- ARM (R49). -/
def execArm (entry : Nat) (s : State) : Res := s.live <| onUnit (entry < 256) (s.arm entry)

/-- The boundary of the next beat: due entries wait for their slots, the movers' beat line makes a request (R435), an open window goes on (R499),
and requests held for a map cut that did not come are decided (R535). -/
def State.beatBoundary (s : State) : State :=
  if s.beat.valid then ((((s.nextBoundary).samplePeriod).request 224 1).shimBeat).decideHeld else s

/-- BEAT_BOUNDARY (R38). -/
def execBeatBoundary (s : State) : Res := s.live <| .next s.beatBoundary

end Sys2Proof.Machine
end

