-- ==== Sys2Proof/Machine/Conn.lean ====
section
/-! DEFINITION. The sending end of connections (R381, R383 to R389, R394, R400): acknowledgements, retransmission, the loss of a peer, congestion,
and the ends of operations that the node has issued. -/

namespace Sys2Proof.Machine

/-- Packet sequence numbers from one to another, modulo 2^32. -/
def psnDist (a b : Nat) : Nat := (b % 2 ^ 32 + 2 ^ 32 - a % 2 ^ 32) % 2 ^ 32

/-- Whether a PSN lies before another in serial arithmetic (R381). -/
def psnBefore (a b : Nat) : Bool := decide (0 < psnDist a b) && decide (psnDist a b < 2 ^ 31)

/-- The sending end of a connection that is held. -/
def State.txOf (s : State) (k : Nat) : Option TxConn := (s.sko.tx.find? fun e => e.1 == k).map Prod.snd

/-- A packet inserted in PSN order, counted from a PSN.
Assumption log: 191 (DESIGN CHOICE). -/
def insertPsn (base : Nat) (p : Packet) : List Packet → List Packet
  | [] => [p]
  | q :: r => if psnDist base p.psn < psnDist base q.psn then p :: q :: r else q :: insertPsn base p r

/-- Packets that must be sent again wait before those that have not been sent, in PSN order.
Assumption log: 191 (DESIGN CHOICE). -/
def TxConn.again (c : TxConn) (base : Nat) (ps : List TxPkt) : TxConn :=
  { c with waiting := ps.foldl (fun w p => insertPsn base { p.pkt with retx := true } w) c.waiting,
           unacked := c.unacked.filter fun u => !(ps.any fun p => p.pkt.psn == u.pkt.psn) }

/-- The least rate, in Mb/s (R389).
Assumption log: 193 (DEDUCED). -/
def State.rMin (s : State) : Nat := s.get F.SKO_CC_R_MIN_MBPS

/-- Operations outstanding on a connection: issued, sent on it, not complete. -/
def State.opsOn (s : State) (k : Nat) : List OutOp :=
  s.sko.ops.filter fun o => o.cls == k % 8 && o.goesTo (k / 8) && !(s.sko.flagWait.any fun w => w.opId == o.opId && w.dst == k / 8)

/-- A peer is heard of again: an operation to it has completed (R385).
Assumption log: 183 (DEDUCED). -/
def State.heard (s : State) (peer : Nat) : State :=
  if s.sko.lostPeers.isEmpty then s else { s with sko := { s.sko with lostPeers := s.sko.lostPeers.filter (· != peer) } }

/-- Whether an operation is complete when its last PSN is acknowledged (R383). -/
def ackEnds (op : Nat) : Bool := op == OP_WRITE || op == OP_WRITE_FLAG || op == OP_REDUCE || op == OP_MERGE || op == OP_HALDIO

/-! The node controller's own requests. -/

/-- The ends of operations that carried requests of the node controller are taken; one that has failed is the request's answer. -/
def State.settleNc (s : State) : Nat → State
  | 0 => s
  | fuel + 1 =>
    match s.sko.done.find? fun d => d.1 == U_NCTL && decide (0x10000 ≤ d.2.1) with
    | none => s
    | some d =>
      let s := s.dropFinished U_NCTL d.2.1
      (if d.2.2.1 = E_NONE then s else s.ncFail (d.2.1 - 0x10000) d.2.2.1).settleNc fuel

/-- What the end of operations and the arrival of answers lead to in the node controller. -/
def State.ncSettle (s : State) : State :=
  let s := s.settleNc s.sko.done.length
  if s.sko.inbox.any fun a => a.unit == U_NCTL then s.ncStep else s

/-! Acknowledgement (R383 to R385). -/

/-- The packets of a connection that an ACK covers. -/
def TxConn.acked (c : TxConn) (next : Nat) : List Packet :=
  (c.unacked.map TxPkt.pkt ++ c.waiting.filter fun p => p.retx).filter fun p => psnBefore p.psn next

/-- The packets that an ACK shows missing below its highest SACK bit (R385). -/
def TxConn.missing (c : TxConn) (next sack : Nat) : List TxPkt :=
  if sack = 0 then []
  else c.unacked.filter fun u =>
    let d := psnDist next u.pkt.psn
    d == 0 || (decide (d - 1 < Nat.log2 sack) && sack / 2 ^ (d - 1) % 2 == 0)

/-- The sending end after an ACK: what it covers is gone, what it shows missing waits to be sent again, the window is its own; progress ends
the doublings. -/
def TxConn.onAck (c : TxConn) (a : AckInfo) (rto now : Nat) : TxConn :=
  let got := !(c.acked a.next).isEmpty
  let c' := { c with unacked := c.unacked.filter (fun u => !psnBefore u.pkt.psn a.next),
                     waiting := c.waiting.filter (fun p => !(p.retx && psnBefore p.psn a.next)),
                     window := a.window * 4096, lastAct := now,
                     rto := if got then rto else c.rto, doublings := if got then 0 else c.doublings,
                     rnrCount := if got then 0 else c.rnrCount }
  c'.again a.next (c'.missing a.next a.sack)

/-- An ACK, or the acknowledging part of a NAK (R384). -/
def State.onAck (s : State) (a : AckInfo) : State :=
  let k := connKey a.peer a.cls
  match s.txOf k with
  | none => s
  | some c =>
    let s := s.setConn k (c.onAck a (s.get F.SKO_CFG_RTO_US * 1000) s.now)
    let s := (c.acked a.next).foldl (fun s p =>
      if p.last && ackEnds p.op then (s.heard a.peer).endAt p.opId a.peer E_NONE [] else s) s
    s.pump k

/-- ACK (R384). -/
def execAck (a : AckInfo) (s : State) : Res := s.live <| .next ((s.bump F.SKO_CNT_RX_PACKETS 1).onAck a).ncSettle

/-- NAK_ERR: the named operation ends with its code, and the rest acknowledges (R392). -/
def State.onNakErr (s : State) (a : AckInfo) : State :=
  let s := if (s.opsOn (connKey a.peer a.cls)).any fun o => o.opId == a.opId then (s.heard a.peer).endAt a.opId a.peer a.code [] else s
  s.onAck a

/-- NAK_ERR (R392). -/
def execNakErr (a : AckInfo) (s : State) : Res := s.live <| .next ((s.bump F.SKO_CNT_RX_PACKETS 1).onNakErr a).ncSettle

/-! Refusal for want of room (R400). -/

/-- Packets numbered afresh from a PSN.
Assumption log: 187 (DEDUCED). -/
def renumber (next : Nat) (ps : List Packet) : List Packet :=
  ps.mapIdx fun i p => { p with psn := (next + i) % 2 ^ 32, syn := (next + i) % 2 ^ 32 == 0 }

/-- A message refused RNR_MAX times is given up: the packets behind it take its numbers.
Assumption log: 187 (DEDUCED). -/
def TxConn.giveUp (c : TxConn) (next opId : Nat) : TxConn :=
  let w := renumber next (c.waiting.filter fun p => p.opId != opId || p.op != OP_HALDIO)
  { c with waiting := w, psn := (next + w.length) % 2 ^ 32, rnrHold := false, rnrCount := 0 }

/-- NAK_RNR: the refused message and what follows it wait; after RNR_MAX refusals the message ends with E_CAPACITY. -/
def State.onNakRnr (s : State) (a : AckInfo) : State :=
  let k := connKey a.peer a.cls
  let s := s.onAck a
  match s.txOf k with
  | none => s
  | some c =>
    let c := c.again a.next c.unacked
    let n := c.rnrCount + 1
    if s.get F.SKO_CFG2_RNR_MAX ≤ n then
      let s := s.setConn k (c.giveUp a.next a.opId)
      (s.endAt a.opId a.peer E_CAPACITY []).pump k
    else s.setConn k { c with rnrCount := n, rnrHold := true, rnrUntil := s.now + s.get F.SKO_CFG2_RNR_WAIT_US * 1000 }

/-- NAK_RNR (R400). -/
def execNakRnr (a : AckInfo) (s : State) : Res := s.live <| .next ((s.bump F.SKO_CNT_RX_PACKETS 1).onNakRnr a).ncSettle

/-- RNR_WAIT: the wait of a connection ends, and the refused message is sent again (R400). -/
def State.rnrWait (s : State) (k : Nat) : State :=
  match s.txOf k with
  | none => s
  | some c => if c.rnrHold then (let s := s.reach c.rnrUntil; (s.setConn k { c with rnrHold := false }).pump k) else s

/-- RNR_WAIT (R400). -/
def execRnrWait (peer cls : Nat) (s : State) : Res := s.live <| onUnit (cls < 8) (s.rnrWait (connKey peer cls))

/-! Loss (R385, R386). -/

/-- A connection is dropped and every operation outstanding on it ends with E_ABSENT: how many, and the state.
Assumption log: 192 (DEDUCED). -/
def State.failConn (s : State) (k : Nat) : Nat × State :=
  let os := s.opsOn k
  let s := State.countConns { s with sko := { s.sko with tx := s.sko.tx.filter fun e => e.1 != k } }
  (os.length, os.foldl (fun s o => s.endAt o.opId (k / 8) E_ABSENT []) s)

/-- The peer of a connection is lost: it is reported once until an operation to it completes.
Assumption log: 192 (DEDUCED). -/
def State.peerLost (s : State) (k : Nat) : State :=
  let s := (s.failConn k).2
  if s.sko.lostPeers.contains (k / 8) then s
  else { s with sko := { s.sko with lostPeers := k / 8 :: s.sko.lostPeers } }.raise EV_SKO_PEER_LOST 0 []

/-- RESYNC: the peer holds no state for the connection.
Assumption log: 192 (DEDUCED). -/
def State.onResync (s : State) (a : AckInfo) : State :=
  let k := connKey a.peer a.cls
  if (s.txOf k).isNone then s
  else
    let x := (s.bump F.SKO_CNT_REL_RESYNC 1).failConn k
    x.2.raise EV_SKO_RESYNC 0 [a.peer, x.1]

/-- RESYNC (R386). -/
def execResync (a : AckInfo) (s : State) : Res := s.live <| .next ((s.bump F.SKO_CNT_RX_PACKETS 1).onResync a).ncSettle

/-- Until when a path stays penalised from now on (R388). -/
def State.penalty (s : State) : Nat := s.now + beatsNs (s.get F.SKO_CC_PENALTY)

/-- The sending end after a timeout: all is sent again, the timeout doubles, the rate halves, the paths used are penalised (R385, R388, R389).
Assumption log: 192 (DEDUCED). -/
def TxConn.onTimeout (c : TxConn) (base rmin until_ : Nat) : TxConn :=
  let c' := c.again base c.unacked
  { c' with rto := c.rto * 2, doublings := c.doublings + 1, rate := max rmin (c.rate / 2),
            penal := c.unacked.foldl (fun m u => smPut (fun _ => 0) m u.pkt.path until_) c.penal }

/-- RTO_TIMEOUT: the oldest unacknowledged packet has waited for RTO. -/
def State.rtoTimeout (s : State) (k : Nat) : State :=
  match s.txOf k with
  | none => s
  | some c =>
    match c.unacked with
    | [] => s
    | u :: r =>
      let s := s.reach (c.rto + r.foldl (fun m x => min m x.sentAt) u.sentAt)
      let s := s.bump F.SKO_CNT_REL_TIMEOUTS 1
      if s.get F.SKO_CFG_RETRY_MAX ≤ c.doublings then s.peerLost k
      else
        let base := r.foldl (fun m x => if psnBefore x.pkt.psn m then x.pkt.psn else m) u.pkt.psn
        (s.setConn k (c.onTimeout base s.rMin s.penalty)).pump k

/-- RTO_TIMEOUT (R385). -/
def execRtoTimeout (peer cls : Nat) (s : State) : Res := s.live <| onUnit (cls < 8) (s.rtoTimeout (connKey peer cls)).ncSettle

/-! Paths and congestion (R388, R389). -/

/-- CNP: the rate falls, the path of the marked packet is penalised. Raw mode has no ECN. -/
def State.onCnp (s : State) (k path : Nat) : State :=
  match s.txOf k with
  | none => s
  | some c =>
    if 2 ≤ s.sko.recd.mode then s
    else
      let s := s.bump F.SKO_CNT_CC_CNP_RX 1
      s.setConn k { c with rate := max s.rMin (c.rate - c.rate / 2 ^ s.get F.SKO_CC_MD_SHIFT), cnpSeen := true, lastAct := s.now,
                           penal := smPut (fun _ => 0) c.penal (path % 16) s.penalty }

/-- CNP (R389). -/
def execCnp (peer cls path : Nat) (s : State) : Res := s.live <|
  onUnit (cls < 8) ((s.bump F.SKO_CNT_RX_PACKETS 1).onCnp (connKey peer cls) path)

/-- PATH_PENALTY_EXPIRY (R388). -/
def State.penaltyOver (s : State) (k path : Nat) : State :=
  match s.txOf k with
  | none => s
  | some c =>
    let u := smGet (fun _ => 0) c.penal path
    if u = 0 then s else (s.reach u).setConn k { c with penal := smPut (fun _ => 0) c.penal path 0 }

/-- PATH_PENALTY_EXPIRY (R388). -/
def execPathPenaltyExpiry (peer cls path : Nat) (s : State) : Res := s.live <| onUnit (cls < 8) (s.penaltyOver (connKey peer cls) path)

/-- RATE_INCREASE: at the boundary of a beat, once for each, the rate rises if no CNP has come since the last (R389).
Assumption log: 193 (DEDUCED). -/
def State.rateIncrease (s : State) (k : Nat) : State :=
  match s.txOf k with
  | none => s
  | some c =>
    if !s.beat.valid ∨ c.incBeat = s.beat.beat then s
    else
      let c := { c with incBeat := s.beat.beat }
      if c.cnpSeen then s.setConn k { c with cnpSeen := false }
      else (s.setConn k { c with rate := min s.portRate (c.rate + s.get F.SKO_CC_AI_MBPS) }).pump k

/-- RATE_INCREASE (R389). -/
def execRateIncrease (peer cls : Nat) (s : State) : Res := s.live <| onUnit (cls < 8) (s.rateIncrease (connKey peer cls))

/-- RATE_PACED_RELEASE: the time comes at which the rate lets the next packet go (R389). -/
def State.paceRelease (s : State) (k : Nat) : State :=
  match s.txOf k with
  | none => s
  | some c => if c.waiting.isEmpty || c.rnrHold then s else (s.reach c.nextAt).pump k

/-- RATE_PACED_RELEASE (R389). -/
def execRatePacedRelease (peer cls : Nat) (s : State) : Res := s.live <| onUnit (cls < 8) (s.paceRelease (connKey peer cls))

/-- WRITE_FLAG_RELEASE: a held WRITE_FLAG goes once the operations before it have completed (R394). -/
def execWriteFlagRelease (s : State) : Res := s.live <| .next s.settleFlags

end Sys2Proof.Machine
end

