-- ==== Sys2Proof/Machine/Port.lean ====
section
/-! DEFINITION. The Ethernet port (R357 to R373): link states, acceptance of frames, priority flow control, PTP messages, MACsec. -/

namespace Sys2Proof.Machine

/-! The link (R357 to R361). -/

def LK_DISABLED : Nat := 0
def LK_NEGOTIATING : Nat := 1
def LK_TRAINING : Nat := 2
def LK_ALIGNING : Nat := 3
def LK_UP : Nat := 4
def LK_LOCAL_FAULT : Nat := 5
def LK_REMOTE_FAULT : Nat := 6

/-- State of the link. -/
def State.linkState (s : State) : Nat := s.get F.PORT_STATUS_STATE

/-- Whether a mode is one with auto-negotiation and training (R357). -/
def crMode (m : Nat) : Bool := m == 0 || m == 2

/-- SPEED of a mode. -/
def modeSpeed (m : Nat) : Nat := if m < 2 then 2 else 1

/-- Lanes of a mode (R357, R358). -/
def modeLanes (m : Nat) : Nat := if m < 2 then 255 else 15

/-- PORT_STATUS.MAX_SDU: a frame of 9,216 bytes less addresses, Ethertype, C-tag and FCS, and less the 32 bytes of MACsec while it is on (R363).
Assumption log: 115 (DEDUCED). -/
def State.maxSdu (s : State) : Nat := 9216 - 22 - s.secBytes

/-- SKO_STATUS.PKT_DATA_EFF: the largest size not above the configured one that fits (R378). -/
def State.pktEff (s : State) : Nat :=
  let hd := (match s.sko.recd.mode with | 0 => 48 | 1 => 28 | _ => 0) + 4 + 64
  ((List.range (s.get F.SKO_CFG_PKT_DATA + 1)).filter fun k => decide (hd + 1024 * 2 ^ k ≤ s.maxSdu)).getLastD 0

/-- What the rise to UP fixes for Skorath (R378, R405). -/
def State.skoLinkUp (s : State) : State :=
  let s := s.set F.SKO_STATUS_PKT_DATA_EFF s.pktEff
  { s with sko := { s.sko with paths := s.get F.SKO_CFG_PATHS } }

/-- The link state changes (R360, R361): leaving UP, frames in the PCS are lost and pauses are cleared. -/
def State.setLink (s : State) (n : Nat) : State :=
  let o := s.linkState
  if o = n then s
  else
    let s := if o = LK_UP then { s with port := { s.port with pauseUntil := [], xoffSent := [], busyUntil := s.now } } else s
    let s := s.set F.PORT_STATUS_STATE n
    let s := s.set F.PORT_STATUS_SPEED (if n = LK_DISABLED ∨ n = LK_NEGOTIATING then 0 else modeSpeed s.port.mode)
    let s := if n = LK_UP then (s.set F.PORT_STATUS_MAX_SDU s.maxSdu).skoLinkUp else s
    s.raise EV_PORT_LINK 0 [o, n]

/-- The lanes that are locked. -/
def State.setLanes (s : State) (m : Nat) : State := s.set F.PORT_STATUS_LANES_LOCKED m

/-- A rise of ENABLE: MODE, AN_EN and the ADV bits take effect, and the link starts (R359, R360). -/
def State.portEnable (s : State) : State :=
  if s.bit F.PORT_CFG_ENABLE then s
  else
    let s := s.setBit F.PORT_CFG_ENABLE true
    let m := s.get F.PORT_CFG_MODE
    let adv := s.get F.PORT_CFG_ADV_1T6 + 2 * s.get F.PORT_CFG_ADV_800G
    let s := { s with port := { s.port with mode := m, anEn := s.bit F.PORT_CFG_AN_EN, adv := adv } }
    s.setLink (if crMode m then (if s.port.anEn then LK_NEGOTIATING else LK_TRAINING) else LK_ALIGNING)

/-- PORT_ENABLE (R359). -/
def execPortEnable (s : State) : Res := s.live <| .next s.portEnable

/-- ENABLE cleared: the transmitters are squelched (R360). -/
def State.portDisable (s : State) : State := ((s.setBit F.PORT_CFG_ENABLE false).setLink LK_DISABLED).setLanes 0

/-- PORT_DISABLE (R359). -/
def execPortDisable (s : State) : Res := s.live <| .next s.portDisable

/-- The mode that auto-negotiation resolves to: the highest that both ends advertise (R358).
Assumption log: 108 (DESIGN CHOICE). -/
def anMode (own peer : Nat) : Option Nat :=
  let c := own &&& peer
  if c % 2 = 1 then some 0 else if c / 2 % 2 = 1 then some 2 else none

/-- LINK_STATE_CHANGE: the link moves to a state other than DISABLED, with the lanes then locked; `peer` holds the modes that the peer
advertised, bit 0 1.6TBASE-CR8 and bit 1 800GBASE-CR4, where negotiation ends. Nothing moves a disabled port, and negotiation with
no common mode goes on (R358, R360).
Assumption log: 108 (DESIGN CHOICE). -/
def State.linkChange (s : State) (st lanes peer : Nat) : State :=
  if !s.bit F.PORT_CFG_ENABLE ∨ st = 0 ∨ 6 < st then s
  else if st = LK_NEGOTIATING then
    if s.port.anEn ∧ crMode s.port.mode then (s.setLink st).setLanes 0 else s
  else if s.linkState = LK_NEGOTIATING then
    match anMode s.port.adv peer with
    | some m => ({ s with port := { s.port with mode := m } }.setLink st).setLanes (lanes &&& modeLanes m)
    | none => s
  else if st = LK_TRAINING ∧ !crMode s.port.mode then s
  else (s.setLink st).setLanes (lanes &&& modeLanes s.port.mode)

/-- LINK_STATE_CHANGE (R360). -/
def execLinkStateChange (state lanes peer : Nat) (s : State) : Res := s.live <| .next (s.linkChange state lanes peer)

/-- FEC_WINDOW: a window of 65,536 beats ends with its counts of codewords (R362).
Assumption log: 109 (DESIGN CHOICE). -/
def State.fecWindow (s : State) (corrected uncorrected : Nat) : State :=
  let s := (s.bump F.PORT_FEC_CNT_CORRECTED corrected).bump F.PORT_FEC_CNT_UNCORRECTED uncorrected
  if s.get F.PORT_FEC_CFG_DEGRADE_THR ≤ uncorrected then
    if s.port.fecRaised then s else { s with port := { s.port with fecRaised := true } }.raise EV_PORT_FEC_DEGRADED 0 []
  else { s with port := { s.port with fecRaised := false } }

/-- FEC_WINDOW (R362). -/
def execFecWindow (corrected uncorrected : Nat) (s : State) : Res := s.live <| .next (s.fecWindow corrected uncorrected)

/-! Priority flow control (R366, R367). -/

/-- ns that quanta of 512 bit times last, rounded up (R367). -/
def State.quantaNs (s : State) (q : Nat) : Nat := (q * 64 * s.byteTime + 999) / 1000

/-- A received PFC frame: each enabled class it names is held, or released by quanta 0 (R366).
Assumption log: 111 (DEDUCED). -/
def State.pfcReceived (s : State) (qs : List (Nat × Nat)) : State :=
  (qs.foldl (fun s e =>
    if e.1 < 7 ∧ s.get F.PORT_PFC_EN / 2 ^ e.1 % 2 = 1 then
      let u := if e.2 = 0 then 0 else s.now + s.quantaNs e.2
      { s with port := { s.port with pauseUntil := smPut (fun _ => 0) s.port.pauseUntil e.1 u } }
    else s) s).markSample

/-- PFC_RECEIVED, as pairs of class and quanta; frames pass only while the link is UP (R360, R366). -/
def execPfcReceived (quanta : List (Nat × Nat)) (s : State) : Res := s.live <|
  .next (if s.linkState = LK_UP then s.pfcReceived quanta else s)

/-- PFC_PAUSE_EXPIRY: a pause runs out (R366). -/
def State.pfcExpiry (s : State) (c : Nat) : State :=
  let u := smGet (fun _ => 0) s.port.pauseUntil c
  if u = 0 then s
  else
    let s := s.reach u
    { s with port := { s.port with pauseUntil := smPut (fun _ => 0) s.port.pauseUntil c 0 } }

/-- PFC_PAUSE_EXPIRY (R366). -/
def execPfcPauseExpiry (cls : Nat) (s : State) : Res := s.live <| onUnit (cls < 8) (s.pfcExpiry cls)

/-- A PFC frame goes out between frames (R367). -/
def State.sendPfc (s : State) (c q : Nat) : State := { s with port := { s.port with pfcSent := s.port.pfcSent ++ [(c, q)] } }

/-- The receive share of a class holds `n` bytes: XOFF at XOFF_KIB, quanta 0 at XON_KIB (R367). -/
def State.setShare (s : State) (c n : Nat) : State :=
  let s := { s with port := { s.port with occ := smPut (fun _ => 0) s.port.occ c n } }
  let since := smGet (fun _ => 0) s.port.xoffSent c
  if c < 7 ∧ s.get F.PORT_PFC_EN / 2 ^ c % 2 = 1 then
    if since = 0 then
      if s.get (F.PORT_PFC_THR_XOFF_KIB c) * 1024 ≤ n then
        let t := s.sendPfc c (s.get F.PORT_PFC_QUANTA)
        { t with port := { t.port with xoffSent := smPut (fun _ => 0) t.port.xoffSent c (s.now + 1) } }
      else s
    else if n ≤ s.get (F.PORT_PFC_THR_XON_KIB c) * 1024 then
      let t := s.sendPfc c 0
      { t with port := { t.port with xoffSent := smPut (fun _ => 0) t.port.xoffSent c 0 } }
    else s
  else s

/-- PFC_REFRESH: half the quanta have elapsed, and the share of the class now holds `n` bytes: the PFC is repeated, unless they have fallen
to XON_KIB (R367).
Assumption log: 109 (DESIGN CHOICE). -/
def State.pfcRefresh (s : State) (c n : Nat) : State :=
  let since := smGet (fun _ => 0) s.port.xoffSent c
  if since = 0 then s
  else
    let s := (s.reach (since - 1 + s.quantaNs (s.get F.PORT_PFC_QUANTA) / 2)).setShare c n
    if smGet (fun _ => 0) s.port.xoffSent c = 0 then s
    else
      let t := s.sendPfc c (s.get F.PORT_PFC_QUANTA)
      { t with port := { t.port with xoffSent := smPut (fun _ => 0) t.port.xoffSent c (s.now + 1) } }

/-- PFC_REFRESH (R367). -/
def execPfcRefresh (cls share : Nat) (s : State) : Res := s.live <| onUnit (cls < 8) (s.pfcRefresh cls share)

/-! Acceptance of frames (R363 to R365, R371). -/

/-- Multicast addresses that PTP needs, by transport, the first octet in the lowest byte (R368): the primary and the peer-delay one.
Assumption log: 19 (PRESUMED). -/
def ptpMcast (transport : Nat) : List Nat :=
  if transport = 0 then [0x000000191B01, 0x0E0000C28001]
  else if transport = 1 then [0x8101005E0001, 0x6B00005E0001]
  else [0x810100003333, 0x6B0000003333]

/-- The address of MAC control frames (R366).
Assumption log: 19 (PRESUMED). -/
def macControl : Nat := 0x010000C28001

/-- Whether the port takes frames to an address (R363).
Assumption log: 110 (DEDUCED). -/
def State.takesAddr (s : State) (d : Nat) : Bool :=
  d == s.get F.PORT_MAC_ADDR || d == 0xFFFFFFFFFFFF ||
    (s.bit F.PORT_PTP_CFG_EN && (ptpMcast (s.get F.PORT_PTP_CFG_TRANSPORT)).contains d)

/-- The key of an association (R373).
Assumption log: 112 (DESIGN CHOICE). -/
def State.saKey (s : State) (d a : Nat) : List Byte := (List.range 4).flatMap fun w => leBytes 8 (s.reg (Reg.PORT_SEC_SA d a w)).toNat

/-- Salt and SSCI of an association, which only XPN uses. -/
def State.saSalt (s : State) (d a : Nat) : List Byte :=
  if s.bit F.PORT_SEC_CFG_CIPHER then (leBytes 8 (s.reg (Reg.PORT_SEC_SA d a 5)).toNat) ++ leBytes 8 (s.reg (Reg.PORT_SEC_SA d a 6)).toNat else []

/-- A protected frame: accepted with its packet number noted, or dropped and counted (R371).
Assumption log: 112 (DESIGN CHOICE), 113 (DESIGN CHOICE). -/
def State.secOpen (s : State) (t : SecTag) : Bool × State :=
  let r := Reg.PORT_SEC_SA 1 (t.an % 4) 4
  let low := (s.reg r).toNat
  let key := s.saKey 1 (t.an % 4)
  if t.sci ≠ s.get F.PORT_SEC_RXSCI_SCI then (false, s)
  else if key = zeros 32 ∨ !Config.gcmOpen key (s.saSalt 1 (t.an % 4)) t.pn t.bytes then (false, s.bump F.PORT_SEC_CNT_RX_INVALID 1)
  else if t.pn < low then (false, s.bump F.PORT_SEC_CNT_RX_LATE 1)
  else (true, s.setReg r (BitVec.ofNat 64 (max low (t.pn + 1 - s.get F.PORT_SEC_CFG_REPLAY_WIN))))

/-- The MACsec stage: with it on, an unprotected frame passes only if it is one of PTP under PTP_BYPASS; with it off, only an unprotected one
(R370, R371). -/
def State.secStage (s : State) (f : Frame) (ptp : Bool) : Bool × State :=
  if s.bit F.PORT_SEC_CFG_EN then
    match f.sec with
    | some t => s.secOpen t
    | none => (ptp && s.bit F.PORT_PTP_CFG_PTP_BYPASS, s)
  else
    match f.sec with
    | some _ => (false, s.bump F.PORT_DROP_CNT_ETYPE 1)
    | none => (true, s)

/-- The class of a frame by its tags; `none` where it is dropped under VLAN (R364). -/
def State.vlanClass (s : State) (f : Frame) : Option Nat :=
  match f.tags with
  | [] => if s.bit F.PORT_VLAN_ACCEPT_UNTAGGED then some (s.get F.PORT_VLAN_DEFAULT_CLASS) else none
  | [(tpid, pcp, vid)] =>
    if tpid = 0x8100 ∧ vid = s.get F.PORT_VLAN_VID then some (s.get F.PORT_PCP_MAP_RX_CLASS / 2 ^ (3 * (pcp % 8)) % 8) else none
  | _ => none

/-- The transport number of a PTP message's frame by its Ethertype (R365, R368). -/
def ptpTransport (et : Nat) : Nat := if et = 0x88F7 then 0 else if et = 0x0800 then 1 else 2

/-! PTP messages (R368 to R370). -/

/-- Whether PTP frames are protected, so that one-step transmit is not possible (R370). -/
def State.ptpProtected (s : State) : Bool := s.bit F.PORT_SEC_CFG_EN && !s.bit F.PORT_PTP_CFG_PTP_BYPASS

/-- ONE_STEP_ACTIVE follows PORT_PTP_CFG and PORT_SEC_CFG; its loss to MACsec is raised once (R370). -/
def State.ptpMode (s : State) : State :=
  let want := s.bit F.PORT_PTP_CFG_EN && s.bit F.PORT_PTP_CFG_ONE_STEP
  let lost := want && s.ptpProtected
  let s := s.setBit F.PORT_STATUS_ONE_STEP_ACTIVE (want && !lost)
  let s := if lost && !s.port.twoStepRaised then s.raise EV_PORT_PTP_TWO_STEP 0 [] else s
  { s with port := { s.port with twoStepRaised := lost } }

/-- Wire bytes of a PTP message of `n` bytes (R368, R407). -/
def State.ptpWire (s : State) (n : Nat) : Nat :=
  let hd := (match s.get F.PORT_PTP_CFG_TRANSPORT with | 0 => 14 | 1 => 42 | _ => 62) + (if s.bit F.PORT_VLAN_TAGGED then 4 else 0)
  max 64 (hd + n + 4 + (if s.ptpProtected then 32 else 0)) + 20

/-- A PTP message joins class 7's queue (R406). -/
def State.sendPtp (s : State) (kind seq n : Nat) (twoStep : Bool) : State :=
  s.enqueue 7 (.ptp { kind := kind, domain := s.get F.PORT_PTP_CFG_DOMAIN, transport := s.get F.PORT_PTP_CFG_TRANSPORT, seq := seq,
                      twoStep := twoStep }) (s.ptpWire n)

/-- The local time at the MDI as RX_NS corrects it (R369). -/
def State.rxStamp (s : State) : Nat := ((s.beat.t : Int) + signed 32 (s.get F.PORT_PTP_CORR_RX_NS)).toNat

/-- A received PTP message (R368): an Announce names a parent; a Sync is stamped and, with E2E, answered with a Delay_Req; with P2P a
Pdelay_Req is answered, with a follow-up in two-step operation. The measurement that the slave clock makes of them is a command of its
own. -/
def State.ptpReceived (s : State) (m : PtpMsg) : State :=
  let p2p := s.bit F.PORT_PTP_CFG_DELAY
  let one := s.bit F.PORT_STATUS_ONE_STEP_ACTIVE
  if !s.bit F.PORT_PTP_CFG_EN ∨ m.domain ≠ s.get F.PORT_PTP_CFG_DOMAIN ∨ m.transport ≠ s.get F.PORT_PTP_CFG_TRANSPORT then s
  else if m.kind = 0xB then { s with port := { s.port with parentKnown := true } }
  else if m.kind = 0 then
    let s := { s with port := { s.port with lastSync := s.rxStamp, ptpSeq := m.seq } }
    if p2p then s else s.sendPtp 1 m.seq 44 false
  else if m.kind = 2 ∧ p2p then
    let s := s.sendPtp 3 m.seq 54 (!one)
    if one then s else s.sendPtp 0xA m.seq 54 false
  else s

end Sys2Proof.Machine
end

