-- ==== Sys2Proof/Machine/Reset.lean ====
section
/-! DEFINITION. Reset scopes (R473 to R477): what each covers, what it keeps, the start and the end of a reset. -/

namespace Sys2Proof.Machine

/-! Registers (R475). -/

/-- A register at a reset of its unit: RW and WO fields stay, the others return to their reset values. -/
def resetWord (off : Nat) (v : Word) : Word :=
  match findReg off with
  | none => regReset off
  | some d =>
    BitVec.ofNat 64 (d.fields.foldl (fun a f =>
      if f.acc = .ro ∨ f.acc = .w1c ∨ f.acc = .rc then a else setBitsAt a f.lo f.w (bitsAt v.toNat f.lo f.w)) (regReset off).toNat)

/-- The registers in a range of offsets return to what a reset leaves of them. -/
def State.resetRange (s : State) (lo hi : Nat) : State :=
  { s with regs := (s.regs.map fun e => if lo ≤ e.1 ∧ e.1 ≤ hi then (e.1, resetWord e.1 e.2) else e).filter fun e => e.2 != regReset e.1 }

/-- Fields of one state carried over into another. -/
def State.carry (s : State) (old : State) (fs : List RegField) : State := fs.foldl (fun s f => s.set f (old.get f)) s

/-- The registers in a range, but for some fields that show what the reset leaves in place.
Assumption log: 137 (DESIGN CHOICE). -/
def State.resetRegs (s : State) (lo hi : Nat) (keep : List RegField) : State := (s.resetRange lo hi).carry s keep

/-- A slot that stays enabled shows so.
Assumption log: 137 (DESIGN CHOICE). -/
def State.showOn (s : State) (n : Nat) (en st : Nat → RegField) : State :=
  (List.range n).foldl (fun s k => if s.bit (en k) then s.set (st k) 1 else s) s

/-! The scopes (R474). -/

/-- A tile: a running chain ends, its watches hold one token each, and it is IDLE in its panel with the credits of its rings.
Assumption log: 137 (DESIGN CHOICE). -/
def State.resetTile (s : State) (t : Nat) : State :=
  let s := match (s.tile t).chain with
    | some c => s.endChain t c E_CANCELLED
    | none => s
  let unassigned := s.tileState t == TS_UNASSIGNED
  let lo := 0xF000A0000000 + t * 0x100000
  let keep := F.TILE_STATUS_PANEL t :: (List.range 16).flatMap fun c => [F.TILE_CREDIT_CAPACITY t c, F.TILE_CREDIT_RING t c]
  let s := s.resetRegs lo (lo + 0xFFFFF) keep
  let s := (List.range 16).foldl (fun s c =>
    let g := s.get (F.TILE_CREDIT_RING t c)
    s.set (F.TILE_CREDIT_AVAIL t c) (s.get (F.TILE_CREDIT_CAPACITY t c) - (s.tailOf g - s.headOf g) / 64)) s
  let s := s.setTile t { s.tile t with chain := none, last := 7, halted := false, passed := false, vreg := none }
  let s := (s.tile t).watches.foldl (fun s g =>
    let h := s.headOf g
    let e := s.tailOf g
    s.setRing g { s.ring g with tokens := if h < e then [{ from_ := h, to_ := e, since := s.now }] else [] }) s
  s.setTileState t (if unassigned then TS_UNASSIGNED else TS_IDLE)

/-- The tiles of a panel, with those that its reload is to give it.
Assumption log: 140 (DEDUCED). -/
def State.panelTiles (s : State) (p : Nat) : List Nat :=
  let x := s.panel p
  let next := match x.job with
    | some j => (match j.loading, j.defn with
      | some d, _ => d.tiles
      | none, some d => d.tiles
      | none, none => [])
    | none => []
  (x.tiles ++ next).dedup

/-- Tiles are reset, and reloads that they belong to end in HELD (R81).
Assumption log: 140 (DEDUCED). -/
def State.resetTiles (s : State) (ts : List Nat) : State :=
  let ps := panelIds.filter fun p => (s.panelTiles p).any ts.contains
  ps.foldl State.holdReload (ts.foldl State.resetTile s)

/-- A stack: what its units held is ended, their FIFOs, tables and filters are empty, and its channels are retrained.
Assumption log: 137 (DESIGN CHOICE). -/
def State.resetStack (s : State) (k : Nat) : State :=
  let lo := 0xF00020000000 + k * 0x1000000
  let s := s.resetRegs lo (lo + 0xFFFFFF) [F.STK_STATUS_TRAINED k, F.STK_STATUS_EXT_MODE k, F.STK_STATUS_TEMP_C k]
  let s := s.setStk k {}
  let ended (p : InlPkt) : InlPkt := { p with bytes := failResult p IS_ABORTED, aux := 3 }
  { s with inl := (s.inl.map fun e =>
      if e.1 / 256 = k then
        (e.1, ({ taken := e.2.taken ++ (e.2.results ++ packetsOf e.2.cmds ++ packetsOf e.2.waiting).map ended } : InlSt))
      else e).filter fun e => e.2 != ({} : InlSt) }

/-- The fields of a migration slot, which every scope narrower than the node keeps (R197). -/
def migFields : List RegField :=
  (List.range 16).flatMap fun k => [F.TIER_MIG_CTL_STATE k, F.TIER_MIG_CTL_REASON k, F.TIER_MIG_CTL_CUT_BEAT k]

/-- The tier manager: moves end, and row requests held for a cut that has failed go on at the old home (R197). -/
def State.resetTier (s : State) : State :=
  let s := s.resetRegs 0xF00030000000 0xF000300011FF migFields
  let rows := (List.range 16).filter fun k => s.migState k == MS_CUTTING && s.get (F.TIER_MIG_OBJ_KIND k) == 2
  let s := s.tierReset
  let s := (rows.filter fun k => s.migState k == MS_FAILED).foldl (fun s k =>
    s.releaseRow (s.get (F.TIER_MIG_OBJ_TABLE k)) (s.get (F.TIER_MIG_OBJ_ID k))) s
  ({ s with tier := { s.tier with poolEp := false, flashEp := false } }.set F.TIER_STATUS_FREE_FRAMES s.freeFrames).countMoves

/-- The flash subsystem of a die: requests end, and present carriers are identified again. -/
def State.resetFlash (s : State) (die : Nat) : State :=
  let cs := (List.range 8).filter fun c => c / 4 == die
  let s := s.flReset die false
  (cs.foldl (fun s c =>
    let lo := 0xF00040100000 + c * 0x1000
    s.resetRegs lo (lo + 0xFFF) [F.FL_CAR_STATUS_STATE c]) s).flShow

/-- The link begins again in its mode. -/
def State.relink (s : State) : State :=
  if s.bit F.PORT_CFG_ENABLE then
    s.setLink (if crMode s.port.mode then (if s.port.anEn then LK_NEGOTIATING else LK_TRAINING) else LK_ALIGNING)
  else s

/-- The port and the PTP unit: the link is retrained. -/
def State.resetPort (s : State) : State :=
  let s := (s.relink).setLanes 0
  let s := s.resetRegs 0xF00050000000 0xF0005000043F [F.PORT_STATUS_STATE, F.PORT_STATUS_SPEED]
  let p := s.port
  ({ s with port := { mode := p.mode, anEn := p.anEn, adv := p.adv, sent := p.sent, pfcSent := p.pfcSent } }).ptpMode

/-- The Skorath engine: connections, the in-flight table and held CANCELs are gone, and the operations on them are over.
Assumption log: 138 (DEDUCED). -/
def State.resetSko (s : State) : State :=
  let ops := s.sko.ops ++ (s.sko.flagWait ++ s.sko.loop).filter fun o => !o.mcast
  let k := s.sko
  let s := { s with sko := { k with tx := [], rx := [], ops := [], flagWait := [], loop := [], ctl := [], inflight := [], cancels := [], held := [],
                                    delayed := [], lostPeers := [], tableFull := false } }
  let s := ops.foldl (fun s o => s.tellIssuer o E_CANCELLED []) s
  s.resetRegs 0xF00051000000 0xF00051000067
    [F.SKO_STATUS_ENABLED, F.SKO_STATUS_MODE, F.SKO_STATUS_PKT_DATA_EFF, F.SKO_STATUS_NODE]

/-- The list scanner and the walker.
Assumption log: 138 (DEDUCED). -/
def State.resetSearch (s : State) : State :=
  let s := (s.resetRange 0xF00070000000 0xF000700013FF).resetRange 0xF00070800000 0xF0007080217F
  let s := (s.lsReset).gwReset
  (s.showOn 64 F.LS_IDX_CTL_EN F.LS_IDX_CTL_STATE).showOn 64 F.WLK_IDX_CTL_EN F.WLK_IDX_CTL_STATE

/-- The merge units: buffers are FREE, and searches of other units that they were selecting or completing end (R274, R476).
Assumption log: 138 (DEDUCED). -/
def State.resetMerge (s : State) : State :=
  let tops := s.sel.tops
  let pays := s.sel.pays.filter PayJob.direct
  let s := (s.resetRange 0xF00071000000 0xF000710017FF).mergeReset
  let s := tops.foldl (fun s j => s.failSearch j.unit j.r j.merge j.shard j.k j.flags E_CANCELLED) s
  pays.foldl (fun s j => s.answerWith j.unit j.r j.flags E_CANCELLED 0 0 0 []) s

/-- The tables engine.
Assumption log: 138 (DEDUCED). -/
def State.resetTables (s : State) : State :=
  let eps := (List.range 256).flatMap fun t => [F.TBL_EPOCH_ACTIVE t, F.TBL_EPOCH_SWITCHING t]
  ((s.resetRegs 0xF00072000000 0xF00072002FFF eps).tblReset).showOn 256 F.TBL_CTL_EN F.TBL_CTL_STATE

/-- The text unit. -/
def State.resetText (s : State) : State :=
  ((s.resetRange 0xF00073000000 0xF0007300FFFF).textReset).showOn 16 F.TXT_GRAM_CTL_EN F.TXT_GRAM_CTL_STATE

/-- The movers, their timers and watches. -/
def State.resetMov (s : State) : State := (s.resetRange 0xF00060000000 0xF00060001FFF).movReset

/-- The CRC units and the parity engine. -/
def State.resetCheck (s : State) : State :=
  ((s.resetRange 0xF00061000000 0xF000610007FF).resetRange 0xF00062000000 0xF0006200002F).parReset

/-- The traffic unit; its own registers stay (R428), the accounts are cleared (R423, R425).
Assumption log: 137 (DESIGN CHOICE). -/
def State.resetTraffic (s : State) : State := (s.resetRange 0xF00080000000 0xF00080017FFF).tsReset

/-- The stack window that a node offset lies in. -/
def stackAt (a : Nat) : Option Nat := if a < 0x001000000000 then none else some ((a - 0x001000000000) / 0x800000000)

/-- Whether a scope covers a unit that seals or rebuilds with a buffer use (R484, R491).
Assumption log: 139 (DEDUCED). -/
def State.hitsSeal (s : State) (scope inst buf : Nat) : Bool :=
  scope == 7 || scope == 14 || (scope == 3 && stackAt buf == some inst) ||
    (scope == 5 && (match s.epochs.group with
      | some g => g.carrier / 4 == inst
      | none => false))

/-- A running seal fails and rebuilds end as INTERRUPTED where the scope covers what they use.
Assumption log: 139 (DEDUCED). -/
def State.resetRecovery (s : State) (scope inst : Nat) : State :=
  let s := if s.hitsSeal scope inst s.sealBase then s.sealReset else s
  recSlots.foldl (fun s k => if s.hitsSeal scope inst (s.recSlot k).buf then s.recInterrupt k else s) s

/-- The units of a scope are reset.
Assumption log: 136 (DEDUCED). -/
def State.resetScope (s : State) (scope inst : Nat) : State :=
  let s := s.resetRecovery scope inst
  match scope with
  | 1 => s.resetTiles [inst]
  | 2 => s.resetTiles (s.panelTiles inst)
  | 3 => s.resetStack inst
  | 4 => s.resetTier
  | 5 => s.resetFlash inst
  | 6 => s.resetPort
  | 7 => s.resetSko
  | 8 => s.resetTraffic
  | 9 => s.resetSearch
  | 10 => s.resetMerge
  | 11 => s.resetTables
  | 12 => s.resetText
  | 13 => s.resetMov
  | _ => s.resetCheck

/-- Whether a scope has an instance.
Assumption log: 23 (DEDUCED). -/
def State.scopeOk (s : State) (scope inst : Nat) : Bool :=
  match scope with
  | 1 => decide (inst < 672)
  | 2 => decide (inst < 64)
  | 3 => decide (inst < s.nStacks)
  | 5 => decide (inst < s.nFio)
  | _ => decide (scope ≤ 14)

/-! The node reset (R475). -/

/-- A carrier that a node reset leaves in its socket: its contents stay, its work is gone.
Assumption log: 142 (DEDUCED). -/
def CarrierSt.afterReset (x : CarrierSt) : CarrierSt :=
  { x with ops := [], running := 0, credit := 0, tierUsed := [], openSb := none }

/-- The reset value of CAP_W on a variant, by its stacks and flash I/O dies (R524). -/
def capReset (n dies : Nat) : Nat := if 12 ≤ n then (if 2 ≤ dies then 1650 else 1600) else if 2 ≤ dies then 1500 else 1450

/-- The state that a node reset leaves, with what outlives it: time, the free values, the identity, the carriers, the frames already
sent, the variant and the straps (R475, R476).
Assumption log: 142 (DEDUCED). -/
def State.cleared (s : State) (ctr : Nat) (sec : SecSt) (fl : List (Nat × CarrierSt)) : State :=
  let t := { State.reset with
    pending := s.pending, now := s.now, freeCtr := ctr, sec := sec, fl := fl
    port := { sent := s.port.sent, pfcSent := s.port.pfcSent } }
  let t := t.setReg Reg.NCTL_ID (s.reg Reg.NCTL_ID)
  let t := (t.set F.NCTL_PWR_CAP_CAP_W (capReset t.nStacks t.nFio)).set F.NCTL_BOOT_STRAP (s.get F.NCTL_BOOT_STRAP)
  { t with ctl := { t.ctl with boot := { t0 := s.now } } }

/-- The whole node returns to its reset state. The variant, the straps as latched, the fuses, the board identity module and the carriers stay.
Assumption log: 142 (DEDUCED). -/
def State.nodeReset (s : State) : State :=
  let r := s.secReset
  let u := (r.flReset 0 true).flReset 1 true
  s.cleared u.freeCtr r.sec ((u.fl.map fun (e : Nat × CarrierSt) => (e.1, e.2.afterReset)).filter fun (e : Nat × CarrierSt) =>
    e.2 != ({} : CarrierSt))

/-! Asking for a reset (R473, R477, R493, R500). -/

/-- NCTL_RESET.LAST_RESULT, replaced.
Assumption log: 141 (DEDUCED). -/
def State.resetResult (s : State) (v : Nat) : State := s.set F.NCTL_RESET_LAST_RESULT v

/-- A scoped reset begins.
Assumption log: 141 (DEDUCED). -/
def State.beginReset (s : State) (scope inst : Nat) (req : Option Req) : State :=
  let s := (s.resetResult 0).setBit F.NCTL_RESET_BUSY true
  { s with ctl := { s.ctl with reset := some { scope := scope, inst := inst, req := req, at_ := s.now } } }.resetScope scope inst

/-- NCTL_RESET with GO.
Assumption log: 136 (DEDUCED). -/
def State.resetGo (s : State) (scope inst : Nat) : State :=
  if scope = 0 then s.nodeReset
  else if !s.scopeOk scope inst then s.resetResult 2
  else if s.ctl.reset.isSome then s.resetResult 1
  else s.beginReset scope inst none

/-- SCOPED_RESET: NCTL_RESET.GO with a scope and an instance (R475). -/
def execScopedReset (scope inst : Nat) (s : State) : Res := s.live <| .next (s.resetGo (scope % 16) (inst % 1024))

/-- NODE_RESET (R475). -/
def execNodeReset (s : State) : Res := s.live <| .next s.nodeReset

/-- The bound of a reset in beats (R477). -/
def resetBeats (scope : Nat) : Nat := if scope = 3 ∨ scope = 5 then 64 else 4

/-- The reset under way is complete: its event, and the answer to the CONTROL that asked for it (R477, R493).
Assumption log: 136 (DEDUCED). -/
def State.resetDone (s : State) : State :=
  match s.ctl.reset with
  | none => s
  | some r =>
    let s := { s with ctl := { s.ctl with reset := none } }.setBit F.NCTL_RESET_BUSY false
    let s := s.raise EV_RESET_DONE 0 [r.scope, r.inst]
    match r.req with
    | some q => s.answer U_NCTL q E_NONE
    | none => s

/-- RESET_DONE (R477). -/
def execResetDone (s : State) : Res := s.live <| .next s.resetDone

/-- A CONTROL RESET; an OP that is none of R493 is answered here as well.
Assumption log: 141 (DEDUCED). -/
def State.controlReset (s : State) (r : Req) : State :=
  let b := r.payload
  let scope := at_ b 1 1
  let inst := at_ b 2 2
  if at_ b 0 1 ≠ 1 ∨ !(scope == 0 || s.scopeOk scope inst) then s.answer U_NCTL r E_MALFORMED
  else if scope = 0 then s.nodeReset
  else if s.ctl.reset.isSome then (s.resetResult 1).answer U_NCTL r E_CAPACITY
  else s.beginReset scope inst (some r)

/-- CONTROL_RESET (R493). -/
def execControlReset (ring : Nat) (s : State) : Res := s.live <|
  onUnit (ring < 8192) (s.control ring (fun op => !(decide (2 ≤ op) && decide (op ≤ 6))) State.controlReset)

end Sys2Proof.Machine
end

