-- ==== Sys2Proof/Machine/Startup.lean ====
section
/-! DEFINITION. Reset pins, clocks, the phases of startup, carrier boot, the boot save, power and temperature (R503 to R518). -/

namespace Sys2Proof.Machine

/-- The startup state, replaced. -/
def State.setBoot (s : State) (b : BootSt) : State := { s with ctl := { s.ctl with boot := b } }

/-- A big-endian number of a byte string. -/
def beNat (b : List Byte) : Nat := leNat b.reverse

/-! Pins and clocks (R503 to R507). -/

/-- RESET_INPUT: RESET_N or PWR_OK is low for a number of ns. Below 1 µs the pulse is ignored, from 10 µs it takes effect, and in between
whether it does is a free value (R507).
Assumption log: 159 (DESIGN CHOICE). -/
def State.resetInput (s : State) (ns : Nat) : State :=
  let go := decide (10000 ≤ ns) || (decide (1000 ≤ ns) && s.free % 2 == 1)
  let s := if 1000 ≤ ns ∧ ns < 10000 then s.nextFree else s
  if go then
    let t := s.nodeReset
    t.setBoot { t.ctl.boot with low := true }
  else s

/-- RESET_INPUT (R504, R507). -/
def execResetInput (ns : Nat) (s : State) : Res := s.told (.next (s.resetInput ns))

/-- RESET_RELEASE: RESET_N rises, the straps are sampled and the ROM phase begins (R507, R511). -/
def State.resetRelease (s : State) (straps : Nat) : State :=
  if !s.ctl.boot.low then s
  else (s.setBoot { s.ctl.boot with low := false, t0 := s.now }).set F.NCTL_BOOT_STRAP straps

/-- RESET_RELEASE (R511). -/
def execResetRelease (straps : Nat) (s : State) : Res := s.told (.next (s.resetRelease straps))

/-- CLOCK_LOSS: REFCLK_SYS leaves its tolerance and every internal clock stops until the next node reset (R506). -/
def execClockLoss (s : State) : Res :=
  s.told (.next (if s.ctl.boot.low then s else s.setBoot { s.ctl.boot with stopped := true }))

/-! The phases (R511). -/

def BP_ROM : Nat := 0
def BP_IDENTITY : Nat := 1
def BP_MEMORY : Nat := 2
def BP_CARRIERS : Nat := 3
def BP_CARRIER_IMAGE : Nat := 4
def BP_NETWORK : Nat := 5
def BP_READY : Nat := 6
def BP_HALTED : Nat := 7

/-- The phase in progress. -/
def State.phaseNow (s : State) : Nat := s.get F.NCTL_BOOT_STATE
/-- The phase in progress, replaced. -/
def State.setPhase (s : State) (p : Nat) : State := s.set F.NCTL_BOOT_STATE p

/-- The node halts for a reason, with the port disabled (R512). -/
def State.haltBoot (s : State) (reason : Nat) : State := ((s.setPhase BP_HALTED).set F.NCTL_BOOT_REASON reason).portDisable

/-- The fields of a Skorath record, from at least its first 36 bytes (R374, R509). -/
def skoRecordOf (b : List Byte) : SkoRecord :=
  let m := at_ b 0 1
  { mode := m, node := at_ b 2 2, dport := at_ b 4 2, sportBase := at_ b 6 2, ethertype := at_ b 8 2, gwMac := at_ b 10 6,
    ipPfx := if m = 1 then beNat ((b.drop 16).take 4) else beNat ((b.drop 16).take 16), macPfx := at_ b 32 4,
    ctrlNode := (List.range 4).map fun i => at_ b (36 + 2 * i) 2, dscp := (List.range 8).map fun c => at_ b (44 + c) 1 % 64,
    delivery := (List.range 64).map fun i => (at_ b (256 + 4 * i) 2, at_ b (256 + 4 * i + 2) 1) }

/-- Whether a boot record is present: its MAGIC, FORMAT and CRC (R509). -/
def bootRecordOk (b : List Byte) : Bool :=
  b.length == 128 && b.take 4 == [0x4F, 0x42, 0x54, 0x52] && at_ b 4 2 == 1 && at_ b 124 4 == crc32c (b.take 124)

/-- The rail record's entries; none where it is not valid (R510). -/
def railsOf (b : List Byte) : List RailEnt :=
  let n := at_ b 5 1
  if b.length = 268 ∧ b.take 4 = [0x4F, 0x52, 0x41, 0x4C] ∧ at_ b 4 1 = 1 ∧ 1 ≤ n ∧ n ≤ 32 ∧ at_ b 264 4 = crc32c (b.take 264) then
    (List.range n).map fun i =>
      { rail := at_ b (8 + 8 * i) 1, addr := at_ b (9 + 8 * i) 1 % 128, page := at_ b (10 + 8 * i) 1, inSum := at_ b (11 + 8 * i) 1 % 2 == 1 }
  else []

/-- NETWORK: the port and Skorath are enabled from the boot record, without which the node halts (R512, R514).
Assumption log: 161 (DEDUCED), 163 (DESIGN CHOICE). -/
def State.bootNetwork (s : State) : State :=
  let b := s.ctl.boot.record
  if b.isEmpty then s.haltBoot 1
  else
    let s := (s.setPhase BP_NETWORK).set F.PORT_CFG_MODE (at_ b 6 1)
    let s := (s.set F.PORT_VLAN_TAGGED (at_ b 7 1 % 2)).set F.PORT_VLAN_ACCEPT_UNTAGGED (at_ b 7 1 / 2 % 2)
    let s := (s.set F.PORT_MAC_ADDR (at_ b 8 6)).set F.PORT_VLAN_VID (at_ b 14 2 % 4096)
    { s with sko := { s.sko with recd := { skoRecordOf ((b.drop 16).take 36) with ctrlNode := [], delivery := [] }, enabled := true } }.portEnable

/-- Whether carrier boot may still find a slot on a carrier: it is on its way to service, or in service (R513).
Assumption log: 162 (DEDUCED). -/
def State.bootable (s : State) (c : Nat) : Bool :=
  [CS_IDENTIFYING, CS_MOUNTING, CS_ONLINE, CS_READ_ONLY].contains (s.carState c)

/-- Carrier boot goes on with the lowest carrier from `c` upwards that may have a slot; after the last one the straps decide (R512, R513). -/
def State.bootFrom (s : State) (c : Nat) : State :=
  match (rangeFrom c (s.nCarriers - c)).find? s.bootable with
  | some k => (s.setBoot { s.ctl.boot with tried := k }).setPhase BP_CARRIERS
  | none =>
    let why := if s.ctl.boot.rejected then 3 else 2
    if s.get F.NCTL_BOOT_STRAP = 0 then (s.set F.NCTL_BOOT_REASON why).bootNetwork else s.haltBoot why

/-- The map cache region that the boot ROM gives a carrier (R513). -/
def State.bootCache (s : State) (c : Nat) : State :=
  (s.set (F.FL_CAR_MAPC_BASE_64K c) ((0x0017E0000000 + c * 0x4000000) / 65536)).set (F.FL_CAR_MAPC_SIZE_MIB c) 64

/-- CARRIERS begins: present carriers power up, and the boot source decides what follows (R511 to R513).
Assumption log: 162 (DEDUCED). -/
def State.bootCarriers (s : State) : State :=
  let cs := List.range s.nCarriers
  let s := cs.foldl State.bootCache (s.setPhase BP_CARRIERS)
  let s := cs.foldl (fun (s : State) c => if (s.car c).present ∧ s.carState c = CS_ABSENT then s.setCarState c CS_IDENTIFYING else s) s
  if s.get F.NCTL_BOOT_STRAP = 1 then s.bootNetwork else s.bootFrom 0

/-- What the end of IDENTITY or of MEMORY leads to.
Assumption log: 161 (DEDUCED). -/
def State.bootNext (s : State) : State :=
  let b := s.ctl.boot
  if b.idDone ∧ b.memDone then s.bootCarriers else s.setPhase (if b.idDone then BP_MEMORY else BP_IDENTITY)

/-- ROM_PHASE_DONE: the fuses are read and M0 is extended (R455, R461, R511). Fuses once known do not change.
Assumption log: 130 (DEDUCED). -/
def State.romDone (s : State) (keys : List (List Byte × Nat)) : State :=
  if s.phaseNow ≠ BP_ROM then s
  else
    let s := if s.sec.slots.isEmpty then { s with sec := { s.sec with slots := (keys.take 4).map fun k => { key := k.1, mask := k.2 % 4 } } } else s
    s.showFuses.extendM0.setPhase BP_IDENTITY

/-- ROM_PHASE_DONE (R511). -/
def execRomPhaseDone (keys : List (List Byte × Nat)) (s : State) : Res := s.live <| .next (s.romDone keys)

/-- IDENTITY_PHASE_DONE: the records of the board identity module are read; an empty string is a region that could not be read (R452, R508 to
R511). -/
def State.identityDone (s : State) (helper copyA copyB rail boot : List Byte) : State :=
  if s.phaseNow ≠ BP_IDENTITY ∨ s.ctl.boot.idDone then s
  else
    let s := (s.identify helper copyA copyB).extendM1
    let s := s.setBoot { s.ctl.boot with idDone := true, rails := railsOf rail, record := if bootRecordOk boot then boot else [] }
    s.bootNext

/-- IDENTITY_PHASE_DONE (R452).
Assumption log: 129 (DESIGN CHOICE). -/
def execIdentityPhaseDone (helper copyA copyB rail boot : List Byte) (s : State) : Res := s.live <|
  .next (s.identityDone helper copyA copyB rail boot)

/-- A stack has been trained with its extended mode set (R511). -/
def State.stackTrained (s : State) (k : Nat) : State :=
  (s.setBit (F.STK_STATUS_TRAINED k) true).setBit (F.STK_STATUS_EXT_MODE k) true

/-- MEMORY_PHASE_DONE: stacks are trained, stack and bench memory is zeroed (R511).
Assumption log: 165 (DESIGN CHOICE). -/
def State.memoryDone (s : State) : State :=
  if !([BP_IDENTITY, BP_MEMORY].contains s.phaseNow) ∨ s.ctl.boot.memDone then s
  else
    let s := (List.range s.nStacks).foldl State.stackTrained { s with mem := [], ecc := [] }
    (s.setBoot { s.ctl.boot with memDone := true }).bootNext

/-- MEMORY_PHASE_DONE (R511). -/
def execMemoryPhaseDone (s : State) : Res := s.live <| .next s.memoryDone

/-! Carrier boot (R513). -/

/-- The first SYS block of the boot slot. -/
def bootSlot : Nat := 3145728
/-- The boot window. -/
def bootWindow : Nat := 0x001000000000

/-- The bytes of a boot slot are copied to the boot window, block by block; a block that cannot be read reads as zeros.
Assumption log: 162 (DEDUCED). -/
def State.copySlot (s : State) (x : CarrierSt) (len : Nat) : State :=
  let s := s.zeroBytes bootWindow len
  let s := { s with ecc := s.ecc.filter fun e => decide (e.1 + eccWord e.1 ≤ bootWindow) || decide (bootWindow + len ≤ e.1) }
  (x.blk.filter fun e => decide (bootSlot ≤ e.1) && decide ((e.1 - bootSlot) * 4096 < len) && !x.anyBad e.1 1).foldl
    (fun s e => s.putBytes (bootWindow + (e.1 - bootSlot) * 4096) ((padTo 4096 e.2).take (len - (e.1 - bootSlot) * 4096))) s

/-- The image header in a boot slot.
Assumption log: 162 (DEDUCED). -/
def CarrierSt.slotHeader (x : CarrierSt) : List Byte := if x.anyBad bootSlot 1 then zeros 64 else (x.block bootSlot).take 64

/-- A slot is rejected with a result of R71, and the next carrier is tried.
Assumption log: 171 (DEDUCED). -/
def State.bootReject (s : State) (c code : Nat) : State :=
  let s := s.raise EV_BOOT_SLOT_REJECTED c [c, code]
  (s.setBoot { s.ctl.boot with rejected := true }).bootFrom (c + 1)

/-- The slot of a carrier in service is read, staged and, where it passes, loaded. -/
def State.bootTry (s : State) (c : Nat) : State :=
  let x := s.car c
  let h := x.slotHeader
  let len := at_ h 16 8
  if !headerOk h len ∨ 2 ^ 32 < len then s.bootFrom (c + 1)
  else
    let s := (s.setPhase BP_CARRIER_IMAGE).copySlot x len
    let r := s.checkImage bootWindow len
    if r.1 = IR_OK then (r.2.2.setStaged r.2.1).applyFull
    else ((r.2.2.imgResult r.1).raise EV_IMAGE_REJECTED 0 []).bootReject c r.1

/-- BOOT_SLOT_READ_DONE: carrier boot looks at the carrier it has come to. One that is not yet in service is waited for. -/
def State.bootSlotRead (s : State) : State :=
  let c := s.ctl.boot.tried
  if s.phaseNow ≠ BP_CARRIERS then s
  else if s.carState c = CS_ONLINE ∨ s.carState c = CS_READ_ONLY then s.bootTry c
  else if s.bootable c then s
  else s.bootFrom (c + 1)

/-- BOOT_SLOT_READ_DONE (R513). -/
def execBootSlotReadDone (s : State) : Res := s.live <| .next s.bootSlotRead

/-- BOOT_MOUNT_BOUND: a carrier still MOUNTING at its bound is given up. -/
def State.bootMountBound (s : State) : State :=
  if s.phaseNow = BP_CARRIERS ∧ s.carState s.ctl.boot.tried = CS_MOUNTING then s.bootFrom (s.ctl.boot.tried + 1) else s

/-- BOOT_MOUNT_BOUND (R513). -/
def execBootMountBound (s : State) : Res := s.live <| .next s.bootMountBound

/-! The boot save (R515). -/

/-- NCTL_BOOT_CTL.LAST_RESULT, replaced. -/
def State.saveResult (s : State) (r : Nat) : State := s.set F.NCTL_BOOT_CTL_LAST_RESULT r

/-- BOOT_SAVE: NCTL_BOOT_CTL.SAVE. The first block is zeroed first.
Assumption log: 164 (DEDUCED). -/
def State.bootSave (s : State) : State :=
  let c := s.get F.NCTL_BOOT_CTL_CARRIER
  match s.ctl.boot.save, s.img.active with
  | some _, _ => s.saveResult 1
  | none, none => s.saveResult 2
  | none, some i =>
    if s.carState c ≠ CS_ONLINE ∨ 2 ^ 32 < i.len then s.saveResult 2
    else
      let s := (s.flWrite c bootSlot 1 (zeros 4096)).saveResult 0
      (s.setBoot { s.ctl.boot with save := some c }).setBit F.NCTL_BOOT_CTL_SAVE_BUSY true

/-- BOOT_SAVE (R515). -/
def execBootSave (s : State) : Res := s.live <| .next s.bootSave

/-- The image is written from its second block onwards, its first block last.
Assumption log: 164 (DEDUCED). -/
def State.saveImage (s : State) (c : Nat) (i : Image) : State :=
  let x := s.loadAcross i.addr i.len
  if x.code ≠ E_NONE then x.st.saveResult 3
  else
    let n := (i.len + 4095) / 4096
    ((x.st.flWrite c (bootSlot + 1) (n - 1) (x.data.drop 4096)).flWrite c bootSlot 1 (x.data.take 4096)).saveResult 0

/-- BOOT_SAVE_DONE: the save ends; after a failed write, or with the carrier gone, the slot stays empty.
Assumption log: 164 (DEDUCED). -/
def State.bootSaveDone (s : State) (ok : Bool) : State :=
  match s.ctl.boot.save with
  | none => s
  | some c =>
    let s := (s.setBoot { s.ctl.boot with save := none }).setBit F.NCTL_BOOT_CTL_SAVE_BUSY false
    match s.img.active with
    | some i => if ok ∧ s.carState c = CS_ONLINE then s.saveImage c i else s.saveResult 3
    | none => s.saveResult 3

/-- BOOT_SAVE_DONE (R515). -/
def execBootSaveDone (ok : Bool) (s : State) : Res := s.live <| .next (s.bootSaveDone ok)

/-! PMBus (R501, R510). -/

/-- The range of a rail, in tenths of a mV.
Assumption log: 166 (DESIGN CHOICE). -/
def railRange (r : Nat) : Nat × Nat :=
  match r with
  | 4 => (7760, 8240)
  | 5 => (10185, 10815)
  | 7 => (17100, 18900)
  | 8 => (7760, 8240)
  | 9 => (8820, 9180)
  | 10 => (11640, 12360)
  | 11 => (7760, 8240)
  | 12 => (5700, 6300)
  | 13 => (17100, 18900)
  | _ => (7275, 7725)

/-- A poll's outcome for one regulator: one that has not answered three times in a row is reported once until it answers. -/
def State.pollEntry (s : State) (i : Nat) (ans : Bool) : State :=
  match s.ctl.boot.rails[i]? with
  | none => s
  | some e =>
    let missed := if ans then 0 else min 3 (e.missed + 1)
    let fail := decide (missed = 3)
    let e' := { e with missed := missed, raised := fail }
    let s' := s.setBoot { s.ctl.boot with rails := s.ctl.boot.rails.set i e' }
    if fail && !e.raised then s'.raise EV_PMBUS_FAIL 0 [] else s'

/-- A rail's report from the readings (mV, A, °C) of its regulators; which of several regulators gives VOUT_MV is a free value.
Assumption log: 166 (DESIGN CHOICE). -/
def State.railShow (s : State) (r : Nat) (rs : List (Nat × Nat × Nat)) : State :=
  let v := ((rs.map Prod.fst).getD (s.free % rs.length) 0)
  let s := (s.nextFree).set (F.NCTL_RAIL_VOUT_MV r) (min v 65535)
  let s := s.set (F.NCTL_RAIL_IOUT_A r) (min (rs.map fun x => x.2.1).sum 65535)
  let s := s.set (F.NCTL_RAIL_TEMP_C r) (min ((rs.map fun x => x.2.2).foldl max 0) 255)
  let out := rs.any fun x => decide (10 * x.1 < (railRange r).1) || decide ((railRange r).2 < 10 * x.1)
  let was := smGet (fun _ => false) s.ctl.boot.railOut r
  let s := s.setBoot { s.ctl.boot with railOut := smPut (fun _ => false) s.ctl.boot.railOut r out }
  if out && !was then (s.setBit (F.NCTL_RAIL_OUT_RANGE r) true).raise EV_RAIL_OUT_OF_RANGE 0 [] else s

/-- A rail after a poll: its last values stay where a regulator of its did not answer.
Assumption log: 166 (DESIGN CHOICE). -/
def State.pollRail (s : State) (readings : List (Option (Nat × Nat × Nat))) (r : Nat) : State :=
  let mine := ((s.ctl.boot.rails.zip readings).filter fun e => e.1.rail == r).map Prod.snd
  let got := mine.filterMap id
  if mine.isEmpty then s
  else if got.length < mine.length then s.setBit (F.NCTL_RAIL_VALID r) false
  else (s.setBit (F.NCTL_RAIL_VALID r) true).railShow r got

/-- A poll of every regulator of the rail record: READ_VOUT in mV, READ_IOUT in A, READ_TEMPERATURE_1 in °C, or no answer.
Assumption log: 168 (DEDUCED), 169 (DESIGN CHOICE). -/
def State.pmbusPoll (s : State) (readings : List (Option (Nat × Nat × Nat))) : State :=
  let rd := (List.range s.ctl.boot.rails.length).map fun i => readings.getD i none
  let s := rd.zipIdx.foldl (fun (s : State) e => s.pollEntry e.2 e.1.isSome) s
  (List.range 14).foldl (fun (s : State) r => s.pollRail rd r) s

/-- PMBUS_POLL (R510). -/
def execPmbusPoll (readings : List (Option (Nat × Nat × Nat))) (s : State) : Res := s.live <| .next (s.pmbusPoll readings)

/-- PMBUS_ALERT: the node polls at once (R507). -/
def execPmbusAlert (readings : List (Option (Nat × Nat × Nat))) (s : State) : Res := s.live <| .next (s.pmbusPoll readings)

/-! Power and temperature (R516 to R518). -/

/-- The index of the first largest number of a list. -/
def argMax (l : List Nat) : Nat := (l.zipIdx.find? fun e => e.1 == l.foldl max 0).elim 0 Prod.snd

/-- The readings of the sensors, by die and by stack, in their registers. -/
def State.showTemps (s : State) (dies stks : List Nat) : State :=
  let hot := min (dies.foldl max 0) 255
  let s := (s.set F.NCTL_THERM_HOT_C hot).set F.NCTL_THERM_HOT_DIE (argMax dies)
  let s := s.set F.NCTL_THERM_STK_HOT_C (min (stks.foldl max 0) 255)
  let s := s.set F.NCTL_THERM_PEAK_C (max (s.get F.NCTL_THERM_PEAK_C) hot)
  stks.zipIdx.foldl (fun (s : State) e => s.set (F.STK_STATUS_TEMP_C e.2) (min e.1 255)) s

/-- The dies and stacks that the part has. -/
def State.sensors (s : State) (dies stks : List Nat) : List Nat × List Nat := (dies.take (9 + s.nFio), stks.take s.nStacks)

/-- The level after a raise to `n`, with its cause (R517, R518).
Assumption log: 167 (DEDUCED). -/
def State.raiseLevel (s : State) (n : Nat) (power therm : Bool) : State :=
  if n ≤ s.get F.NCTL_THROTTLE_LEVEL then s
  else
    let s := ((s.set F.NCTL_THROTTLE_LEVEL n).setBit F.NCTL_THROTTLE_POWER power).setBit F.NCTL_THROTTLE_THERMAL therm
    let s := s.bump F.NCTL_THROTTLE_RAISES 1
    if n = 7 ∧ !s.ctl.boot.pwrRaised then (s.setBoot { s.ctl.boot with pwrRaised := true }).raise EV_PWR_THROTTLE 0 [] else s

/-- The level after a fall (R517).
Assumption log: 167 (DEDUCED). -/
def State.lowerLevel (s : State) : State :=
  let n := s.get F.NCTL_THROTTLE_LEVEL - 1
  let s := (s.set F.NCTL_THROTTLE_LEVEL n).setBoot { s.ctl.boot with calm := 0 }
  if n = 0 then s.setBoot { s.ctl.boot with pwrRaised := false } else s

/-- POWER_EVALUATION: average package power in W and the sensors' readings in °C (R517).
Assumption log: 169 (DESIGN CHOICE). -/
def State.powerEval (s : State) (watts : Nat) (dies stks : List Nat) : State :=
  let t := s.sensors dies stks
  let s := (s.set F.NCTL_PWR_CAP_PKG_W (min watts 65535)).showTemps t.1 t.2
  let cap := s.get F.NCTL_PWR_CAP_CAP_W
  let hy := s.get F.NCTL_PWR_CAP_HYST
  let lt := s.get F.NCTL_THERM_CFG_THROT_T
  let ls := s.get F.NCTL_THERM_CFG_STK_THROT_T
  let hot := t.1.any (fun x => decide (lt ≤ x)) || t.2.any (fun x => decide (ls ≤ x))
  let above := decide (cap < watts)
  if s.bit F.NCTL_THERM_ALERT then s.setBoot { s.ctl.boot with calm := 0 }
  else if above || hot then
    (s.setBoot { s.ctl.boot with calm := 0 }).raiseLevel (min 7 (s.get F.NCTL_THROTTLE_LEVEL + 1)) above hot
  else if watts * 256 < cap * (256 - hy) ∧ t.1.all (fun x => decide (x + 5 ≤ lt)) ∧ t.2.all (fun x => decide (x + 5 ≤ ls)) then
    let s := s.setBoot { s.ctl.boot with calm := min 8 (s.ctl.boot.calm + 1) }
    if 8 ≤ s.ctl.boot.calm ∧ 0 < s.get F.NCTL_THROTTLE_LEVEL then s.lowerLevel else s
  else s.setBoot { s.ctl.boot with calm := 0 }

/-- POWER_EVALUATION (R517). -/
def execPowerEvaluation (watts : Nat) (dies stks : List Nat) (s : State) : Res := s.live <| .next (s.powerEval watts dies stks)

/-- THERMAL_ALERT: a sensor has reached its alert point (R518).
Assumption log: 167 (DEDUCED), 168 (DEDUCED). -/
def State.thermalAlert (s : State) (dies stks : List Nat) : State :=
  let t := s.sensors dies stks
  let hit := t.1.any (fun x => decide (s.get F.NCTL_THERM_CFG_ALERT_T ≤ x)) || t.2.any fun x => decide (s.get F.NCTL_THERM_CFG_STK_ALERT_T ≤ x)
  let s := s.showTemps t.1 t.2
  if !hit ∨ s.bit F.NCTL_THERM_ALERT then s
  else ((s.setBit F.NCTL_THERM_ALERT true).raiseLevel 7 false true).raise EV_THERM_ALERT 0 []

/-- THERMAL_ALERT (R518). -/
def execThermalAlert (dies stks : List Nat) (s : State) : Res := s.live <| .next (s.thermalAlert dies stks)

/-- THERMAL_ALERT_RELEASE: every sensor is 5 °C below its alert point (R518). -/
def State.thermalRelease (s : State) (dies stks : List Nat) : State :=
  let t := s.sensors dies stks
  let cool := t.1.all (fun x => decide (x + 5 ≤ s.get F.NCTL_THERM_CFG_ALERT_T)) &&
    t.2.all fun x => decide (x + 5 ≤ s.get F.NCTL_THERM_CFG_STK_ALERT_T)
  let s := s.showTemps t.1 t.2
  if cool then s.setBit F.NCTL_THERM_ALERT false else s

/-- THERMAL_ALERT_RELEASE (R518). -/
def execThermalAlertRelease (dies stks : List Nat) (s : State) : Res := s.live <| .next (s.thermalRelease dies stks)

end Sys2Proof.Machine
end

