-- ==== Sys2Proof/Machine/CtlRead.lean ====
section
/-! DEFINITION. Reads of the control window (R16 to R18, R525 to R531): the registers whose values are read out of the units' state. -/

namespace Sys2Proof.Machine

/-- The index of the copy of a register that an offset names. -/
def copyOf (base stride n off : Nat) : Option Nat :=
  if base ≤ off ∧ (off - base) % stride = 0 ∧ (off - base) / stride < n then some ((off - base) / stride) else none

/-- A word of fields: low bit, width, value. -/
def wordOf (fs : List (Nat × Nat × Nat)) : Nat := (fs.map fun f => f.2.2 % 2 ^ f.2.1 * 2 ^ f.1).sum

/-- 1 for true. -/
def b2n (b : Bool) : Nat := if b then 1 else 0

/-- Beat registers (R56). -/
def State.peekBeat (s : State) (o : Nat) : Option Nat :=
  if o = Reg.BEAT_NOW then some (wordOf [(0, 48, s.beatNow), (48, 13, s.phase), (63, 1, b2n s.beat.valid)])
  else if o = Reg.BEAT_STATUS then
    some (wordOf [(0, 3, s.beat.state.code), (3, 1, b2n s.beat.frozen), (8, 9, s.get F.BEAT_STATUS_ARMED),
      (32, 32, unsigned 32 (sat32 s.beat.offset))])
  else if o = Reg.BEAT_HOLD then some (wordOf [(0, 32, s.holdEst), (32, 32, min (s.measAge / 1000000) (2 ^ 32 - 1))])
  else if o = Reg.BEAT_STEP then some (unsigned 64 s.beat.step)
  else none

/-- Image registers: PREVIOUS and CLOSE_BEAT read 0 while no window is open (R89). -/
def State.peekImg (s : State) (o : Nat) : Option Nat :=
  if o = Reg.IMG_MAP then some (wordOf [(0, 32, s.mapEpoch), (32, 32, if s.windowOpen then s.get F.IMG_MAP_PREVIOUS else 0)])
  else if o = Reg.IMG_DOVE then some (wordOf [(0, 1, b2n s.windowOpen), (16, 48, if s.windowOpen then s.get F.IMG_DOVE_CLOSE_BEAT else 0)])
  else none

/-- Tokens of a ring. -/
def State.depthOf (s : State) (r : Nat) : Nat := (s.ring r).tokens.length

/-- Registers of a tile that its state decides, by offset within its block (R126, R147). Cycle counts are free values.
Assumption log: 25 (DESIGN CHOICE), 28 (DESIGN CHOICE). -/
def State.peekTile (s : State) (t o : Nat) : Option Nat :=
  let x := s.tile t
  let d := (x.chain.map Chain.desc).getD 0
  if o = 0 then
    let q := (x.watches.mapIdx fun w r => if 0 < s.depthOf r then 2 ^ w else 0).sum
    some (wordOf [(0, 3, s.get (F.TILE_STATUS_STATE t)), (8, 6, s.get (F.TILE_STATUS_PANEL t)), (16, 8, q), (24, 10, d)])
  else if o = 0x808 then
    some (wordOf [(0, 1, b2n x.halted), (1, 10, if x.halted then d else 0), (32, 32, (x.chain.map Chain.reqId).getD 0)])
  else if o = 0x200 ∨ o = 0x208 then some (Config.freeValue s.freeCtr)
  else
    match copyOf 0x180 8 8 o, copyOf 0x10000 8 8192 o with
    | some w, _ =>
      match x.watches[w]? with
      | some r => some (wordOf [(0, 13, r), (13, 1, 1), (16, 7, s.depthOf r)])
      | none => some 0
    | none, some j =>
      match x.halted, x.vreg with
      | true, some k => some (wordOf [(0, 32, Config.vectorLane k (2 * j)), (32, 32, Config.vectorLane k (2 * j + 1))])
      | _, _ => some 0
    | none, none => none

/-- The selected page (R198). -/
def State.peekTier (s : State) (o : Nat) : Option Nat :=
  if o = Reg.TIER_PAGE_INFO then
    let p := s.get F.TIER_PAGE_SEL_PAGE
    let g := s.page p
    let framed := g.st == 1 || g.st == 4
    let ext := g.st == 2 || g.st == 3 || g.st == 5
    if s.get F.TIER_CFG_EXTENT ≤ p then some 0
    else
      some (wordOf [(0, 3, g.st), (3, 1, b2n (s.pinned p)), (4, 1, b2n (s.inSlot p)), (8, 8, g.heat), (16, 4, if framed then g.stack else 0),
        (20, 20, if framed then g.frame else 0), (40, 5, if ext then g.blocks else 0), (45, 3, if ext then g.carrier else 0),
        (48, 2, if ext then g.fmt else 0)])
  else none

/-- The selected merge buffer (R274). -/
def State.peekSel (s : State) (o : Nat) : Option Nat :=
  if o = Reg.SEL_BUF_INFO then
    let b := s.get F.SEL_BUF_SEL_BUF
    let x : MergeBuf := smGet (fun _ => {}) s.sel.bufs b
    if s.get F.SEL_BUF_CFG_COUNT ≤ b then some 0
    else some (wordOf [(0, 2, x.st), (16, 11, (x.places.filterMap Prod.snd).length), (32, 32, if x.st = 0 then 0 else x.reqId)])
  else none

/-- Stream slots (R324). -/
def State.peekTxt (s : State) (o : Nat) : Option Nat :=
  match copyOf (Reg.TXT_STREAM_INFO 0) 8 4096 o with
  | none => none
  | some n =>
    match s.stream n with
    | none => some (wordOf [(2, 2, n)])
    | some x =>
      some (wordOf [(0, 2, if x.awaiting.isSome || x.fetching then 2 else 1), (2, 2, n), (4, 4, x.grammar.getD 0), (8, 1, b2n x.grammar.isSome),
        (9, 7, x.gstack.length), (16, 16, x.gstate), (32, 16, min x.gen 65535), (48, 16, x.r.reqId)])

/-- Health records, and the mounted partition (R334, R350, R356). -/
def State.peekFl (s : State) (o : Nat) : Option Nat :=
  match copyOf 0xF00040100000 0x1000 8 (o - o % 0x1000) with
  | none => none
  | some c =>
    match copyOf 0x100 8 32 (o % 0x1000) with
    | some i => some (if s.mounted c then at_ ((s.car c).record (s.get (F.FL_CAR_STATUS_TEMP_C c))) (8 * i) 8 else 0)
    | none => if o % 0x1000 = 0x10 ∧ s.mounted c then some (s.car c).tierBlocks else none

/-- The port and the Skorath engine (R373, R405).
Assumption log: 27 (DEDUCED). -/
def State.peekNet (s : State) (o : Nat) : Option Nat :=
  if o = Reg.PORT_STATUS then some (setBitsAt (s.reg o).toNat 16 14 s.maxSdu)
  else if o = Reg.SKO_STATUS then
    let v := setBitsAt (setBitsAt (s.reg o).toNat 0 1 (b2n s.img.active.isSome)) 1 2 s.sko.recd.mode
    some (setBitsAt v 16 16 s.node)
  else if o = Reg.SKO_PEER_INFO then
    let n := s.get F.SKO_PEER_SEL_NODE
    let k := connKey n (s.get F.SKO_PEER_SEL_CLASS)
    let held := s.sko.tx.find? fun e => e.1 == k
    let rx := s.sko.rx.any fun e => e.1 == k
    some (wordOf [(0, 2, if s.sko.lostPeers.contains n then 2 else if held.isSome || rx then 1 else 0),
      (8, 16, match held with | some e => min e.2.unacked.length 65535 | none => 0),
      (32, 32, match held with | some e => e.2.rate | none => 0)])
  else none

/-- BOUND_NS of R418 at the current speed; 0 while the link is not UP. -/
def State.boundNs (s : State) : Nat :=
  if s.linkState = LK_UP then (1400000 + (18556 + s.get F.TS_EXP_EXP_BURST) * s.byteTime + 999) / 1000 else 0

/-- The traffic unit (R428). -/
def State.peekTs (s : State) (o : Nat) : Option Nat :=
  if o = Reg.TS_STATUS then
    let p := ((List.range 8).map fun c => if s.now < smGet (fun _ => 0) s.port.pauseUntil c then 2 ^ c else 0).sum
    some (wordOf [(0, 1, b2n s.ts.list.isSome), (1, 1, s.ts.list.getD 0), (2, 6, s.gateEntry), (8, 8, s.gatesOpen), (16, 8, p)])
  else if o = Reg.TS_BOUND then some (wordOf [(0, 32, s.boundNs), (32, 16, s.get F.TS_BOUND_EXPRESS_LATE)])
  else
    match copyOf (Reg.TS_Q_STAT 0) 8 8 o with
    | some c => some (wordOf [(0, 32, s.queued c), (32, 16, min (smGet (fun _ => []) s.ts.queue c).length 65535)])
    | none => none

/-- Telemetry: with VIEW set, the tenant counters, COUNT and SUM_NS read as captured (R426). -/
def State.peekTel (s : State) (o : Nat) : Option Nat :=
  if s.bit F.TEL_CTRL_VIEW ∧ snapped o then
    let c := smGet (fun _ => 0) s.tel.shadow o
    if (Reg.TEL_SHARD_KEY 0 ≤ o ∧ (o - Reg.TEL_SHARD_KEY 0) % 0x20 = 8) then some (setBitsAt (s.reg o).toNat 0 32 c) else some c
  else none

/-- The check-value units: bits at or above WIDTH read 0 (R441, R442, R451). -/
def State.peekChk (s : State) (o : Nat) : Option Nat :=
  match copyOf 0xF00061000000 0x80 16 (o - o % 0x80) with
  | none => none
  | some u =>
    if o % 0x80 = 0x38 then some (s.chkResult u)
    else if [0x08, 0x10, 0x18, 0x20, 0x40].contains (o % 0x80) then some (s.chkCut u (s.reg o).toNat)
    else none

/-- Measurements and their log (R465). -/
def State.peekSec (s : State) (o : Nat) : Option Nat :=
  match copyOf (Reg.SEC_MEAS 0 0) 8 32 o, copyOf (Reg.SEC_LOG_DATA 0) 8 6 o with
  | some i, _ => some (at_ (s.measure (i / 4)) (8 * (i % 4)) 8)
  | none, some w => some (at_ (s.sec.log.getD (s.get F.SEC_LOG_SEL_ENTRY) []) (8 * w) 8)
  | none, none => none

/-- The event ring (R470). -/
def State.peekEvt (s : State) (o : Nat) : Option Nat :=
  match copyOf (Reg.EVT_REC 0 0) 8 32768 o with
  | none => none
  | some i => some (at_ ((smGet (fun _ => {}) s.evt.ring (i / 8)).toBytes) (8 * (i % 8)) 8)

/-- The registers of absent stacks, flash dies and carriers (R2, R3, R198). -/
def State.absentReg (s : State) (o : Nat) : Bool :=
  (decide (0xF00020000000 ≤ o) && decide (o < 0xF00030000000) && decide (s.nStacks ≤ (o - 0xF00020000000) / 0x1000000)) ||
    (match copyOf (Reg.TIER_POOL 0) 8 12 o with | some k => decide (s.nStacks ≤ k) | none => false) ||
    (decide (0xF00040100000 ≤ o) && decide (o < 0xF00040108000) && decide (s.nCarriers ≤ (o - 0xF00040100000) / 0x1000))

/-- The value that a unit's state gives a register, where the register store does not hold it. -/
def State.peekUnit (s : State) (o : Nat) : Option Nat :=
  if o < 0xF00002000000 then s.peekBeat o
  else if o < 0xF00003000000 then s.peekImg o
  else if o < 0xF00020000000 then s.peekSec o
  else if o < 0xF00030000000 then none
  else if o < 0xF00040000000 then s.peekTier o
  else if o < 0xF00050000000 then s.peekFl o
  else if o < 0xF00052000000 then s.peekNet o
  else if o < 0xF00060000000 then s.peekTs o
  else if o < 0xF00070000000 then s.peekChk o
  else if o < 0xF00072000000 then s.peekSel o
  else if o < 0xF00080000000 then s.peekTxt o
  else if o < 0xF00090000000 then s.peekTel o
  else if o < 0xF000A0000000 then s.peekEvt o
  else s.peekTile ((o - 0xF000A0000000) / 0x100000) ((o - 0xF000A0000000) % 0x100000)

/-- The bits of a word that a read returns: all but reserved and write-only ones (R17, R18). -/
def RegDesc.shown (d : RegDesc) (v : Nat) : Nat :=
  (d.fields.map fun f => if f.acc = .wo ∨ f.acc = .hid then 0 else bitsAt v f.lo f.w * 2 ^ f.lo).sum

/-- What an offset of the control window reads as: a place in a listed range that names no register reads 0 (R526). -/
def State.ctlPeek (s : State) (off : Nat) : Nat :=
  let o := canonOff off
  match findReg o with
  | none => 0
  | some d => if s.absentReg o then 0 else d.shown ((s.peekUnit o).getD (s.reg o).toNat)

/-- The RC fields of a register cleared (R17). -/
def RegDesc.clearRc (d : RegDesc) (v : Nat) : Nat := d.fields.foldl (fun a f => if f.acc = .rc then setBitsAt a f.lo f.w 0 else a) v

/-- A read of a register: its value, and the state after it. A read of a cycle count takes a free value.
Assumption log: 25 (DESIGN CHOICE). -/
def State.ctlRead (s : State) (off : Nat) : Word × State :=
  let o := canonOff off
  let v := BitVec.ofNat 64 (s.ctlPeek off)
  match findReg o with
  | none => (v, s)
  | some d =>
    let t := if 0xF000A0000000 ≤ o ∧ (o % 0x100000 = 0x200 ∨ o % 0x100000 = 0x208) then s.nextFree else s
    if (d.fields.any fun f => f.acc == .rc) ∧ !s.absentReg o then (v, t.setReg o (BitVec.ofNat 64 (d.clearRc (s.reg o).toNat))) else (v, t)

end Sys2Proof.Machine
end

