-- ==== Sys2Proof/Machine/SearchOps.lean ====
section
/-! DEFINITION. The search operators of a tile (R133: PQ_TABLE, DENSE_SCAN, COARSE, RERANK, TOPK), and TILE_STEP, which runs any
operator once (R147). -/

namespace Sys2Proof.Machine

/-- A load's answer as an operator meets it. -/
def Acc.toOp (x : Acc) : OpAcc :=
  if x.code = E_NONE then { data := x.data, st := x.st } else { fault := .operand, code := x.code, st := x.st }

/-- Several slots' values, as elements of FP32. -/
def Operand.fvs (o : Operand) (n : Nat) : List FV := (List.range n).map o.elem

/-- PQ_TABLE: M, subcode width (0 four bits, 1 eight), D, metric, QSHIFT in P0 to P4; slot 0 the query, slot 1 the codebooks, slot 3 a centroid or
unused; the tables are written, then the bias in 4 bytes (R206, R207). -/
def opPqTable (s : State) (t : Nat) (c : Chain) (d : Desc) : OpAcc :=
  let m := d.par 0
  let words := if d.par 1 = 1 then 256 else 16
  let dim := d.par 2
  let metric := d.par 3
  let q := signed 32 (d.par 4)
  if !([8, 16, 24, 32, 48, 64, 96, 128].contains m) ∨ 1 < d.par 1 ∨ dim < 64 ∨ 4096 < dim ∨ dim % 32 ≠ 0 ∨ dim % m ≠ 0 ∨ 1 < metric ∨
      q < -24 ∨ 24 < q then s.badDesc
  else
    s.operand t c d.s0 dim 0 fun qs s => s.operand t c d.s1 (m * words * (dim / m)) 0 fun cb s =>
      let fin (y : List FV) (bias : Int) (s : State) : OpAcc :=
        s.storeOut t d.s2.mode d.s2.addr (tableBytes metric m words (dim / m) q y cb.elem ++ leBytes 4 (unsigned 32 bias))
      let v := qs.fvs dim
      if d.s3.mode = 3 then fin v 0 s
      else s.operand t c d.s3 dim (dim / 32) fun ce s =>
        if metric = 0 then fin (residualOf v (dequantCentroid dim ce)) 0 s
        else fin v (fixedOf q (-(2 ^ 31)) (2 ^ 31 - 1) (fNeg (coarseDot (coarseQuery ce.fmt v) ce 0 dim))) s

/-- Bytes of one query's record in LS_DENSE: table, bias, BOUND, filter flags, filter (R211). -/
def LsDesc.denseRec (d : LsDesc) : Nat := d.m * d.words * 2 + 76

/-- What a query's record brings to a scan. -/
def denseScanQ (d : LsDesc) (cand : Nat) (b : List Byte) : ScanQ :=
  let n := d.m * d.words * 2
  ⟨b.take n, signed 32 (at_ b n 4), at_ b (n + 4) 4, cand, at_ b (n + 8) 1 % 2 == 1, at_ b (n + 8) 1 / 2 % 2 == 1, (b.drop (n + 12)).take 64⟩

/-- One query's part of the output: the number of entries, PASSED, then CAND entries, the rest sentinels. -/
def denseOut (cand : Nat) (o : ScanOut) : List Byte :=
  leBytes 4 o.list.length ++ leBytes 4 o.passed ++ zeros 8 ++ fillSlots cand o.list

/-- DENSE_SCAN: the work header of R211 at the front of the message names the descriptor slot, the list and its snapshot; slot 0 holds the
queries' records; the smallest entries and PASSED of each are written (R209, R214). -/
def opDenseScan (s : State) (t : Nat) (c : Chain) (d : Desc) : OpAcc :=
  (s.loadMsg t c 0 32).bind fun h s =>
    let nq := at_ h 2 2
    let cand := at_ h 16 4
    match smGet (fun _ => none) s.ls.copies (at_ h 0 1) with
    | none => s.badDesc
    | some ld =>
      if nq = 0 ∨ 256 < nq ∨ ld.nlist ≤ at_ h 4 4 then s.badDesc
      else
        (s.loadOp t c d.s0.mode d.s0.addr (nq * ld.denseRec)).bind fun qb s =>
          let qs := (chunks ld.denseRec nq qb).map (denseScanQ ld cand)
          (s.load (ld.dirOff + 32 * at_ h 4 4) 32).toOp.bind fun e s =>
            (s.load (at_ e 8 6) (4 * at_ h 12 2)).toOp.bind fun ps s =>
              let x := s.scanPages ld qs (at_ h 8 4) 0 (ptrsOf (at_ h 12 2) ps) (qs.map fun _ => {})
              if x.code ≠ E_NONE then { fault := .operand, code := x.code, st := x.st }
              else x.st.storeOut t d.s2.mode d.s2.addr (x.outs.flatMap (denseOut cand))

/-- COARSE: queries, centroids, nprobe, D in P0 to P3; slot 0 the queries in FP32, slot 1 the centroids, slot 3 their norms (unused for IP); for
each query the first nprobe list numbers with their keys are written (R205). -/
def opCoarse (s : State) (t : Nat) (c : Chain) (d : Desc) : OpAcc :=
  let nq := d.par 0
  let nc := d.par 1
  let np := d.par 2
  let dim := d.par 3
  if nq = 0 ∨ 256 < nq ∨ nc = 0 ∨ 1048576 < nc ∨ np = 0 ∨ 4096 < np ∨ dim < 64 ∨ 4096 < dim ∨ dim % 32 ≠ 0 then s.badDesc
  else
    s.operand t c d.s0 (nq * dim) 0 fun qs s => s.operand t c d.s1 (nc * dim) (nc * (dim / 32)) fun ce s =>
      let ip := d.s3.mode == 3
      (if ip then { data := zeros (4 * nc), st := s } else s.loadOp t c d.s3.mode d.s3.addr (4 * nc)).bind fun nb s =>
        let rank (i : Nat) : List Byte :=
          let q := coarseQuery ce.fmt ((List.range dim).map fun x => qs.elem (i * dim + x))
          let ks := (List.range nc).map fun j =>
            (j, coarseKey (if ip then 1 else 0) (combine (partials q ce 0 j dim 32 dim)) (f32 (at_ nb (4 * j) 4)))
          (rankLists ks np).flatMap fun p => leBytes 4 p.1 ++ leBytes 4 p.2
        s.storeOut t d.s2.mode d.s2.addr ((List.range nq).flatMap rank)

/-- Exact distances of candidates whose vectors stand at a locator. -/
def State.rerankOp (s : State) (t : Nat) (c : Chain) (d : Desc) (q : List FV) (base vb : Nat) : List Entry → OpAcc
  | [] => { st := s }
  | e :: r =>
    (s.loadOp t c d.s3.mode (d.s3.addr + (e.vid - base) * vb) vb).bind fun b s =>
      let k := distKey (exactDist d.subop q (vecValues d.s3.fmt (d.par 4) (d.par 1) b))
      let y := s.rerankOp t c d q base vb r
      match y.fault with
      | .none => { y with data := ({ vid := e.vid, stage := 1, key := k, shard := e.shard } : Entry).bytes ++ y.data }
      | _ => y

/-- RERANK: candidates, dimension in P0 and P1, VID_BASE in P2 and P3, VEC_SCALE in P4, the metric in SUBOP; slot 0 the query, slot 1 the candidates,
slot 3 the vectors; stage-1 entries are written in the candidates' order (R217). -/
def opRerank (s : State) (t : Nat) (c : Chain) (d : Desc) : OpAcc :=
  let n := d.par 0
  let dim := d.par 1
  if n = 0 ∨ 16384 < n ∨ dim = 0 ∨ 4096 < dim ∨ 1 < d.subop then s.badDesc
  else
    s.operand t c d.s0 dim 0 fun q s => (s.loadOp t c d.s1.mode d.s1.addr (16 * n)).bind fun cb s =>
      (s.rerankOp t c d (q.fvs dim) (d.par 2 + d.par 3 % 65536 * 2 ^ 32) (elemBytes d.s3.fmt dim) (entriesOf n cb)).bind fun out s =>
        s.storeOut t d.s2.mode d.s2.addr out

/-- TOPK: entries and k in P0 and P1, AFTER in P2 to P5 (a sentinel is no bound); the entries written and the trailer (R257). -/
def opTopk (s : State) (t : Nat) (c : Chain) (d : Desc) : OpAcc :=
  let n := d.par 0
  let k := d.par 1
  let a := entryOf ([2, 3, 4, 5].flatMap fun i => leBytes 4 (d.par i))
  if n = 0 ∨ 1048576 < n ∨ k = 0 ∨ 256 < k then s.badDesc
  else
    (s.loadOp t c d.s0.mode d.s0.addr (16 * n)).bind fun b s =>
      let p := topPass (entriesOf n b) k (if a.sentinel then none else some a)
      s.storeOut t d.s2.mode d.s2.addr (p.out.flatMap Entry.bytes ++ p.trailer)

/-- PQ_TABLE (R206). -/
def execPqTable (tile : Nat) (s : State) : Res := s.live <| runOp 0x0A opPqTable tile s
/-- DENSE_SCAN (R209). -/
def execDenseScan (tile : Nat) (s : State) : Res := s.live <| runOp 0x0B opDenseScan tile s
/-- COARSE (R205). -/
def execCoarse (tile : Nat) (s : State) : Res := s.live <| runOp 0x0C opCoarse tile s
/-- RERANK (R217). -/
def execRerank (tile : Nat) (s : State) : Res := s.live <| runOp 0x0D opRerank tile s
/-- TOPK (R257). -/
def execTopk (tile : Nat) (s : State) : Res := s.live <| runOp 0x0E opTopk tile s

/-! TILE_STEP (R147). -/

/-- The operator of an OPCODE; one that is reserved fails its check. -/
def opOf (op : Nat) : State → Nat → Chain → Desc → OpAcc :=
  match op with
  | 0x01 => opMatmul
  | 0x02 => opReduce
  | 0x03 => opRotate
  | 0x04 => opQuantise
  | 0x05 => opDequantise
  | 0x06 => opElemwise
  | 0x07 => opActivate
  | 0x08 => opNormalise
  | 0x09 => opAttend
  | 0x0A => opPqTable
  | 0x0B => opDenseScan
  | 0x0C => opCoarse
  | 0x0D => opRerank
  | 0x0E => opTopk
  | 0x0F => opMask
  | 0x10 => opSample
  | 0x11 => opGradAccum
  | 0x12 => opOptStep
  | 0x13 => opSend
  | _ => fun s _ _ _ => s.badDesc

/-- TILE_DBG_CTRL.STEP: a halted tile runs exactly one descriptor and halts again (R147).
Assumption log: 36 (DEDUCED). -/
def State.tileStep (s : State) (t : Nat) : State :=
  match (s.tile t).chain with
  | some c => let op := (s.graphDesc t c.desc).op; s.runDesc t op (opOf op) true
  | none => s

/-- TILE_STEP (R147). -/
def execTileStep (tile : Nat) (s : State) : Res := s.live <| onUnit (tile < Config.numTiles) (s.tileStep tile)

end Sys2Proof.Machine
end

