-- ==== Sys2Proof/Machine/CtlWrite.lean ====
section
/-! DEFINITION. Writes of the control window (R16 to R21, R525 to R531): the writes that leave a register or a field unchanged, the merge of a
written value by access codes, and what a write makes the node do. -/

namespace Sys2Proof.Machine

/-- A field of a value to be written. -/
def fv (v : Nat) (f : RegField) : Nat := bitsAt v f.lo f.w

/-- The value with a field as it was. -/
def keep (v old : Nat) (f : RegField) : Nat := setBitsAt v f.lo f.w (bitsAt old f.lo f.w)

/-- The value with a field as it was where the written field fails a test.
Assumption log: 22 (DEDUCED). -/
def keepUnless (ok : Bool) (v old : Nat) (f : RegField) : Nat := if ok then v else keep v old f

/-- A write of 0 to a field leaves it unchanged. -/
def keepZero (v old : Nat) (f : RegField) : Nat := keepUnless (fv v f != 0) v old f

/-- A value that is written, or none where the write leaves the register unchanged. -/
def vetIf (ok : Bool) (v : Nat) : Option Nat := if ok then some v else none

/-- The written value by access codes (R17, R18). -/
def RegDesc.merge (d : RegDesc) (old v : Nat) : Nat :=
  d.fields.foldl (fun a f =>
    match f.acc with
    | .rw | .hid => setBitsAt a f.lo f.w (bitsAt v f.lo f.w)
    | .w1c => setBitsAt a f.lo f.w (Nat.land (bitsAt old f.lo f.w) (2 ^ f.w - 1 - bitsAt v f.lo f.w))
    | _ => a) old

/-! What a write may change, block by block. -/

/-- The journal of the open epoch is empty and no half is held (R500). -/
def State.sealCalm (s : State) : Bool := s.epochs.journal.isEmpty && s.sealState == SL_IDLE

/-- The node controller (R500, R524). EN of the group is set and cleared by what the write does. -/
def State.vetNctl (s : State) (o v old : Nat) : Option Nat :=
  if o = Reg.NCTL_SEAL_BUF then vetIf (s.sealCalm && decide (64 ≤ fv v F.NCTL_SEAL_BUF_HALF_MIB)) v
  else if o = Reg.NCTL_UEPOCH then vetIf s.sealCalm v
  else if o = Reg.NCTL_GROUP then
    (if s.bit F.NCTL_GROUP_EN then vetIf (fv v F.NCTL_GROUP_EN == 0 && s.sealState == SL_IDLE && !recSlots.any s.recLive) (keep v old F.NCTL_GROUP_EN)
     else some (keep v old F.NCTL_GROUP_EN))
  else if o = Reg.NCTL_PWR_CAP then
    let c := fv v F.NCTL_PWR_CAP_CAP_W
    vetIf (decide (400 ≤ c) && decide (c ≤ capReset s.nStacks s.nFio)) v
  else if o = Reg.NCTL_THERM_CFG then
    let a := fv v F.NCTL_THERM_CFG_ALERT_T
    let b := fv v F.NCTL_THERM_CFG_STK_ALERT_T
    vetIf (decide (fv v F.NCTL_THERM_CFG_THROT_T < a) && decide (a ≤ 110) && decide (fv v F.NCTL_THERM_CFG_STK_THROT_T < b) && decide (b ≤ 100)) v
  else some v

/-- The beat unit: an ARMED entry does not change (R48, R56); an ACTION that R49 does not list is reserved (R21). -/
def State.vetBeat (s : State) (o v old : Nat) : Option Nat :=
  if o = Reg.BEAT_CFG then vetIf (decide (fv v F.BEAT_CFG_LOCK_NS < fv v F.BEAT_CFG_STEP_NS)) v
  else if 0xF00001001000 ≤ o then
    let n := (o - 0xF00001001000) / 0x20
    if s.entState n = 1 ∧ (o - 0xF00001001000) % 0x20 < 0x18 then none
    else if o = Reg.BEAT_EVT_ACT n then some (keepUnless (decide (fv v (F.BEAT_EVT_ACT_ACTION n) ≤ 0x0A)) v old (F.BEAT_EVT_ACT_ACTION n))
    else some v
  else some v

/-- Tiles, by offset within the block: HALT follows what the write does (R147). -/
def vetTile (t o v old : Nat) : Option Nat :=
  if o = 0x20 then some (keepZero (keepZero v old (F.TILE_LIMITS_STALL_LIMIT t)) old (F.TILE_LIMITS_DESC_LIMIT t))
  else if o = 0x800 then some (keep v old (F.TILE_DBG_CTRL_HALT t))
  else some v

/-- Stacks (R172). -/
def vetStk (o v old : Nat) : Option Nat :=
  let k := (o - 0xF00020000000) / 0x1000000
  if o = Reg.STK_SCRUB k then some (keepZero v old (F.STK_SCRUB_PERIOD_H k))
  else if o = Reg.INL_LIMITS k then some (keepZero v old (F.INL_LIMITS_CMD_LIMIT k))
  else some v

/-- Whether the page table fits the pool of the lowest-numbered stack that has one (R177). -/
def State.tableFits (s : State) : Bool :=
  match s.tableStack with
  | some k => decide (s.tableFrames ≤ s.get (F.TIER_POOL_COUNT k))
  | none => s.tableFrames == 0

/-- Whether every page is ZERO (R177).
Assumption log: 24 (DESIGN CHOICE). -/
def State.allPagesZero (s : State) : Bool := s.tier.pages.all fun e => e.2.st == 0

/-- The tier manager (R177, R192, R198).
Assumption log: 24 (DESIGN CHOICE). -/
def State.vetTier (s : State) (o v old : Nat) : Option Nat :=
  if o = Reg.TIER_CFG then
    let w := keepZero (keepUnless s.allPagesZero v old F.TIER_CFG_EXTENT) old F.TIER_CFG_HEAT_PERIOD
    vetIf (decide (fv v F.TIER_CFG_DEMOTE_T < fv v F.TIER_CFG_PROMOTE_T) && decide (fv v F.TIER_CFG_EXTENT ≤ 2 ^ 30) &&
      (s.setReg o (BitVec.ofNat 64 w)).tableFits) w
  else if o = Reg.TIER_CFG2 then
    vetIf (decide (fv v F.TIER_CFG2_LOW_WATER < fv v F.TIER_CFG2_HIGH_WATER) && fv v F.TIER_CFG2_MOVES_MAX != 0) v
  else
    match copyOf (Reg.TIER_POOL 0) 8 12 o, copyOf (Reg.TIER_MIG_OBJ 0) 0x20 16 (o - o % 0x20) with
    | some k, _ =>
      vetIf (decide (fv v (F.TIER_POOL_FIRST k) + fv v (F.TIER_POOL_COUNT k) ≤ 524288) && s.allPagesZero &&
        (s.setReg o (BitVec.ofNat 64 v)).tableFits) v
    | none, some n =>
      if o = Reg.TIER_MIG_OBJ n then
        vetIf (s.migState n == MS_FREE) (keepUnless ([1, 2].contains (fv v (F.TIER_MIG_OBJ_KIND n))) v old (F.TIER_MIG_OBJ_KIND n))
      else if o = Reg.TIER_MIG_DEST n then vetIf (s.migState n == MS_FREE) v
      else some v
    | none, none => some v

/-- The list scanner (R225) and the walker (R251). -/
def vetSearch (o v old : Nat) : Option Nat :=
  if o = Reg.LS_CFG then
    let g := fv v F.LS_CFG_GATHER
    some (keepZero (keepUnless (decide (1 ≤ g) && decide (g ≤ 16)) v old F.LS_CFG_GATHER) old F.LS_CFG_DENSE_T)
  else if o = Reg.LS_SHADOW_CFG then vetIf (decide (fv v F.LS_SHADOW_CFG_MULT ≤ 4)) v
  else if o = Reg.WLK_CFG then
    let n := fv v F.WLK_CFG_INSERT_SLOTS
    vetIf (decide (fv v F.WLK_CFG_PREFETCH_CAP ≤ 8) && decide (1 ≤ n) && decide (n ≤ 12)) v
  else
    match copyOf (Reg.LS_IDX_CTL 0) 0x10 64 o, copyOf (Reg.WLK_IDX_CTL 0) 0x10 64 o with
    | some n, _ => some (keep v old (F.LS_IDX_CTL_EN n))
    | none, some n => some (keep v old (F.WLK_IDX_CTL_EN n))
    | none, none => some v

/-- Selection and merge (R274). -/
def State.vetSel (s : State) (o v old : Nat) : Option Nat :=
  if o = Reg.SEL_CFG then some (keepZero v old F.SEL_CFG_IDLE_LIMIT)
  else if o = Reg.SEL_BUF_BASE then vetIf (s.get F.SEL_STATUS_OPEN == 0) v
  else if o = Reg.SEL_BUF_CFG then
    let n := fv v F.SEL_BUF_CFG_COUNT
    let e := fv v F.SEL_BUF_CFG_ENTRIES_LOG2
    vetIf (s.get F.SEL_STATUS_OPEN == 0 && decide (8 ≤ e) && decide (e ≤ 14) && decide (n ≤ 4096) &&
      (n == 0 || s.inOneStack (s.get F.SEL_BUF_BASE_ADDR) (n * 2 ^ e * 16))) v
  else some v

/-- Tables (R299) and the text unit (R324). -/
def State.vetTbl (s : State) (o v old : Nat) : Option Nat :=
  if o = Reg.TXT_CFG then some (keepZero v old F.TXT_CFG_IDLE_LIMIT)
  else
    let t := (o - 0xF00072001000) / 0x20
    let g := (o - 0xF00073001000) / 0x10
    if o = Reg.TBL_DESC_BASE t then vetIf (!s.bit (F.TBL_CTL_EN t)) v
    else if o = Reg.TBL_CTL t then some (keep v old (F.TBL_CTL_EN t))
    else if o = Reg.TXT_GRAM_BASE g then vetIf (!s.bit (F.TXT_GRAM_CTL_EN g)) v
    else if o = Reg.TXT_GRAM_CTL g then some (keep v old (F.TXT_GRAM_CTL_EN g))
    else some v

/-- The flash subsystem (R356). -/
def State.vetFl (s : State) (o v _old : Nat) : Option Nat :=
  if o = Reg.FL_CFG then
    let f := fv v F.FL_CFG_FG_FLOOR
    let g := fv v F.FL_CFG_FG_START
    vetIf (f != 0 && decide (f < g) && decide (g < fv v F.FL_CFG_BG_START) && decide (fv v F.FL_CFG_SPARE_WARN ≤ 10000)) v
  else if o = Reg.FL_CAL then vetIf (fv v F.FL_CAL_CAL_WINDOW != 0) v
  else
    let c := (o - 0xF00040100000) / 0x1000
    if o = Reg.FL_CAR_PART c ∨ o = Reg.FL_CAR_MAPC c then
      vetIf (!([CS_MOUNTING, CS_ONLINE, CS_READ_ONLY, CS_DETACHING].contains (s.carState c))) v
    else some v

/-- The port (R359, R372, R373). -/
def State.vetPort (s : State) (o v old : Nat) : Option Nat :=
  let secEn := s.bit F.PORT_SEC_CFG_EN
  if o = Reg.PORT_CFG then some (keep v old F.PORT_CFG_ENABLE)
  else if o = Reg.PORT_FEC_CFG then some (keepZero v old F.PORT_FEC_CFG_DEGRADE_THR)
  else if o = Reg.PORT_PTP_CFG then some (keepUnless (fv v F.PORT_PTP_CFG_TRANSPORT != 3) v old F.PORT_PTP_CFG_TRANSPORT)
  else if o = Reg.PORT_SEC_CFG then some (keepUnless (!secEn) v old F.PORT_SEC_CFG_CIPHER)
  else
    match copyOf (Reg.PORT_PFC_THR 0) 8 7 o with
    | some c =>
      let x := fv v (F.PORT_PFC_THR_XOFF_KIB c)
      vetIf (decide (fv v (F.PORT_PFC_THR_XON_KIB c) < x) && decide (x ≤ 512)) v
    | none => vetIf (!(secEn && decide (Reg.PORT_SEC_SA 0 (s.get F.PORT_SEC_CFG_TX_AN) 0 ≤ o) && decide (o ≤ Reg.PORT_SEC_SA 0 (s.get F.PORT_SEC_CFG_TX_AN) 6))) v

/-- The Skorath engine (R405). -/
def vetSko (o v _old : Nat) : Option Nat :=
  if o = Reg.SKO_CFG then
    let p := fv v F.SKO_CFG_PATHS
    vetIf (decide (1 ≤ p) && decide (p ≤ 16)) v
  else if o = Reg.SKO_CC then
    let m := fv v F.SKO_CC_MD_SHIFT
    vetIf (decide (1 ≤ m) && decide (m ≤ 8) && fv v F.SKO_CC_R_MIN_MBPS != 0) v
  else some v

/-- A ring of samples may be switched on: its size and its place (R421). -/
def State.sampleOk (s : State) (lg : Nat) : Bool :=
  let a := s.get F.TS_SAMPLE_BASE_ADDR
  decide (3 ≤ lg) && decide (lg ≤ 20) && s.winOf a != .control && s.rangeCode a (32 * 2 ^ lg) == E_NONE

/-- The traffic unit and telemetry (R412, R421, R428). -/
def State.vetTs (s : State) (o v old : Nat) : Option Nat :=
  if o = Reg.TS_EXP then vetIf (decide (9236 ≤ fv v F.TS_EXP_EXP_BURST) && fv v F.TS_EXP_EXP_RATE_MBPS != 0) v
  else if o = Reg.TS_SAMPLE_CTL then
    let lg := fv v F.TS_SAMPLE_CTL_SIZE_LOG2
    let w := keepUnless (decide (3 ≤ lg) && decide (lg ≤ 20)) v old F.TS_SAMPLE_CTL_SIZE_LOG2
    vetIf (fv w F.TS_SAMPLE_CTL_EN == 0 || s.sampleOk (fv w F.TS_SAMPLE_CTL_SIZE_LOG2)) (keepZero w old F.TS_SAMPLE_CTL_PERIOD)
  else if o = Reg.TEL_CFG then some (keepZero v old F.TEL_CFG_SLOW_US)
  else
    match copyOf (Reg.TS_Q_CFG 0) 8 8 o, copyOf (Reg.TS_GATE_CFG 0) 8 2 o, copyOf (Reg.TS_GATE_ENT 0 0) 8 128 o,
        copyOf (Reg.TS_POL_RATE 0 0) 8 2048 o with
    | some c, _, _, _ =>
      let rest := ((List.range 8).map fun d => if d = c then 0 else s.get (F.TS_Q_CFG_LIMIT_KIB d)).sum
      vetIf (decide (rest + fv v (F.TS_Q_CFG_LIMIT_KIB c) ≤ 16384) && fv v (F.TS_Q_CFG_QUANTUM c) != 0) v
    | none, some l, _, _ => vetIf (s.ts.list != some l) v
    | none, none, some i, _ => vetIf (s.ts.list != some (i / 64)) v
    | none, none, none, some i =>
      if i < 4 then none
      else if i % 2 = 0 then vetIf (decide (bitsAt v 0 28 ≤ bitsAt v 32 28)) v
      else vetIf (decide (bitsAt v 0 32 ≤ bitsAt v 32 32)) v
    | none, none, none, none => some v

/-- The movers, the check-value units and the parity engine (R429, R430, R441, R444, R451). -/
def State.vetMov (s : State) (o v old : Nat) : Option Nat :=
  if o = Reg.MOV_LIMITS then some (keepZero v old F.MOV_LIMITS_STALL_LIMIT)
  else if o = Reg.PAR_RING then vetIf (!s.bit F.PAR_CFG_EN) v
  else if o = Reg.PAR_CFG then some (keep v old F.PAR_CFG_EN)
  else
    match copyOf (Reg.MOV_CH_RING 0) 0x40 64 (o - o % 0x40), copyOf 0xF00061000000 0x80 16 (o - o % 0x80) with
    | some n, _ =>
      if nodeChannel n then none
      else if o = Reg.MOV_CH_RING n then vetIf (s.movState n == MV_DISABLED) v
      else if o = Reg.MOV_CH_CFG n then some (keep v old (F.MOV_CH_CFG_EN n))
      else some v
    | none, some u =>
      if s.chkHeld u ∧ o % 0x80 < 0x38 then none
      else if o = Reg.CHK_CFG u then
        let w := fv v (F.CHK_CFG_WIDTH u)
        some (keepUnless (decide (1 ≤ w) && decide (w ≤ 64)) v old (F.CHK_CFG_WIDTH u))
      else some v
    | none, none => some v

/-- The event unit: scripts that are active do not change, a KIND that R495 does not list is reserved (R21, R500). -/
def State.vetEvt (s : State) (o v old : Nat) : Option Nat :=
  match copyOf (Reg.EVT_RH_CFG 0) 8 32 o with
  | none => some v
  | some i =>
    let w := if i % 2 = 0 then keepUnless (decide (fv v (F.EVT_RH_CFG_KIND (i / 2)) ≤ 6)) v old (F.EVT_RH_CFG_KIND (i / 2)) else v
    vetIf (s.script (i / 2)).isNone w

/-- The value that a write gives a register before access codes apply; none where it leaves the register unchanged.
Assumption log: 22 (DEDUCED). -/
def State.vet (s : State) (o v old : Nat) : Option Nat :=
  if o < 0xF00001000000 then s.vetNctl o v old
  else if o < 0xF00002000000 then s.vetBeat o v old
  else if o < 0xF00003000000 then some (if o = Reg.IMG_CFG then keepZero v old F.IMG_CFG_DOVETAIL_BEATS else v)
  else if o < 0xF00020000000 then some v
  else if o < 0xF00030000000 then vetStk o v old
  else if o < 0xF00040000000 then s.vetTier o v old
  else if o < 0xF00050000000 then s.vetFl o v old
  else if o < 0xF00051000000 then s.vetPort o v old
  else if o < 0xF00052000000 then vetSko o v old
  else if o < 0xF00060000000 then s.vetTs o v old
  else if o < 0xF00070000000 then s.vetMov o v old
  else if o < 0xF00071000000 then vetSearch o v old
  else if o < 0xF00072000000 then s.vetSel o v old
  else if o < 0xF00080000000 then s.vetTbl o v old
  else if o < 0xF00090000000 then s.vetTs o v old
  else if o < 0xF000A0000000 then s.vetEvt o v old
  else vetTile ((o - 0xF000A0000000) / 0x100000) ((o - 0xF000A0000000) % 0x100000) v old

/-! What a write does. -/

/-- The number of bits set among some of a value's. -/
def bitCount (v : Nat) (is_ : List Nat) : Nat := (is_.filter fun i => v / 2 ^ i % 2 == 1).length

/-- An operation where a bit of the value is set.
Assumption log: 21 (DESIGN CHOICE). -/
def onBit (v i : Nat) (f : State → State) (s : State) : State := if v / 2 ^ i % 2 = 1 then f s else s

/-- NCTL_RESET, NCTL_GROUP, NCTL_BOOT_CTL (R473, R481, R500, R515).
Assumption log: 23 (DEDUCED). -/
def State.afterNctl (s : State) (o v : Nat) : State :=
  if o = Reg.NCTL_RESET then
    let sc := fv v F.NCTL_RESET_SCOPE
    let i := fv v F.NCTL_RESET_INSTANCE
    if fv v F.NCTL_RESET_GO = 1 then s.resetGo sc i else if s.scopeOk sc i then s else s.resetResult 2
  else if o = Reg.NCTL_GROUP then (if fv v F.NCTL_GROUP_EN = 1 then s.groupEnable else if s.bit F.NCTL_GROUP_EN then s.groupDisable else s)
  else if o = Reg.NCTL_BOOT_CTL then onBit v 0 State.bootSave s
  else s

/-- BEAT_CTRL, BEAT_EVT_CTL (R45, R49, R53). -/
def State.afterBeat (s : State) (o v : Nat) : State :=
  if o = Reg.BEAT_CTRL then
    if 1 < bitCount v [0, 1, 2] then s else onBit v 2 State.disarmAll (onBit v 1 State.rejectStep (onBit v 0 State.acceptStep s))
  else
    match copyOf (Reg.BEAT_EVT_CTL 0) 0x20 256 o with
    | some n => if v % 4 = 1 then s.arm n else if v % 4 = 2 then s.disarm n else s
    | none => s

/-- IMG_CTRL (R89). -/
def State.afterImg (s : State) (o v : Nat) : State :=
  if o = Reg.IMG_CTRL then
    if 1 < bitCount v [0, 1, 2, 3] then s.imgResult IR_BUSY
    else onBit v 3 State.applyFull (onBit v 2 State.promote (onBit v 1 State.discard (onBit v 0 State.stage s)))
  else s

/-- SEC_CTRL (R465). -/
def State.afterSec (s : State) (o v : Nat) : State :=
  if o = Reg.SEC_CTRL then
    let arg := fv v F.SEC_CTRL_ARG
    if 1 < bitCount v [0, 1, 2, 3, 4, 5] then s.secResult SR_BUSY
    else
      let s := onBit v 2 (fun s => s.secDo State.akCert) (onBit v 1 (fun s => s.secDo State.quote) (onBit v 0 (fun s => s.secDo State.claim) s))
      onBit v 5 (fun s => s.secDo fun s => s.revoke arg) (onBit v 4 (fun s => s.secDo State.raiseFloor) (onBit v 3 (fun s => s.secDo fun s => s.extendBy arg) s))
  else s

/-- TILE_DBG_CTRL (R147). -/
def State.afterTile (s : State) (t o v : Nat) : State :=
  if o = 0x800 then
    let was := s.bit (F.TILE_DBG_CTRL_HALT t)
    let s := if v % 2 = 1 then (if was then s else s.tileHalt t) else if was then s.tileResume t else s
    onBit v 1 (fun s => s.tileStep t) s
  else s

/-- INL_UNIT_CTRL (R171). -/
def State.afterStk (s : State) (o v : Nat) : State :=
  let k := (o - 0xF00020000000) / 0x1000000
  let u := ((o - 0xF00020000000) % 0x1000000 - 0x100000) / 0x100
  if o = Reg.INL_UNIT_CTRL k u ∧ s.hasUnit k u then onBit v 0 (fun s => s.inlayOnline k u) s else s

/-- Carriers that wait for a map cache region go on where theirs has become valid (R330, R335). -/
def State.carsGo (s : State) : State :=
  (List.range 8).foldl (fun (s : State) c => if s.carState c = CS_WAIT_CACHE ∧ s.mapcOk c then s.setCarState c CS_MOUNTING else s) s

/-- TIER_PAGE_OP, TIER_MIG_CTL, and what a new pool or extent changes (R177, R191 to R196). -/
def State.afterTier (s : State) (o v : Nat) : State :=
  if o = Reg.TIER_PAGE_OP then onBit v 0 State.zeroPage s
  else if o = Reg.TIER_CFG then s.set F.TIER_STATUS_FREE_FRAMES s.freeFrames
  else
    match copyOf (Reg.TIER_POOL 0) 8 12 o, copyOf (Reg.TIER_MIG_CTL 0) 0x20 16 o with
    | some _, _ => ((s.set F.TIER_STATUS_FREE_FRAMES s.freeFrames).wakeFrames).carsGo
    | none, some k =>
      let s := onBit v 2 (fun s => s.migFree k) (onBit v 1 (fun s => s.migAbort k) (onBit v 0 (fun s => s.migStart k) s))
      onBit v 4 (fun s => s.migRevert k) (onBit v 3 (fun s => s.migConfirm k) s)
    | none, none => s

/-- EN of a slot: set, cleared, or as it was. -/
def enEdge (v : Nat) (en : Bool) (on off : State → State) (s : State) : State :=
  if v % 2 = 1 then on s else if en then off s else s

/-- LS_IDX_CTL and WLK_IDX_CTL (R199, R228). -/
def State.afterSearch (s : State) (o v : Nat) : State :=
  match copyOf (Reg.LS_IDX_CTL 0) 0x10 64 o, copyOf (Reg.WLK_IDX_CTL 0) 0x10 64 o with
  | some n, _ => enEdge v (s.bit (F.LS_IDX_CTL_EN n)) (fun s => s.lsEnable n) (fun s => s.lsDisable n) s
  | none, some n => enEdge v (s.bit (F.WLK_IDX_CTL_EN n)) (fun s => s.gwEnable n) (fun s => s.gwDisable n) s
  | none, none => s

/-- SEL_BUF_BASE and SEL_BUF_CFG: an applied write returns every buffer to FREE (R274). -/
def State.afterSel (s : State) (o _v : Nat) : State :=
  if o = Reg.SEL_BUF_BASE ∨ o = Reg.SEL_BUF_CFG then { s with sel := { s.sel with bufs := [] } } else s

/-- TBL_CTL and TXT_GRAM_CTL (R275, R319). -/
def State.afterTbl (s : State) (o v : Nat) : State :=
  match copyOf (Reg.TBL_CTL 0) 0x20 256 o, copyOf (Reg.TXT_GRAM_CTL 0) 0x10 16 o with
  | some t, _ => enEdge v (s.bit (F.TBL_CTL_EN t)) (fun s => s.tblEnable t) (fun s => s.tblDisable t) s
  | none, some g => enEdge v (s.bit (F.TXT_GRAM_CTL_EN g)) (fun s => s.gramEnable g) (fun s => s.gramDisable g) s
  | none, none => s

/-- FL_CAR_CTRL and FL_CAR_MAPC (R330, R335, R356). -/
def State.afterFl (s : State) (o v : Nat) : State :=
  match copyOf (Reg.FL_CAR_CTRL 0) 0x1000 8 o, copyOf (Reg.FL_CAR_MAPC 0) 0x1000 8 o with
  | some c, _ =>
    if 1 < bitCount v [0, 1, 2, 3, 4] then s.carResult c FR_BUSY
    else
      let s := onBit v 2 (fun s => s.carDetach c) (onBit v 1 (fun s => s.carAdopt c) (onBit v 0 (fun s => s.carFormat c) s))
      onBit v 4 (fun s => s.carSanitise c) (onBit v 3 (fun s => s.carAttach c) s)
  | none, some _ => s.carsGo
  | none, none => s

/-- PORT_CFG.ENABLE; PTP and MACsec modes; a switch of TX_AN ends a stop for want of packet numbers (R359, R370, R372). -/
def State.afterPort (s : State) (o v old : Nat) : State :=
  if o = Reg.PORT_CFG then
    let was := s.bit F.PORT_CFG_ENABLE
    if fv v F.PORT_CFG_ENABLE = 1 then (if was then s else s.portEnable) else if was then s.portDisable else s
  else if o = Reg.PORT_PTP_CFG then s.ptpMode
  else if o = Reg.PORT_SEC_CFG then
    let s := s.ptpMode
    if fv v F.PORT_SEC_CFG_TX_AN = bitsAt old 2 2 then s else { s with port := { s.port with pnSpent := false, pnExhausted := false } }
  else s

/-- Policers filled, telemetry captured, a shard slot begun anew (R416, R423, R426). -/
def State.afterTs (s : State) (o v : Nat) : State :=
  if o = Reg.TEL_CTRL then onBit v 0 State.telSnap s
  else
    match copyOf (Reg.TS_POL_RATE 0 0) 8 2048 o, copyOf (Reg.TEL_SHARD_KEY 0) 0x20 1024 o with
    | some i, _ => s.fillPolicer (i / 4) (i / 2 % 2)
    | none, some n => ((s.setReg (Reg.TEL_SHARD_CNT n) 0).setReg (Reg.TEL_SHARD_SUM n) 0).setReg (Reg.TEL_SHARD_MAX n) 0
    | none, none => s

/-- The head word that a watch looks at, as it stands (R435). -/
def State.watchNow (s : State) (w : Nat) : State :=
  { s with mov := { s.mov with seen := smPut (fun _ => 0) s.mov.seen w (s.num (s.get (F.MOV_WATCH_ADDR w)) 8) } }

/-- Movers, check-value units, parity queue 1 (R430, R435, R437, R442, R446, R448, R449). -/
def State.afterMov (s : State) (o v old : Nat) : State :=
  if o = Reg.PAR_CFG then enEdge v (s.bit F.PAR_CFG_EN) State.parEnable State.parDisable s
  else if o = Reg.PAR_CTRL then onBit v 1 State.parSkip (onBit v 0 State.parResume s)
  else
    match copyOf (Reg.MOV_WATCH 0) 8 128 o, copyOf (Reg.MOV_CH_RING 0) 0x40 64 (o - o % 0x40), copyOf 0xF00061000000 0x80 16 (o - o % 0x80) with
    | some w, _, _ => if fv v (F.MOV_WATCH_EN w) = 1 ∧ bitsAt old 63 1 = 0 then s.watchNow w else s
    | none, some n, _ =>
      if o = Reg.MOV_CH_CFG n then enEdge v (s.bit (F.MOV_CH_CFG_EN n)) (fun s => s.movEnable n) (fun s => s.movDisable n) s
      else if o = Reg.MOV_CH_CTRL n then
        let s := onBit v 1 (fun s => s.movResume n) (onBit v 0 (fun s => s.movStop n) s)
        onBit v 3 (fun s => s.movKick n) (onBit v 2 (fun s => s.movSkip n) s)
      else s
    | none, none, some u =>
      if o = Reg.CHK_FEED u then s.chkFeed u (leBytes 8 v)
      else if o = Reg.CHK_FEED_TAIL u then s.chkTail u (v % 2 ^ 56) (fv v (F.CHK_FEED_TAIL_COUNT u))
      else if o = Reg.CHK_CTRL u then onBit v 1 (fun s => s.chkCheck u) (onBit v 0 (fun s => s.chkStart u) s)
      else s
    | none, none, none => s

/-- What an accepted write makes the node do; `old` is the register before it.
Assumption log: 21 (DESIGN CHOICE). -/
def State.after (s : State) (o v old : Nat) : State :=
  if o < 0xF00001000000 then s.afterNctl o v
  else if o < 0xF00002000000 then s.afterBeat o v
  else if o < 0xF00003000000 then s.afterImg o v
  else if o < 0xF00020000000 then s.afterSec o v
  else if o < 0xF00030000000 then s.afterStk o v
  else if o < 0xF00040000000 then s.afterTier o v
  else if o < 0xF00050000000 then s.afterFl o v
  else if o < 0xF00051000000 then s.afterPort o v old
  else if o < 0xF00052000000 then s
  else if o < 0xF00060000000 then s.afterTs o v
  else if o < 0xF00070000000 then s.afterMov o v old
  else if o < 0xF00071000000 then s.afterSearch o v
  else if o < 0xF00072000000 then s.afterSel o v
  else if o < 0xF00080000000 then s.afterTbl o v
  else if o < 0xF00090000000 then s.afterTs o v
  else if o < 0xF000A0000000 then s
  else s.afterTile ((o - 0xF000A0000000) / 0x100000) ((o - 0xF000A0000000) % 0x100000) v

/-- What a write that leaves its register unchanged still does: one to a check-value unit that a channel holds is counted (R444). -/
def State.turnedAway (s : State) (o : Nat) : State :=
  match copyOf 0xF00061000000 0x80 16 (o - o % 0x80) with
  | some u => s.bump (F.CHK_CTRL_IGNORED u) 1
  | none => s

/-- A write to the control window. Places that name no register, and absent units, ignore it (R2, R3, R526). -/
def State.ctlWrite (s : State) (off : Nat) (v : Word) : State :=
  let o := canonOff off
  match findReg o with
  | none => s
  | some d =>
    if s.absentReg o then s
    else
      let old := (s.reg o).toNat
      match s.vet o v.toNat old with
      | none => s.turnedAway o
      | some w => (s.setReg o (BitVec.ofNat 64 (d.merge old w))).after o v.toNat old

/-- REGISTER_WRITE: a register write accepted from a controller (R404, R531). An offset that is no aligned register place changes nothing (R16). -/
def execRegisterWrite (offset value : Nat) (s : State) : Res := s.live <|
  .next (if offset % 8 = 0 ∧ inControlRange offset then s.ctlWrite offset (BitVec.ofNat 64 value) else s)

end Sys2Proof.Machine
end

