-- ==== Sys2Proof/Machine/Remote.lean ====
section
/-! DEFINITION. What an operation of another node, or of the node's own loop, does here (R380, R390 to R392, R396, R399, R404, R536). -/

namespace Sys2Proof.Machine

/-- What becomes of an operation: it is performed, with the bytes of a response if it has one; it is refused with a code; it waits for a page
of the tiered space; its message finds no room. -/
inductive Outc where
  | ok (resp : Option (List Byte)) (s : State)
  | err (code : Nat) (s : State)
  | wait (s : State)
  | rnr (s : State)

/-- A code decides between a refusal and what follows. -/
def Outc.need (code : Nat) (s : State) (next : Outc) : Outc := if code = E_NONE then next else .err code s

/-! Memory (R176, R392). -/

/-- What an access to the tiered space must wait for: the wait is noted under a connection.
Assumption log: 201 (DESIGN CHOICE). -/
def State.gate (s : State) (conn : Nat) (write : Bool) (got : List Nat) (a n : Nat) : Option State :=
  match s.winOf a with
  | .tier =>
    if s.rangeCode a n ≠ E_NONE then none
    else (s.blockAt write got (tierPieces a n)).map fun x =>
      { x.2.2 with tier := { x.2.2.tier with waits := x.2.2.tier.waits ++ [{ page := x.1, kind := x.2.1, conn := conn }] } }
  | _ => none

/-- Where a piece of a page in STACK lies. -/
def State.pieceAddr (s : State) (x : Nat × Nat × Nat) : Nat := frameAddr (s.page x.1).stack (s.page x.1).frame + x.2.1

/-- The words that a store covers in part are read first; the Boolean says that one of them is bad (R392).
Assumption log: 201 (DESIGN CHOICE). -/
def State.partPieces (s : State) : List (Nat × Nat × Nat) → State × Bool
  | [] => (s, false)
  | x :: r =>
    let p := s.partMarks (s.pieceAddr x) x.2.2
    let q := p.1.partPieces r
    (q.1, q.2 || !p.2.isEmpty)

/-- A store of a packet: whole, or refused whole (R392, R536). -/
def State.storeWhole (s : State) (a : Nat) (d : List Byte) : Nat × State :=
  let c := s.rangeCode a d.length
  if c ≠ E_NONE then (c, s)
  else match s.winOf a with
    | .tier =>
      let ps := tierPieces a d.length
      let x := s.readyPieces ps
      if x.1 ≠ E_NONE then x
      else
        let y := x.2.partPieces ps
        if y.2 then (E_MEDIA, y.1) else y.1.storePieces true E_NONE d ps
    | .control => (E_MALFORMED, s)
    | _ => s.storePhys true a d

/-- A packet stored, with what it does to the tail words of rings (R30).
Assumption log: 189 (DESIGN CHOICE). -/
def State.storePacket (s : State) (a : Nat) (d : List Byte) : Nat × State :=
  let old := s.tailsIn a d.length
  let x := s.storeWhole a d
  (x.1, x.2.settleTails old)

/-- Bytes of pages in STACK. -/
def State.readPieces (s : State) : List (Nat × Nat × Nat) → Acc
  | [] => ⟨E_NONE, [], s⟩
  | x :: r =>
    let p := s.loadPhys (s.pieceAddr x) x.2.2
    if p.code ≠ E_NONE then p
    else
      let q := p.st.readPieces r
      if q.code ≠ E_NONE then q else ⟨E_NONE, p.data ++ q.data, q.st⟩

/-- Bytes read for an ATOMIC or REDUCE, which is a write: pages it touches get their frames first (R536).
Assumption log: 197 (DEDUCED). -/
def State.readForUpdate (s : State) (a n : Nat) : Acc :=
  let c := s.rangeCode a n
  if c ≠ E_NONE then ⟨c, [], s⟩
  else if touchesGraph a n then ⟨E_MALFORMED, [], s⟩
  else match s.winOf a with
    | .tier =>
      let x := s.readyPieces (tierPieces a n)
      if x.1 ≠ E_NONE then ⟨x.1, [], x.2⟩ else x.2.readPieces (tierPieces a n)
    | _ => s.loadPhys a n

/-- Bytes read, combined and stored in one: the old bytes, or a refusal. -/
def State.combineAt (s : State) (a n : Nat) (f : List Byte → List Byte) (resp : Bool) : Outc :=
  let x := s.readForUpdate a n
  if x.code ≠ E_NONE then .err x.code x.st
  else
    let y := x.st.storePacket a (f x.data)
    .need y.1 y.2 (.ok (if resp then some x.data else none) y.2)

/-! The functions of ATOMIC and REDUCE. -/

/-- The new value of an atomic (R390). -/
def atomicNew (sub v x operand : Nat) : Nat :=
  match sub with
  | 1 => (v + x) % 2 ^ 64
  | 2 => x
  | 3 => if v = operand then x else v
  | 4 => v ||| x
  | 5 => v &&& x
  | 6 => max v x
  | _ => min v x

/-- The two's complement value of a 64-bit pattern. -/
def s64 (v : Nat) : Int := signed 64 v

/-- The combination of two elements (R391). -/
def reduceElem (sub a b : Nat) : Nat :=
  match sub with
  | 1 => (a + b) % 2 ^ 64
  | 2 => if s64 b < s64 a then b else a
  | 3 => if s64 a < s64 b then b else a
  | 4 => min a b
  | 5 => max a b
  | 6 => a ||| b
  | 7 => a &&& b
  | 8 => fmtFP32.encode (fMin (Fp.fv (fmtFP32.decode a)) (Fp.fv (fmtFP32.decode b))).v
  | _ => fmtFP32.encode (fMax (Fp.fv (fmtFP32.decode a)) (Fp.fv (fmtFP32.decode b))).v

/-- Bytes of an element of REDUCE (R391).
Assumption log: 197 (DEDUCED). -/
def reduceWidth (sub : Nat) : Nat := if 8 ≤ sub then 4 else 8

/-- Element by element. -/
def reduceBytes (sub w : Nat) : Nat → List Byte → List Byte → List Byte
  | 0, _, _ => []
  | n + 1, a, b => leBytes w (reduceElem sub (leNat (a.take w)) (leNat (b.take w))) ++ reduceBytes sub w n (a.drop w) (b.drop w)

/-! The operations. -/

/-- READ (R380, R392). -/
def State.doRead (s : State) (conn : Nat) (got : List Nat) (p : Packet) : Outc :=
  if p.total < 1 ∨ 1048576 < p.total then .err E_MALFORMED s
  else match s.gate conn false got p.offset p.total with
    | some t => .wait t
    | none =>
      let x := s.load p.offset p.total
      .need x.code x.st (.ok (some x.data) x.st)

/-- A packet of a WRITE (R392). -/
def State.doWrite (s : State) (conn : Nat) (got : List Nat) (p : Packet) : Outc :=
  if p.total < 1 ∨ 16777216 < p.total ∨ p.data.isEmpty ∨ p.total < p.pos + p.data.length then .err E_MALFORMED s
  else match s.gate conn true got (p.offset + p.pos) p.data.length with
    | some t => .wait t
    | none =>
      let x := s.storePacket (p.offset + p.pos) p.data
      .need x.1 x.2 (.ok none x.2)

/-- WRITE_FLAG: one granule (R380, R394). -/
def State.doFlag (s : State) (conn : Nat) (got : List Nat) (p : Packet) : Outc :=
  if p.total < 8 ∨ 64 < p.total ∨ p.data.length ≠ p.total ∨ 64 < p.offset % 64 + p.total then .err E_MALFORMED s
  else match s.gate conn true got p.offset p.total with
    | some t => .wait t
    | none =>
      let x := s.storePacket p.offset p.data
      .need x.1 x.2 (.ok none x.2)

/-- ATOMIC (R390).
Assumption log: 197 (DEDUCED). -/
def State.doAtomic (s : State) (conn : Nat) (got : List Nat) (p : Packet) : Outc :=
  if p.data.length ≠ 8 ∨ p.total ≠ 8 ∨ p.offset % 8 ≠ 0 ∨ p.sub < 1 ∨ 7 < p.sub then .err E_MALFORMED s
  else match s.gate conn true got p.offset 8 with
    | some t => .wait t
    | none => s.combineAt p.offset 8 (fun d => leBytes 8 (atomicNew p.sub (leNat d) (leNat p.data) p.operand)) true

/-- REDUCE, whole (R391).
Assumption log: 197 (DEDUCED). -/
def State.doReduce (s : State) (conn : Nat) (got : List Nat) (p : Packet) (d : List Byte) : Outc :=
  let w := reduceWidth p.sub
  if p.sub < 1 ∨ 9 < p.sub ∨ p.total < 8 ∨ 8192 < p.total ∨ d.length ≠ p.total ∨ p.total % w ≠ 0 ∨ p.offset % w ≠ 0 then .err E_MALFORMED s
  else match s.gate conn true got p.offset p.total with
    | some t => .wait t
    | none => s.combineAt p.offset p.total (fun a => reduceBytes p.sub w (p.total / w) a d) false

/-- MERGE, whole: decided against its buffer, and acknowledged whatever the decision (R265, R396).
Assumption log: 74 (DEDUCED). -/
def State.doMerge (s : State) (p : Packet) (d : List Byte) : Outc :=
  if d.length ≠ p.total ∨ !contribOk d then .err E_MALFORMED s else .ok none (s.mergeIn d)

/-- What a REDIRECT of the node's own payload lookup leads to at once (R270, R401). -/
def State.followRedirect (s : State) (m : List Byte) : State :=
  if at_ m 1 1 = T_REDIRECT then
    match s.sel.pays.find? fun j => j.ask == some (at_ m 8 8) with
    | some j => s.payDone j.r.src j.r.reqId
    | none => s
  else s

/-- HALDIO, whole (R399). -/
def State.doHaldio (s : State) (p : Packet) (d : List Byte) : Outc :=
  if p.total < 32 ∨ 8388608 < p.total ∨ d.length ≠ p.total then .err E_MALFORMED s
  else .ok none ((s.landMsg p.src p.cls p.gten d).followRedirect d)

/-- A response: the operation that it answers is complete (R383).
Assumption log: 199 (DEDUCED). -/
def State.doResp (s : State) (op : Nat) (p : Packet) (d : List Byte) : Outc :=
  match s.sko.ops.find? fun o => o.opId == p.opId && o.op == op && o.dst == p.src && o.cls == p.cls with
  | some o => .ok none ((s.heard p.src).opDone o E_NONE d)
  | none => .ok none s

/-! The control window (R404, R460). -/

/-- Whether a node may use the control window: one of CTRL_NODE, or before an image one of the ownership record's, or any.
Assumption log: 198 (DEDUCED). -/
def State.ctlFrom (s : State) (src : Nat) : Bool :=
  if s.img.active.isSome then s.sko.recd.ctrlNode.contains src
  else match s.bootCtrlNodes with
    | some ns => ns.contains src
    | none => true

/-- Whether an operation on the control window is accepted.
Assumption log: 198 (DEDUCED). -/
def State.ctlCode (s : State) (p : Packet) : Nat :=
  if !s.ctlFrom p.src then E_TENANT
  else if (p.op ≠ OP_READ ∧ p.op ≠ OP_WRITE) ∨ p.mcast ∨ p.total ≠ 8 ∨ p.offset % 8 ≠ 0 ∨ (p.op = OP_WRITE ∧ p.data.length ≠ 8) then E_MALFORMED
  else if !inControlRange p.offset then E_ABSENT
  else E_NONE

/-- A register read or written.
Assumption log: 198 (DEDUCED). -/
def State.doControl (s : State) (p : Packet) : Outc :=
  let c := s.ctlCode p
  if c ≠ E_NONE then .err c s
  else if p.op = OP_READ then
    let x := s.ctlRead p.offset
    .ok (some (leBytes 8 x.1.toNat)) x.2
  else .ok none (s.ctlWrite p.offset (BitVec.ofNat 64 (leNat p.data)))

/-- Operations that address node offsets. -/
def memOp (op : Nat) : Bool := op == OP_READ || op == OP_WRITE || op == OP_WRITE_FLAG || op == OP_ATOMIC || op == OP_REDUCE

/-- An operation, or a packet of a WRITE, performed: `d` is the data of the whole operation. -/
def State.perform (s : State) (conn : Nat) (got : List Nat) (p : Packet) (d : List Byte) : Outc :=
  if memOp p.op ∧ s.winOf p.offset = .control then s.doControl p
  else if p.mcast ∧ p.op ≠ OP_WRITE ∧ p.op ≠ OP_WRITE_FLAG then .err E_MALFORMED s
  else if p.op = OP_READ then s.doRead conn got p
  else if p.op = OP_WRITE then s.doWrite conn got p
  else if p.op = OP_WRITE_FLAG then s.doFlag conn got p
  else if p.op = OP_ATOMIC then s.doAtomic conn got p
  else if p.op = OP_REDUCE then s.doReduce conn got p d
  else if p.op = OP_MERGE then s.doMerge p d
  else if p.op = OP_HALDIO then s.doHaldio p d
  else if p.op = OP_READ_RESP then s.doResp OP_READ p d
  else if p.op = OP_ATOMIC_RESP then s.doResp OP_ATOMIC p d
  else .err E_MALFORMED s

end Sys2Proof.Machine
end

