-- ==== Sys2Proof/Machine/Rx.lean ====
section
/-! DEFINITION. The receiving end of connections (R377, R381, R382, R384, R386, R389, R400, R514) and the node's own loop. -/

namespace Sys2Proof.Machine

/-! Receiving ends. -/

/-- The receiving end of a connection that is held. -/
def State.rxOf (s : State) (k : Nat) : Option RxConn := (s.sko.rx.find? fun e => e.1 == k).map Prod.snd

/-- A receiving end stored. -/
def putRx : SMap RxConn → Nat → RxConn → SMap RxConn
  | [], k, c => [(k, c)]
  | (j, d) :: r, k, c => if k < j then (k, c) :: (j, d) :: r else if k = j then (k, c) :: r else (j, d) :: putRx r k c

/-- A receiving end stored in the engine. -/
def State.setRx (s : State) (k : Nat) (c : RxConn) : State := { s with sko := { s.sko with rx := putRx s.sko.rx k c } }

/-- A receiving end changed; one that is gone stays so.
Assumption log: 185 (DESIGN CHOICE). -/
def State.onRx (s : State) (k : Nat) (f : RxConn → RxConn) : State :=
  match s.rxOf k with
  | some c => s.setRx k (f c)
  | none => s

/-- The number under which operations of a connection wait for the tiered space. -/
def waitKey (k : Nat) : Nat := k + 1

/-- Bytes of the receive buffer in use (R387).
Assumption log: 190 (DESIGN CHOICE). -/
def State.rxBytes (s : State) : Nat :=
  (s.sko.rx.map fun e => ((e.2.held ++ e.2.part).map fun p => p.data.length).sum).sum

/-- The credit that a receiver grants, in units of 4 KiB: a free value that never exceeds what the buffer of 32 MiB can hold (R387).
Assumption log: 190 (DESIGN CHOICE). -/
def State.grant (s : State) : Nat := min 65535 (s.free % ((33554432 - s.rxBytes) / 4096 + 1))

/-- The SACK bits of a receiving end (R384). -/
def RxConn.sack (c : RxConn) : Nat :=
  ((c.held.filter fun p => decide (1 ≤ psnDist c.next p.psn) && decide (psnDist c.next p.psn ≤ 64)).map
    fun p => 2 ^ (psnDist c.next p.psn - 1)).sum

/-- An ACK or a NAK goes to the source of a connection (R384). -/
def State.sendAck (s : State) (k syndrome code opId : Nat) : State :=
  match s.rxOf k with
  | none => s
  | some c =>
    let a : AckInfo := { peer := k / 8, cls := k % 8, next := c.next, sack := c.sack, window := s.grant, code := code, opId := opId }
    let s := s.nextFree.setRx k { c with unackedApplied := 0, ackSince := 0, lastAct := s.now }
    s.sendCtl (k % 8) (.ack syndrome a)

/-- A CNP goes to the source of a marked packet, at most one per CNP_GAP_NS; raw mode has no ECN (R389).
Assumption log: 20 (PRESUMED). -/
def State.sendCnp (s : State) (k : Nat) (p : Packet) : State :=
  match s.rxOf k with
  | none => s
  | some c =>
    let due := match c.lastCnp with
      | none => true
      | some t => decide (t + s.get F.SKO_CC_CNP_GAP_NS ≤ s.now)
    if p.ce && decide (s.sko.recd.mode < 2) && due then
      ((s.setRx k { c with lastCnp := some s.now }).sendCtl (k % 8) (.cnp (k / 8) (k % 8) p.path)).bump F.SKO_CNT_CC_CNP_TX 1
    else s

/-- Whether a packet of the next PSN is held. -/
def RxConn.ready (c : RxConn) : Option Packet := c.held.find? fun p => p.psn == c.next

/-- A gap below a held packet begins, lasts or is over.
Assumption log: 194 (DESIGN CHOICE). -/
def RxConn.noteGap (c : RxConn) (now : Nat) : RxConn :=
  if c.held.isEmpty || c.ready.isSome then { c with gapSince := none, gapTold := false }
  else { c with gapSince := some (c.gapSince.getD now) }

/-! Applying packets (R382, R400). -/

/-- A packet has been applied, or refused with a code: its PSN is used up.
Assumption log: 188 (DEDUCED). -/
def RxConn.used (c : RxConn) (now : Nat) (p : Packet) (part : List Packet) (failed : Bool) : RxConn :=
  { c with next := (c.next + 1) % 2 ^ 32, held := c.held.filter fun q => q.psn != p.psn, part := part, failed := failed, got := [],
           refusing := false, gapSince := none, gapTold := false, unackedApplied := c.unackedApplied + 1,
           ackSince := if c.unackedApplied = 0 then now else c.ackSince }

/-- A packet is used up; 16 newly applied ones draw an ACK (R384).
Assumption log: 188 (DEDUCED). -/
def State.usePacket (s : State) (k : Nat) (p : Packet) (part : List Packet) (failed : Bool) : State :=
  let s := s.onRx k fun c => c.used s.now p part failed
  match s.rxOf k with
  | some c => if 16 ≤ c.unackedApplied then s.sendAck k 0 0 0 else s
  | none => s

/-- A packet's operation is answered with NAK_ERR; the rest of it will not be applied (R392).
Assumption log: 187 (DEDUCED), 188 (DEDUCED). -/
def State.nakPacket (s : State) (k : Nat) (p : Packet) (code : Nat) : State :=
  let s := s.usePacket k p (if p.last then [] else [{ p with data := [] }]) (!p.last)
  (s.onRx k fun c => { c with naks := ((p.psn, p.opId, code) :: c.naks).take 256 }).sendAck k 2 code p.opId

/-- A response goes back on the connection to the requester, in the class of the request (R380). -/
def State.respond (s : State) (p : Packet) (d : List Byte) : State :=
  let op := if p.op = OP_READ then OP_READ_RESP else OP_ATOMIC_RESP
  s.sendTo { opId := p.opId, op := op, dst := p.src, cls := p.cls, gten := p.gten, total := d.length, data := d } p.src

/-- A message that finds no room is refused: what follows it is not held (R400).
Assumption log: 187 (DEDUCED). -/
def State.refusePacket (s : State) (k : Nat) (p : Packet) : State :=
  let s := s.onRx k fun c => { c with held := [], refusing := true, gapSince := none, gapTold := false }
  (s.sendAck k 1 0 p.opId).bump F.SKO_CNT_REL_RNR 1

/-- Operations that arrive whole before they are performed.
Assumption log: 189 (DESIGN CHOICE). -/
def wholeOp (op : Nat) : Bool :=
  op == OP_REDUCE || op == OP_MERGE || op == OP_HALDIO || op == OP_READ_RESP || op == OP_ATOMIC_RESP

/-- What the packet of the next PSN leads to: the state, and whether the packets behind it can be looked at.
Assumption log: 189 (DESIGN CHOICE). -/
def State.applyPacket (s : State) (k : Nat) (c : RxConn) (p : Packet) : State × Bool :=
  let goesOn := c.part.any fun q => q.opId == p.opId && q.op == p.op
  if !p.first ∧ !goesOn then (s.nakPacket k p E_MALFORMED, true)
  else if !p.first ∧ c.failed then (s.usePacket k p (if p.last then [] else c.part) (!p.last), true)
  else
    let before := if p.first then [] else c.part
    let whole := wholeOp p.op
    if !(whole || p.op == OP_WRITE) ∧ !(p.first && p.last) then (s.nakPacket k p E_MALFORMED, true)
    else if p.op = OP_HALDIO ∧ p.first ∧ !s.landRoom p.cls p.gten p.total p.data then (s.refusePacket k p, false)
    else if whole ∧ !p.last then (s.usePacket k p (before ++ [p]) false, true)
    else
      let d := (before ++ [p]).flatMap Packet.data
      let t := if p.op = OP_HALDIO then s.onRx k fun c => { c with part := [] } else s
      match t.perform (waitKey k) c.got p d with
      | .ok resp u =>
        let u := u.usePacket k p (if p.last then [] else [{ p with data := [] }]) false
        ((match resp with
          | some x => u.respond p x
          | none => u), true)
      | .err code u => (u.nakPacket k p code, true)
      | .wait u => (u, false)
      | .rnr u => (u, false)

/-- Packets are applied in PSN order as far as they have come (R382). -/
def State.drain (s : State) (k : Nat) : Nat → State
  | 0 => s
  | fuel + 1 =>
    match s.rxOf k with
    | none => s
    | some c =>
      if s.waitingConn (waitKey k) then s
      else match c.ready with
        | none => s.setRx k (c.noteGap s.now)
        | some p =>
          let x := s.applyPacket k c p
          if x.2 then x.1.drain k fuel else x.1

/-- A connection is looked at afresh. -/
def State.drainConn (s : State) (k : Nat) : State :=
  match s.rxOf k with
  | some c => s.drain k (c.held.length + 1)
  | none => s

/-- Every connection whose next packet is held and no longer waits goes on. -/
def State.drainAll (s : State) : State :=
  ((s.sko.rx.filter fun e => e.2.ready.isSome).map Prod.fst).foldl State.drainConn s

/-! Arrival (R377, R382, R386, R514). -/

/-- First and last offsets of the boot window.
Assumption log: 183 (DEDUCED). -/
def inBootWindow (a n : Nat) : Bool := decide (0x001000000000 ≤ a) && decide (a + n ≤ 0x001400000000)

/-- What is accepted until an image is active (R514).
Assumption log: 183 (DEDUCED), 184 (DEDUCED). -/
def State.bootAllows (s : State) (p : Packet) : Bool :=
  s.ctlFrom p.src &&
    (((p.op == OP_READ || p.op == OP_WRITE) && s.winOf p.offset == .control && p.total == 8) ||
      ((p.op == OP_READ || p.op == OP_WRITE || p.op == OP_WRITE_FLAG) && inBootWindow p.offset p.total))

/-- Whether the engine takes a packet for this node.
Assumption log: 182 (DEDUCED). -/
def State.takesPacket (s : State) (p : Packet) : Bool :=
  s.sko.enabled && p.dst == s.node && (s.img.active.isSome || s.bootAllows p)

/-- A packet of a connection that is held.
Assumption log: 186 (DEDUCED). -/
def State.rxHold (s : State) (k : Nat) (p : Packet) : State :=
  match s.rxOf k with
  | none => s
  | some c =>
    let d := psnDist c.next p.psn
    let s := s.setRx k { c with lastAct := s.now }
    if 2 ^ 31 ≤ d then
      match c.naks.find? fun n => n.1 == p.psn with
      | some n => s.sendAck k 2 n.2.2 n.2.1
      | none => s.sendAck k 0 0 0
    else if 256 < d ∨ (c.refusing ∧ d ≠ 0) ∨ c.held.any fun q => q.psn == p.psn then s
    else ((s.onRx k fun c => { c with held := c.held ++ [p] }).sendCnp k p).drainConn k

/-- The RESYNC that answers a packet of a connection that is not held (R386).
Assumption log: 186 (DEDUCED). -/
def State.resync (s : State) (p : Packet) : State :=
  (s.sendCtl (p.cls % 8) (.ack 3 { peer := p.src, cls := p.cls % 8 })).bump F.SKO_CNT_REL_RESYNC 1

/-- A packet that the port has passed on.
Assumption log: 185 (DESIGN CHOICE). -/
def State.rxPacket (s : State) (p : Packet) : State :=
  if !s.takesPacket p then s.bump F.SKO_CNT_DROP_ADDR 1
  else
    let s := s.bump F.SKO_CNT_RX_PACKETS 1
    let k := connKey p.src (p.cls % 8)
    if (s.rxOf k).isSome then s.rxHold k p
    else if p.syn ∧ p.psn = 0 then
      (if 65536 ≤ s.sko.rx.length then s else ((s.setRx k {}).countConns).rxHold k p)
    else s.resync p

/-- What the arrival of a packet, or the end of an operation, leads to elsewhere. -/
def State.settleNet (s : State) : State := s.drainAll.ncSettle

/-! The node's own loop (R381). -/

/-- The number under which the loop's operations of a class wait for the tiered space. -/
def loopKey (cls : Nat) : Nat := 0x1000000 + cls

/-- The operation of the loop that may be performed next among those that meet a condition: the first of its class, and a WRITE_FLAG behind
every store of its unit (R393, R394).
Assumption log: 196 (DEDUCED). -/
def loopFront (ok : OutOp → Bool) : List OutOp → List OutOp → Option OutOp
  | _, [] => none
  | seen, o :: r =>
    let shut := seen.any fun x => x.cls == o.cls || (o.op == OP_WRITE_FLAG && x.issuer == o.issuer && x.flagged)
    if ok o && !shut then some o else loopFront ok (seen ++ [o]) r

/-- The packet that an operation of the loop would be if it were one.
Assumption log: 196 (DEDUCED). -/
def State.loopPacket (s : State) (o : OutOp) : Packet :=
  { op := o.op, cls := o.cls, src := s.node, dst := s.node, gten := o.gten, opId := o.opId, offset := o.offset, total := o.total, sub := o.sub,
    operand := o.operand, mcast := o.mcast, group := o.group, data := o.data }

/-- An operation of the loop is over. -/
def State.loopDone (s : State) (o : OutOp) (code : Nat) (d : List Byte) : State :=
  if s.sko.loop.any fun x => x.opId == o.opId then
    let s := { s with sko := { s.sko with loop := s.sko.loop.filter fun x => x.opId != o.opId } }
    if o.mcast then s.endAt o.opId s.node code d else (s.tellIssuer o code d).settleFlags
  else s

/-- An operation of the loop is performed; one whose message finds no room stays.
Assumption log: 196 (DEDUCED). -/
def State.loopRun (s : State) (ok : OutOp → Bool) : State :=
  match loopFront ok [] s.sko.loop with
  | none => s
  | some o =>
    let p := s.loopPacket o
    if s.waitingConn (loopKey o.cls) ∨ (o.op = OP_HALDIO ∧ !s.landRoom o.cls o.gten o.total o.data) then s
    else match s.perform (loopKey o.cls) o.got p o.data with
      | .ok resp t => t.loopDone o E_NONE (resp.getD [])
      | .err code t => t.loopDone o code []
      | .wait t => t
      | .rnr t => t

/-- An operation that reaches the engine: a packet of a peer, or the loop's next one; a command that names another operation does nothing.
Assumption log: 182 (DEDUCED). -/
def State.arrive (s : State) (rx : Rx) (ok : Nat → List Byte → Bool) : State :=
  match rx with
  | .wire p => if ok p.op p.data then (s.rxPacket p).settleNet else s
  | .loop => (s.loopRun fun o => ok o.op o.data).settleNet

/-! The commands. -/

/-- READ (R392). -/
def execRead (rx : Rx) (s : State) : Res := s.live <| .next (s.arrive rx fun op _ => op == OP_READ)
/-- WRITE (R392). -/
def execWrite (rx : Rx) (s : State) : Res := s.live <| .next (s.arrive rx fun op _ => op == OP_WRITE)
/-- WRITE_FLAG (R394). -/
def execWriteFlag (rx : Rx) (s : State) : Res := s.live <| .next (s.arrive rx fun op _ => op == OP_WRITE_FLAG)
/-- ATOMIC (R390). -/
def execAtomic (rx : Rx) (s : State) : Res := s.live <| .next (s.arrive rx fun op _ => op == OP_ATOMIC)
/-- REDUCE (R391). -/
def execReduceOp (rx : Rx) (s : State) : Res := s.live <| .next (s.arrive rx fun op _ => op == OP_REDUCE)
/-- MERGE (R265, R396). -/
def execMerge (rx : Rx) (s : State) : Res := s.live <| .next (s.arrive rx fun op _ => op == OP_MERGE)
/-- HALDIO (R399). -/
def execHaldio (rx : Rx) (s : State) : Res := s.live <| .next (s.arrive rx fun op _ => op == OP_HALDIO)
/-- CANCEL (R403). -/
def execCancel (rx : Rx) (s : State) : Res := s.live <| .next (s.arrive rx fun op d => op == OP_HALDIO && at_ d 1 1 == T_CANCEL)
/-- REDIRECT (R401). -/
def execRedirect (rx : Rx) (s : State) : Res := s.live <| .next (s.arrive rx fun op d => op == OP_HALDIO && at_ d 1 1 == T_REDIRECT)
/-- READ_RESP (R383). -/
def execReadResp (p : Packet) (s : State) : Res := s.live <| .next (s.arrive (.wire p) fun op _ => op == OP_READ_RESP)
/-- ATOMIC_RESP (R383). -/
def execAtomicResp (p : Packet) (s : State) : Res := s.live <| .next (s.arrive (.wire p) fun op _ => op == OP_ATOMIC_RESP)

/-- ACK_TIMER: 1 µs has passed with a packet applied and not acknowledged, or a gap has lasted REORDER_NS (R384). -/
def State.ackTimer (s : State) (k : Nat) : State :=
  match s.rxOf k with
  | none => s
  | some c =>
    let gap := if c.gapTold then none else c.gapSince.map (· + s.get F.SKO_CFG_REORDER_NS)
    let app := if c.unackedApplied = 0 then none else some (c.ackSince + 1000)
    match earlier app gap with
    | none => s
    | some t =>
      let told := c.gapTold || (match gap with
        | some g => decide (g ≤ max t s.now)
        | none => false)
      ((s.reach t).setRx k { c with gapTold := told }).sendAck k 0 0 0

/-- ACK_TIMER (R384). -/
def execAckTimer (peer cls : Nat) (s : State) : Res := s.live <| onUnit (cls < 8) (s.ackTimer (connKey peer cls))

/-- The instant at which an end that was last active then is idle (R386).
Assumption log: 195 (DESIGN CHOICE). -/
def State.idleAt (s : State) (last : Nat) : Nat := last + beatsNs (s.get F.SKO_CFG2_CONN_IDLE)

/-- CONN_IDLE: an end of a connection with nothing outstanding is dropped (R386).
Assumption log: 195 (DESIGN CHOICE). -/
def State.connIdle (s : State) (k : Nat) (incoming : Bool) : State :=
  if incoming then
    match s.rxOf k with
    | some c =>
      if c.held.isEmpty && c.part.isEmpty && c.unackedApplied == 0 then
        let s := s.reach (s.idleAt c.lastAct)
        State.countConns { s with sko := { s.sko with rx := s.sko.rx.filter fun e => e.1 != k } }
      else s
    | none => s
  else
    match s.txOf k with
    | some c =>
      if c.unacked.isEmpty && c.waiting.isEmpty && (s.opsOn k).isEmpty then
        let s := s.reach (s.idleAt c.lastAct)
        State.countConns { s with sko := { s.sko with tx := s.sko.tx.filter fun e => e.1 != k } }
      else s
    | none => s

/-- CONN_IDLE (R386). -/
def execConnIdle (peer cls : Nat) (incoming : Bool) (s : State) : Res := s.live <| onUnit (cls < 8) (s.connIdle (connKey peer cls) incoming)

end Sys2Proof.Machine
end

