-- ==== Sys2Proof/Machine/Frames.lean ====
section
/-! DEFINITION. A frame at the MDI (R363 to R371): acceptance, its class, its receive share, and delivery by Ethertype; the addresses of Skorath
frames (R375, R377). -/

namespace Sys2Proof.Machine

/-! Skorath addresses (R375, R377). -/

/-- The node that the low bits of an IP address name in a mode. -/
def ipNode (mode ip : Nat) : Nat := if mode = 1 then ip % 2 ^ 15 else ip % 2 ^ 16

/-- The rest of an IP address. -/
def ipHigh (mode ip : Nat) : Nat := if mode = 1 then ip / 2 ^ 15 else ip / 2 ^ 16

/-- The node that octets 4 and 5 of a raw address name; the first octet is the lowest byte. -/
def macNode (m : Nat) : Nat := bitsAt m 32 8 * 256 + bitsAt m 40 8

/-- Whether the headers before a Skorath header are meant for this node. -/
def State.skoAddr (s : State) (f : Frame) (h : NetHdr) : Bool :=
  let r := s.sko.recd
  match r.mode with
  | 0 => f.ethertype == 0x86DD && h.ver == 0 && ipHigh 0 h.dstIp == ipHigh 0 r.ipPfx && ipNode 0 h.dstIp == r.node && h.dport == r.dport
  | 1 => f.ethertype == 0x0800 && h.ver == 1 && ipHigh 1 h.dstIp == ipHigh 1 r.ipPfx && ipNode 1 h.dstIp == r.node && h.dport == r.dport
  | _ => f.ethertype == r.ethertype

/-- Whether the source address is that of a node. -/
def State.skoSource (s : State) (f : Frame) (h : NetHdr) (node : Nat) : Bool :=
  let r := s.sko.recd
  if r.mode ≤ 1 then ipHigh r.mode h.srcIp == ipHigh r.mode r.ipPfx && ipNode r.mode h.srcIp == node
  else f.src % 2 ^ 32 == r.macPfx && macNode f.src == node

/-- A Skorath frame for which a rule of R377 fails is dropped and counted; the Boolean says that it may go on.
Assumption log: 111 (DEDUCED), 182 (DEDUCED). -/
def State.skoChecks (s : State) (f : Frame) (h : NetHdr) (src dst : Nat) : Bool × State :=
  if !s.sko.enabled || !s.skoAddr f h || dst != s.node then (false, s.bump F.SKO_CNT_DROP_ADDR 1)
  else if !s.skoSource f h src then (false, s.bump F.SKO_CNT_DROP_SPOOF 1)
  else if decide (s.sko.recd.mode ≤ 1) && h.csumBad then (false, s.bump F.SKO_CNT_DROP_CSUM 1)
  else (true, s)

/-- An ACK or NAK by its SYNDROME (R384); a reserved one does nothing.
Assumption log: 184 (DEDUCED). -/
def State.onSyndrome (s : State) (syn : Nat) (a : AckInfo) : State :=
  match syn with
  | 0 => s.onAck a
  | 1 => s.onNakRnr a
  | 2 => s.onNakErr a
  | 3 => s.onResync a
  | _ => s

/-- Whether the peer of an ACK or a CNP may be heard: until an image is active, only a node that may use the control window (R514). -/
def State.hearsPeer (s : State) (peer : Nat) : Bool := s.img.active.isSome || s.ctlFrom peer

/-- A frame that the port gives to the Skorath engine.
Assumption log: 182 (DEDUCED). -/
def State.skoFrame (s : State) (f : Frame) : State :=
  match f.body with
  | .sko h p => let x := s.skoChecks f h p.src p.dst; if x.1 then x.2.rxPacket p else x.2
  | .ack h dst syn a =>
    let x := s.skoChecks f h a.peer dst
    if !x.1 then x.2
    else if s.hearsPeer a.peer then (x.2.bump F.SKO_CNT_RX_PACKETS 1).onSyndrome syn a
    else x.2.bump F.SKO_CNT_DROP_ADDR 1
  | .cnp h dst peer cls path =>
    let x := s.skoChecks f h peer dst
    if !x.1 then x.2
    else if s.hearsPeer peer then (x.2.bump F.SKO_CNT_RX_PACKETS 1).onCnp (connKey peer (cls % 8)) path
    else x.2.bump F.SKO_CNT_DROP_ADDR 1
  | _ => s.bump F.SKO_CNT_DROP_ADDR 1

/-! Delivery (R365). -/

/-- Ethertypes that go to the Skorath engine: both of IP, and in raw mode its own. -/
def State.skoType (s : State) (et : Nat) : Bool :=
  et == 0x0800 || et == 0x86DD || (s.sko.enabled && s.sko.recd.mode == 2 && et == s.sko.recd.ethertype)

/-- A frame delivered by its Ethertype; PTP over UDP goes to the PTP unit. -/
def State.deliver (s : State) (f : Frame) : State :=
  match f.body with
  | .ptp m =>
    if f.ethertype = 0x88F7 ∨ f.ethertype = 0x0800 ∨ f.ethertype = 0x86DD then s.ptpReceived { m with transport := ptpTransport f.ethertype }
    else s.bump F.PORT_DROP_CNT_ETYPE 1
  | _ =>
    if s.skoType f.ethertype then s.skoFrame f
    else if f.ethertype = 0x88F7 then s
    else s.bump F.PORT_DROP_CNT_ETYPE 1

/-- A frame takes its place in the receive share of its class, which holds `share` bytes before it; one for which there is none is dropped
(R367).
Assumption log: 109 (DESIGN CHOICE). -/
def State.takeShare (s : State) (f : Frame) (c share : Nat) : State :=
  if 524288 < share + f.len then s.bump F.PORT_DROP_CNT_OVERRUN 1
  else ((s.setShare c (share + f.len)).deliver f).settleNet

/-- Whether a frame carries PTP.
Assumption log: 111 (DEDUCED). -/
def framePtp (f : Frame) : Bool :=
  match f.body with
  | .ptp _ => true
  | _ => false

/-- MACsec, tags and share of a frame that is for this port.
Assumption log: 110 (DEDUCED). -/
def State.acceptFrame (s : State) (f : Frame) (share : Nat) : State :=
  let x := s.secStage f (framePtp f)
  if !x.1 then x.2
  else match x.2.vlanClass f with
    | none => x.2.bump F.PORT_DROP_CNT_VLAN 1
    | some c => x.2.takeShare f c share

/-- FRAME_RECEIVED: length and FCS come first, then the address; MAC control frames are consumed (R363, R365, R366). -/
def State.frameReceived (s : State) (f : Frame) (share : Nat) : State :=
  if s.linkState ≠ LK_UP then s
  else if 9216 < f.len then s.bump F.PORT_DROP_CNT_OVERSIZE 1
  else if f.len < 64 ∨ !f.fcsOk then s.bump F.PORT_DROP_CNT_FCS 1
  else if f.ethertype = 0x8808 then
    match f.body with
    | .pfc qs => if f.dst = macControl ∨ s.takesAddr f.dst then s.pfcReceived qs else s
    | _ => s.bump F.PORT_DROP_CNT_ETYPE 1
  else if s.takesAddr f.dst then s.acceptFrame f share
  else s

/-- FRAME_RECEIVED (R363). -/
def execFrameReceived (frame : Frame) (share : Nat) (s : State) : Res := s.live <| .next (s.frameReceived frame share)

end Sys2Proof.Machine
end

