-- ==== Sys2Proof/Machine/Late.lean ====
section
/-! DEFINITION. The tier manager's completions, and the operations of other nodes that waited for them (R176, R179 to R183, R187, R191, R194). -/

namespace Sys2Proof.Machine

/-- Whether a thin scan reads a page, which no move may then take away (R218).
Assumption log: 45 (DEDUCED). -/
def State.thinOn (s : State) (p : Nat) : Bool := s.ls.thins.any fun x => x.run.page == p

/-- A page's extent has been read for the operation that waits on a connection. -/
def State.noteGot (s : State) (p key : Nat) : State :=
  let s := match s.rxOf (key - 1) with
    | some c => if waitKey (key - 1) = key ∧ key < 0x1000000 then s.setRx (key - 1) { c with got := p :: c.got } else s
    | none => s
  { s with sko := { s.sko with loop := s.sko.loop.map fun o => if loopKey o.cls = key then { o with got := p :: o.got } else o } }

/-- DEMOTION_SWEEP (R180).
Assumption log: 42 (DEDUCED). -/
def execDemotionSweep (s : State) : Res := s.live <| .next s.demotionSweep.settleNet

/-- PROMOTION_DONE (R179). -/
def execPromotionDone (page : Nat) (s : State) : Res := s.live <| .next (s.promotionDone page).settleNet

/-- A demotion that waits for room on its carrier is counted once (R345).
Assumption log: 45 (DEDUCED). -/
def State.throttle (s : State) (d : Demotion) : State :=
  if d.waited then s
  else
    let ds := s.tier.demos.map fun e => if e.page = d.page then { e with waited := true } else e
    { s with tier := { s.tier with demos := ds } }.bump (F.FL_CAR_CNT_EXC_THROTTLED d.carrier) 1

/-- DEMOTION_DONE: not while a scan reads the frame, nor while the carrier suspends writes or admits none (R181, R345, R346, R351).
Assumption log: 45 (DEDUCED). -/
def State.demotionEnd (s : State) (p : Nat) : State :=
  match s.tier.demos.find? fun d => d.page == p with
  | none => s
  | some d =>
    if s.thinOn p then s
    else if d.zero || s.carState d.carrier != CS_ONLINE then s.demotionDone p
    else if s.flHeld d.carrier then s
    else match s.flAdmit d.carrier d.blocks with
      | some t => t.demotionDone p
      | none => s.throttle d

/-- DEMOTION_DONE (R181). -/
def execDemotionDone (page : Nat) (s : State) : Res := s.live <| .next (s.demotionEnd page).settleNet

/-- TIER_FLASH_READ_DONE: the operations that waited for the extent go on with it (R187). -/
def State.tierRead (s : State) (p : Nat) : State :=
  let x := s.flashReadDone p
  x.2.foldl (fun s k => s.noteGot p k) x.1

/-- TIER_FLASH_READ_DONE (R187). -/
def execTierFlashReadDone (page : Nat) (s : State) : Res := s.live <| .next (s.tierRead page).settleNet

/-- ZERO_PAGE (R191). -/
def execZeroPage (s : State) : Res := s.live <| .next s.zeroPage.settleNet

/-- PAGE_CUT_COMPLETE: writes and scans admitted before the cut finish first (R194).
Assumption log: 45 (DEDUCED). -/
def State.cutComplete (s : State) (k : Nat) : State := if s.thinOn (s.get (F.TIER_MIG_OBJ_ID k)) then s else s.pageCut k

/-- PAGE_CUT_COMPLETE (R194). -/
def execPageCutComplete (slot : Nat) (s : State) : Res := s.live <| onUnit (slot < 16) (s.cutComplete slot).settleNet

end Sys2Proof.Machine
end

