-- ==== Sys2Proof/Machine/Load.lean ====
section
/-! DEFINITION. The end of a full load (R61, R63, R65, R73, R76, R138, R374, R427, R471, R511). -/

namespace Sys2Proof.Machine

/-- The body of a node-wide section; empty where there is none. -/
def nodeBody (bs : List SecBody) (ty : Nat) : List Byte := ((bs.find? fun x => x.sec.ty == ty).map SecBody.body).getD []

/-- EVT_DEST d from an entry of CTRL_NODE (R471). -/
def State.destFrom (s : State) (d entry : Nat) : State :=
  ((s.set (F.EVT_DEST_NODE d) entry).set (F.EVT_DEST_MIN_SEV d) 1).setBit (F.EVT_DEST_EN d) (entry != 0xFFFF)

/-- The Skorath record is applied, and with it the destinations of events (R61, R374, R471). -/
def State.applySko (s : State) (b : List Byte) : State :=
  let r := skoRecordOf (b.take 512)
  let s := { s with sko := { s.sko with recd := r, enabled := true } }
  [0, 1, 2, 3].foldl (fun s d => s.destFrom d (r.ctrlNode.getD d 0xFFFF)) s

/-- Entries applied as register writes, in order (R61, R427). -/
def State.applyWrites (s : State) (es : List (Nat × Nat)) : State :=
  es.foldl (fun s e => s.ctlWrite e.1 (BitVec.ofNat 64 e.2)) s

/-- The registers that an image sets: NODE_CFG, TRAFFIC, ENGINE_CFG (R61).
Assumption log: 170 (DEDUCED). -/
def State.applyRegs (s : State) (bs : List SecBody) : State :=
  let s := s.applySko (nodeBody bs 1)
  let s := s.applyWrites (writeEntries 0xF00000000000 (nodeBody bs 1) 512)
  let s := s.applyWrites (writeEntries 0xF00052000000 (nodeBody bs 6) 0)
  s.applyWrites (writeEntries 0xF00000000000 (nodeBody bs 8) 0)

/-- A ring as its entry of the RING section places it (R138): producer and owner by their numbers, a tile by its linear one. -/
def ringOf (e : List Byte) : RingSt :=
  let who (kind v : Nat) : Nat := if kind = 1 then (tileOfId v).getD 0 else v
  { base := reBase e, size := 2 ^ reLog e, prodKind := reProd e, ownerKind := reOwn e,
    producer := who (reProd e) (at_ e 12 2), owner := who (reOwn e) (at_ e 14 2) }

/-- A ring of the image, empty. -/
def State.placeRing (s : State) (e : List Byte) : State :=
  let g := ringOf e
  ((s.setRing (reId e) g).putNum g.tailAddr 8 0).putNum g.headAddr 8 0

/-- The image's rings take the place of the ones before; tiles watch the rings they own, in the order of the section (R138, R139). The
node's own rings, of 8,192 upwards, stay. -/
def State.placeRings (s : State) (es : List (List Byte)) : State :=
  let s := { s with rings := s.rings.filter fun e => decide (8192 ≤ e.1) }
  let s := es.foldl State.placeRing s
  (List.range Config.numTiles).foldl (fun s t =>
    let mine := (es.filter fun e => reOwn e == 1 && tileOfId (at_ e 14 2) == some t).map reId
    if mine = (s.tile t).watches then s else s.setTile t { s.tile t with watches := mine }) s

/-- A panel gives up its tiles. -/
def State.clearPanel (s : State) (p : Nat) : State :=
  let old := (s.panel p).tiles
  let s := (s.setPanel p {}).set (F.IMG_PANEL_STATE_NTILES p) 0
  let s := ((s.setPanState p PS_FREE).set (F.IMG_PANEL_STATE_ROLE p) 0).setBit (F.IMG_PANEL_STATE_STALE p) false
  old.foldl State.freeTile s

/-- A panel of the image is loaded and takes tokens. -/
def State.placePanel (s : State) (i : Image) (bs : List SecBody) (p : Nat) : State :=
  match i.panel p with
  | none => s
  | some d =>
    let bodies := (bs.filter fun x => panelScoped x.sec.ty && x.sec.panel == p).map SecBody.body
    (s.loadPanel p d bodies).setPanState p PS_ACTIVE

/-- The first image of a node makes it READY (R511); READY_MS counts from the rise of RESET_N. -/
def State.becomeReady (s : State) : State :=
  if s.phaseNow = BP_READY then s
  else
    let s := if s.phaseNow = BP_CARRIER_IMAGE then (s.setBit F.NCTL_BOOT_FROM_CARRIER true).set F.NCTL_BOOT_CARRIER s.ctl.boot.tried else s
    (s.set F.NCTL_BOOT_READY_MS ((s.now - s.ctl.boot.t0) / 1000000)).setPhase BP_READY

/-- The full load is over.
Assumption log: 170 (DEDUCED). -/
def State.fullOver (s : State) : State :=
  { s with img := { s.img with full := 0, held := [] } }.setBit F.IMG_STATUS_FULL_BUSY false

/-- A body has failed its digest: nothing is changed, and the panels go on (R63, R73). A boot slot is given up (R513).
Assumption log: 171 (DEDUCED). -/
def State.fullFailed (s : State) : State :=
  let s := ((panelIds.foldl State.restorePanel s).imgResult IR_DIGEST).fullOver
  if s.phaseNow = BP_CARRIER_IMAGE then ((s.unstage).imgResult IR_DIGEST).bootReject s.ctl.boot.tried IR_DIGEST else s

/-- Maps of a full load: its ROUTE_EPOCH is current at once, with no window (R76). -/
def State.fullMaps (s : State) (i : Image) : State :=
  let s := s.endWindow.set F.IMG_MAP_CURRENT i.routeEpoch
  { s with img := { s.img with routes := i.routes, tenants := i.tenants, oldCopies := [] } }

/-- Every section of an image whose bodies hold is loaded (R76).
Assumption log: 170 (DEDUCED). -/
def State.fullApply (s : State) (i : Image) (bs : List SecBody) : State :=
  let s := s.textAbort
  let s := (s.applyRegs bs).fullMaps i
  let s := panelIds.foldl State.clearPanel s
  let s := s.placeRings (ringEntries (ringBody bs))
  let s := panelIds.foldl (fun s p => s.placePanel i bs p) s
  let s := { (s.extendImage 2 2 i) with img := { s.img with active := some i } }.set F.IMG_ACTIVE_ID_ID i.id
  (s.unstage.fullOver.raise EV_IMAGE_PROMOTED 0 []).becomeReady

/-- The load of a drained node ends: all bodies are read and checked first (R63, R76). -/
def State.fullDone (s : State) : State :=
  match s.img.full, s.img.staged with
  | 2, some i =>
    let x := s.readBodies i.addr i.sections
    match x.1 with
    | none => x.2.fullFailed
    | some bs => x.2.fullApply i bs
  | _, _ => s

/-- FULL_LOAD_DONE (R76). -/
def execFullLoadDone (s : State) : Res := s.live <| .next s.fullDone

end Sys2Proof.Machine
end

