-- ==== Sys2Proof/Machine/Dispatch.lean ====
section
/-! DEFINITION. The dispatch of a command to its meaning: one arm for each constructor. -/

namespace Sys2Proof.Machine

/-- What a command does to everything but the queue. -/
def exec (i : Instr) (s : State) : Host.Outcome State Fault Refusal :=
  match i with
  | .registerWrite offset value => Sys2Proof.Machine.execRegisterWrite offset value s
  | .tailWrite ring value => Sys2Proof.Machine.execTailWrite ring value s
  | .creditReturn ring head => Sys2Proof.Machine.execCreditReturn ring head s
  | .tokenTake tile => Sys2Proof.Machine.execTokenTake tile s
  | .ptpMeasurement master => Sys2Proof.Machine.execPtpMeasurement master s
  | .ppsEdge => Sys2Proof.Machine.execPpsEdge s
  | .ptpParentLost => Sys2Proof.Machine.execPtpParentLost s
  | .holdoverEntry => Sys2Proof.Machine.execHoldoverEntry s
  | .holdoverDegrade => Sys2Proof.Machine.execHoldoverDegrade s
  | .acceptStep => Sys2Proof.Machine.execAcceptStep s
  | .rejectStep => Sys2Proof.Machine.execRejectStep s
  | .disarmAll => Sys2Proof.Machine.execDisarmAll s
  | .arm entry => Sys2Proof.Machine.execArm entry s
  | .disarm entry => Sys2Proof.Machine.execDisarm entry s
  | .beatBoundary => Sys2Proof.Machine.execBeatBoundary s
  | .armedEventDispatch => Sys2Proof.Machine.execArmedEventDispatch s
  | .stage => Sys2Proof.Machine.execStage s
  | .stagingDone => Sys2Proof.Machine.execStagingDone s
  | .discard => Sys2Proof.Machine.execDiscard s
  | .promote => Sys2Proof.Machine.execPromote s
  | .applyFull => Sys2Proof.Machine.execApplyFull s
  | .fullLoadDone => Sys2Proof.Machine.execFullLoadDone s
  | .panelDrainDone panel => Sys2Proof.Machine.execPanelDrainDone panel s
  | .panelDrainTimeout panel => Sys2Proof.Machine.execPanelDrainTimeout panel s
  | .panelLoadStart panel => Sys2Proof.Machine.execPanelLoadStart panel s
  | .panelLoadDone panel => Sys2Proof.Machine.execPanelLoadDone panel s
  | .panelActivated panel => Sys2Proof.Machine.execPanelActivated panel s
  | .dovetailExpiry => Sys2Proof.Machine.execDovetailExpiry s
  | .matmul tile => Sys2Proof.Machine.execMatmul tile s
  | .reduce tile => Sys2Proof.Machine.execReduce tile s
  | .rotate tile => Sys2Proof.Machine.execRotate tile s
  | .quantise tile => Sys2Proof.Machine.execQuantise tile s
  | .dequantise tile => Sys2Proof.Machine.execDequantise tile s
  | .elemwise tile => Sys2Proof.Machine.execElemwise tile s
  | .activate tile => Sys2Proof.Machine.execActivate tile s
  | .normalise tile => Sys2Proof.Machine.execNormalise tile s
  | .attend tile => Sys2Proof.Machine.execAttend tile s
  | .pqTable tile => Sys2Proof.Machine.execPqTable tile s
  | .denseScan tile => Sys2Proof.Machine.execDenseScan tile s
  | .coarse tile => Sys2Proof.Machine.execCoarse tile s
  | .rerank tile => Sys2Proof.Machine.execRerank tile s
  | .topk tile => Sys2Proof.Machine.execTopk tile s
  | .maskLogits tile => Sys2Proof.Machine.execMaskLogits tile s
  | .sample tile => Sys2Proof.Machine.execSample tile s
  | .gradAccum tile => Sys2Proof.Machine.execGradAccum tile s
  | .optStep tile => Sys2Proof.Machine.execOptStep tile s
  | .send tile => Sys2Proof.Machine.execSend tile s
  | .tileCreditStall tile => Sys2Proof.Machine.execTileCreditStall tile s
  | .tileHang tile => Sys2Proof.Machine.execTileHang tile s
  | .tileHalt tile => Sys2Proof.Machine.execTileHalt tile s
  | .tileResume tile => Sys2Proof.Machine.execTileResume tile s
  | .tileStep tile => Sys2Proof.Machine.execTileStep tile s
  | .scorePq stack unit => Sys2Proof.Machine.execScorePq stack unit s
  | .dotI8 stack unit => Sys2Proof.Machine.execDotI8 stack unit s
  | .gatherRow stack unit => Sys2Proof.Machine.execGatherRow stack unit s
  | .replaceRow stack unit => Sys2Proof.Machine.execReplaceRow stack unit s
  | .rmwRow stack unit => Sys2Proof.Machine.execRmwRow stack unit s
  | .fence stack unit => Sys2Proof.Machine.execFence stack unit s
  | .loadTslot stack first data => Sys2Proof.Machine.execLoadTslot stack first data s
  | .loadFilter stack slot data => Sys2Proof.Machine.execLoadFilter stack slot data s
  | .scrub stack offset => Sys2Proof.Machine.execScrub stack offset s
  | .inlayParityError stack unit => Sys2Proof.Machine.execInlayParityError stack unit s
  | .inlayCmdHang stack unit => Sys2Proof.Machine.execInlayCmdHang stack unit s
  | .inlayOnline stack unit => Sys2Proof.Machine.execInlayOnline stack unit s
  | .inlayCopyDone stack unit => Sys2Proof.Machine.execInlayCopyDone stack unit s
  | .heatHalving => Sys2Proof.Machine.execHeatHalving s
  | .demotionSweep => Sys2Proof.Machine.execDemotionSweep s
  | .promotionDone page => Sys2Proof.Machine.execPromotionDone page s
  | .demotionDone page => Sys2Proof.Machine.execDemotionDone page s
  | .tierFlashReadDone page => Sys2Proof.Machine.execTierFlashReadDone page s
  | .latePoint src reqId => Sys2Proof.Machine.execLatePoint src reqId s
  | .zeroPage => Sys2Proof.Machine.execZeroPage s
  | .migStart slot => Sys2Proof.Machine.execMigStart slot s
  | .migCopyDone slot => Sys2Proof.Machine.execMigCopyDone slot s
  | .migAbort slot => Sys2Proof.Machine.execMigAbort slot s
  | .migFree slot => Sys2Proof.Machine.execMigFree slot s
  | .migConfirm slot => Sys2Proof.Machine.execMigConfirm slot s
  | .migRevert slot => Sys2Proof.Machine.execMigRevert slot s
  | .pageCutComplete slot => Sys2Proof.Machine.execPageCutComplete slot s
  | .rowCutSend slot => Sys2Proof.Machine.execRowCutSend slot s
  | .rowInstall node table row data => Sys2Proof.Machine.execRowInstall node table row data s
  | .rowCutAck slot => Sys2Proof.Machine.execRowCutAck slot s
  | .migrateStall slot => Sys2Proof.Machine.execMigrateStall slot s
  | .queryLs ring => Sys2Proof.Machine.execQueryLs ring s
  | .lsCoarseDone src reqId => Sys2Proof.Machine.execLsCoarseDone src reqId s
  | .lsTableDone src reqId => Sys2Proof.Machine.execLsTableDone src reqId s
  | .gatherWindowClose => Sys2Proof.Machine.execGatherWindowClose s
  | .lsDenseDone tag => Sys2Proof.Machine.execLsDenseDone tag s
  | .thinResult stack unit => Sys2Proof.Machine.execThinResult stack unit s
  | .lsRerankDone src reqId => Sys2Proof.Machine.execLsRerankDone src reqId s
  | .lsModelDone src reqId keys => Sys2Proof.Machine.execLsModelDone src reqId keys s
  | .append ring => Sys2Proof.Machine.execAppend ring s
  | .deleteVec ring => Sys2Proof.Machine.execDeleteVec ring s
  | .lsIndexEnable slot => Sys2Proof.Machine.execLsIndexEnable slot s
  | .lsIndexDisable slot => Sys2Proof.Machine.execLsIndexDisable slot s
  | .shadowDone => Sys2Proof.Machine.execShadowDone s
  | .queryGw ring => Sys2Proof.Machine.execQueryGw ring s
  | .walkStart wslot => Sys2Proof.Machine.execWalkStart wslot s
  | .gwScoreDone wslot => Sys2Proof.Machine.execGwScoreDone wslot s
  | .walkExpansion wslot => Sys2Proof.Machine.execWalkExpansion wslot s
  | .gwPairDone wslot => Sys2Proof.Machine.execGwPairDone wslot s
  | .insert ring => Sys2Proof.Machine.execInsert ring s
  | .gwDelete ring => Sys2Proof.Machine.execGwDelete ring s
  | .compact ring => Sys2Proof.Machine.execCompact ring s
  | .setEdges ring => Sys2Proof.Machine.execSetEdges ring s
  | .gwIndexEnable slot => Sys2Proof.Machine.execGwIndexEnable slot s
  | .gwIndexDisable slot => Sys2Proof.Machine.execGwIndexDisable slot s
  | .selTopkDone src reqId => Sys2Proof.Machine.execSelTopkDone src reqId s
  | .merge rx => Sys2Proof.Machine.execMerge rx s
  | .mergeDeadline buf => Sys2Proof.Machine.execMergeDeadline buf s
  | .mergeIdleTimeout buf => Sys2Proof.Machine.execMergeIdleTimeout buf s
  | .payloadLookupDone src reqId => Sys2Proof.Machine.execPayloadLookupDone src reqId s
  | .lookup ring => Sys2Proof.Machine.execLookup ring s
  | .rowCommandDone stack unit => Sys2Proof.Machine.execRowCommandDone stack unit s
  | .replace ring => Sys2Proof.Machine.execReplace ring s
  | .apply ring => Sys2Proof.Machine.execApply ring s
  | .load ring => Sys2Proof.Machine.execLoad ring s
  | .pin ring => Sys2Proof.Machine.execPin ring s
  | .unpin ring => Sys2Proof.Machine.execUnpin ring s
  | .tableFlipTimeout table => Sys2Proof.Machine.execTableFlipTimeout table s
  | .swap ring => Sys2Proof.Machine.execSwap ring s
  | .swapRowCommit table => Sys2Proof.Machine.execSwapRowCommit table s
  | .tableEnable table => Sys2Proof.Machine.execTableEnable table s
  | .tableDisable table => Sys2Proof.Machine.execTableDisable table s
  | .queryText ring => Sys2Proof.Machine.execQueryText ring s
  | .streamOpen ring => Sys2Proof.Machine.execStreamOpen ring s
  | .streamInput ring => Sys2Proof.Machine.execStreamInput ring s
  | .streamControl ring => Sys2Proof.Machine.execStreamControl ring s
  | .streamClose ring => Sys2Proof.Machine.execStreamClose ring s
  | .txtGen ring => Sys2Proof.Machine.execTxtGen ring s
  | .maskFetchDone stream => Sys2Proof.Machine.execMaskFetchDone stream s
  | .streamIdle stream => Sys2Proof.Machine.execStreamIdle stream s
  | .streamDeadline stream => Sys2Proof.Machine.execStreamDeadline stream s
  | .grammarEnable grammar => Sys2Proof.Machine.execGrammarEnable grammar s
  | .grammarDisable grammar => Sys2Proof.Machine.execGrammarDisable grammar s
  | .carrierInsert carrier kept model owner tierBlocks blocks => Sys2Proof.Machine.execCarrierInsert carrier kept model owner tierBlocks blocks s
  | .carrierRemoved carrier => Sys2Proof.Machine.execCarrierRemoved carrier s
  | .carrierIdentified carrier cert response nand => Sys2Proof.Machine.execCarrierIdentified carrier cert response nand s
  | .mountDone carrier ok => Sys2Proof.Machine.execMountDone carrier ok s
  | .format carrier => Sys2Proof.Machine.execFormat carrier s
  | .formatDone carrier => Sys2Proof.Machine.execFormatDone carrier s
  | .adopt carrier => Sys2Proof.Machine.execAdopt carrier s
  | .detach carrier => Sys2Proof.Machine.execDetach carrier s
  | .detachDone carrier => Sys2Proof.Machine.execDetachDone carrier s
  | .attach carrier => Sys2Proof.Machine.execAttach carrier s
  | .sanitise carrier => Sys2Proof.Machine.execSanitise carrier s
  | .sanitiseDone carrier residue => Sys2Proof.Machine.execSanitiseDone carrier residue s
  | .storageRead ring => Sys2Proof.Machine.execStorageRead ring s
  | .storageWrite ring => Sys2Proof.Machine.execStorageWrite ring s
  | .storageDiscard ring => Sys2Proof.Machine.execStorageDiscard ring s
  | .secureDiscard ring => Sys2Proof.Machine.execSecureDiscard ring s
  | .secureDiscardDone carrier residue => Sys2Proof.Machine.execSecureDiscardDone carrier residue s
  | .health ring => Sys2Proof.Machine.execHealth ring s
  | .programDone carrier src reqId fails => Sys2Proof.Machine.execProgramDone carrier src reqId fails s
  | .flashReadDone carrier block readClass bits retries uncorr => Sys2Proof.Machine.execFlashReadDone carrier block readClass bits retries uncorr s
  | .reclaimVictimFreed carrier => Sys2Proof.Machine.execReclaimVictimFreed carrier s
  | .writeDeadline carrier => Sys2Proof.Machine.execWriteDeadline carrier s
  | .carrierTempPoll carrier temp => Sys2Proof.Machine.execCarrierTempPoll carrier temp s
  | .carrierAlert carrier => Sys2Proof.Machine.execCarrierAlert carrier s
  | .healthMirror carrier => Sys2Proof.Machine.execHealthMirror carrier s
  | .portEnable => Sys2Proof.Machine.execPortEnable s
  | .portDisable => Sys2Proof.Machine.execPortDisable s
  | .linkStateChange state lanes peer => Sys2Proof.Machine.execLinkStateChange state lanes peer s
  | .frameReceived frame share => Sys2Proof.Machine.execFrameReceived frame share s
  | .pfcReceived quanta => Sys2Proof.Machine.execPfcReceived quanta s
  | .pfcPauseExpiry cls => Sys2Proof.Machine.execPfcPauseExpiry cls s
  | .pfcRefresh cls share => Sys2Proof.Machine.execPfcRefresh cls share s
  | .fecWindow corrected uncorrected => Sys2Proof.Machine.execFecWindow corrected uncorrected s
  | .txSlot => Sys2Proof.Machine.execTxSlot s
  | .gateEntryBoundary => Sys2Proof.Machine.execGateEntryBoundary s
  | .queueSample => Sys2Proof.Machine.execQueueSample s
  | .telSnap => Sys2Proof.Machine.execTelSnap s
  | .read rx => Sys2Proof.Machine.execRead rx s
  | .readResp p => Sys2Proof.Machine.execReadResp p s
  | .write rx => Sys2Proof.Machine.execWrite rx s
  | .writeFlag rx => Sys2Proof.Machine.execWriteFlag rx s
  | .writeFlagRelease => Sys2Proof.Machine.execWriteFlagRelease s
  | .atomic rx => Sys2Proof.Machine.execAtomic rx s
  | .atomicResp p => Sys2Proof.Machine.execAtomicResp p s
  | .reduceOp rx => Sys2Proof.Machine.execReduceOp rx s
  | .haldio rx => Sys2Proof.Machine.execHaldio rx s
  | .ack a => Sys2Proof.Machine.execAck a s
  | .nakRnr a => Sys2Proof.Machine.execNakRnr a s
  | .nakErr a => Sys2Proof.Machine.execNakErr a s
  | .resync a => Sys2Proof.Machine.execResync a s
  | .cnp peer cls path => Sys2Proof.Machine.execCnp peer cls path s
  | .rtoTimeout peer cls => Sys2Proof.Machine.execRtoTimeout peer cls s
  | .ackTimer peer cls => Sys2Proof.Machine.execAckTimer peer cls s
  | .connIdle peer cls incoming => Sys2Proof.Machine.execConnIdle peer cls incoming s
  | .pathPenaltyExpiry peer cls path => Sys2Proof.Machine.execPathPenaltyExpiry peer cls path s
  | .rateIncrease peer cls => Sys2Proof.Machine.execRateIncrease peer cls s
  | .rnrWait peer cls => Sys2Proof.Machine.execRnrWait peer cls s
  | .cancel rx => Sys2Proof.Machine.execCancel rx s
  | .cancelHoldExpiry src reqId => Sys2Proof.Machine.execCancelHoldExpiry src reqId s
  | .redirect rx => Sys2Proof.Machine.execRedirect rx s
  | .movChEnable channel => Sys2Proof.Machine.execMovChEnable channel s
  | .linear channel => Sys2Proof.Machine.execLinear channel s
  | .strided channel => Sys2Proof.Machine.execStrided channel s
  | .gather channel => Sys2Proof.Machine.execGather channel s
  | .scatter channel => Sys2Proof.Machine.execScatter channel s
  | .fill channel => Sys2Proof.Machine.execFill channel s
  | .flagOnly channel => Sys2Proof.Machine.execFlagOnly channel s
  | .moverDescDone channel => Sys2Proof.Machine.execMoverDescDone channel s
  | .pacingRequest line => Sys2Proof.Machine.execPacingRequest line s
  | .movTimerPeriod timer => Sys2Proof.Machine.execMovTimerPeriod timer s
  | .movPaceStall channel => Sys2Proof.Machine.execMovPaceStall channel s
  | .movStop channel => Sys2Proof.Machine.execMovStop channel s
  | .movResume channel => Sys2Proof.Machine.execMovResume channel s
  | .movSkip channel => Sys2Proof.Machine.execMovSkip channel s
  | .movKick channel => Sys2Proof.Machine.execMovKick channel s
  | .chkStart unit => Sys2Proof.Machine.execChkStart unit s
  | .chkFeed unit value => Sys2Proof.Machine.execChkFeed unit value s
  | .chkFeedTail unit value count => Sys2Proof.Machine.execChkFeedTail unit value count s
  | .chkCheck unit => Sys2Proof.Machine.execChkCheck unit s
  | .encode queue => Sys2Proof.Machine.execEncode queue s
  | .recover queue => Sys2Proof.Machine.execRecover queue s
  | .delta queue => Sys2Proof.Machine.execDelta queue s
  | .verify queue => Sys2Proof.Machine.execVerify queue s
  | .parityJobDone queue => Sys2Proof.Machine.execParityJobDone queue s
  | .parEnable => Sys2Proof.Machine.execParEnable s
  | .parResume => Sys2Proof.Machine.execParResume s
  | .parSkip => Sys2Proof.Machine.execParSkip s
  | .claim => Sys2Proof.Machine.execClaim s
  | .claimReadback data => Sys2Proof.Machine.execClaimReadback data s
  | .quote => Sys2Proof.Machine.execQuote s
  | .quoteDone => Sys2Proof.Machine.execQuoteDone s
  | .akCert => Sys2Proof.Machine.execAkCert s
  | .extend arg => Sys2Proof.Machine.execExtend arg s
  | .raiseFloor => Sys2Proof.Machine.execRaiseFloor s
  | .floorRaised => Sys2Proof.Machine.execFloorRaised s
  | .revokeVkey slot => Sys2Proof.Machine.execRevokeVkey slot s
  | .nodeReset => Sys2Proof.Machine.execNodeReset s
  | .scopedReset scope inst => Sys2Proof.Machine.execScopedReset scope inst s
  | .resetDone => Sys2Proof.Machine.execResetDone s
  | .controlReset ring => Sys2Proof.Machine.execControlReset ring s
  | .controlRebuild ring => Sys2Proof.Machine.execControlRebuild ring s
  | .controlResume ring => Sys2Proof.Machine.execControlResume ring s
  | .controlAbandon ring => Sys2Proof.Machine.execControlAbandon ring s
  | .controlRelease ring => Sys2Proof.Machine.execControlRelease ring s
  | .controlReseal ring => Sys2Proof.Machine.execControlReseal ring s
  | .periodicSeal => Sys2Proof.Machine.execPeriodicSeal s
  | .sealEnd => Sys2Proof.Machine.execSealEnd s
  | .rebuildStripe slot => Sys2Proof.Machine.execRebuildStripe slot s
  | .groupEnable => Sys2Proof.Machine.execGroupEnable s
  | .rehearsalEnd script => Sys2Proof.Machine.execRehearsalEnd script s
  | .shimClose => Sys2Proof.Machine.execShimClose s
  | .resetInput ns => Sys2Proof.Machine.execResetInput ns s
  | .resetRelease straps => Sys2Proof.Machine.execResetRelease straps s
  | .romPhaseDone keys => Sys2Proof.Machine.execRomPhaseDone keys s
  | .identityPhaseDone helper copyA copyB rail boot => Sys2Proof.Machine.execIdentityPhaseDone helper copyA copyB rail boot s
  | .memoryPhaseDone => Sys2Proof.Machine.execMemoryPhaseDone s
  | .bootSlotReadDone => Sys2Proof.Machine.execBootSlotReadDone s
  | .clockLoss => Sys2Proof.Machine.execClockLoss s
  | .pmbusPoll readings => Sys2Proof.Machine.execPmbusPoll readings s
  | .pmbusAlert readings => Sys2Proof.Machine.execPmbusAlert readings s
  | .powerEvaluation watts dies stks => Sys2Proof.Machine.execPowerEvaluation watts dies stks s
  | .thermalAlert dies stks => Sys2Proof.Machine.execThermalAlert dies stks s
  | .bootSave => Sys2Proof.Machine.execBootSave s
  | .bootSaveDone ok => Sys2Proof.Machine.execBootSaveDone ok s
  | .channelRetrainDone stack ok => Sys2Proof.Machine.execChannelRetrainDone stack ok s
  | .inlayTrimDone stack ok => Sys2Proof.Machine.execInlayTrimDone stack ok s
  | .classCalibrationDone carrier readClass offsets better => Sys2Proof.Machine.execClassCalibrationDone carrier readClass offsets better s
  | .carrierAlertRelease carrier => Sys2Proof.Machine.execCarrierAlertRelease carrier s
  | .thermalAlertRelease dies stks => Sys2Proof.Machine.execThermalAlertRelease dies stks s
  | .expressShaperReady => Sys2Proof.Machine.execExpressShaperReady s
  | .ratePacedRelease peer cls => Sys2Proof.Machine.execRatePacedRelease peer cls s
  | .rehearsalDelayLand src reqId => Sys2Proof.Machine.execRehearsalDelayLand src reqId s
  | .bootMountBound => Sys2Proof.Machine.execBootMountBound s
  | .payloadDeadline src reqId => Sys2Proof.Machine.execPayloadDeadline src reqId s

end Sys2Proof.Machine
end

