-- ==== Sys2Proof/Machine/Step.lean ====
section
/-! DEFINITION. One step: the command at the front of the queue, or a nanosecond of idling. -/

namespace Sys2Proof.Machine

/-- One step. The front command is taken off the queue and run; with nothing waiting, one nanosecond passes.
Assumption log: 2 (DESIGN CHOICE), 6 (DESIGN CHOICE). -/
def step (s : State) : Host.Outcome State Fault Refusal :=
  match s.pending with
  | [] => .next (s.reach (s.now + 1))
  | c :: r => exec c { s with pending := r }

/-- The command that a table word spells, put at the front of the queue; no word spells one. -/
def State.withFetchWord (s : State) (nbits w : Nat) : State :=
  match decodeTableWord nbits w with
  | some c => { s with pending := c :: s.pending }
  | none => s

end Sys2Proof.Machine
end

