-- ==== Sys2Proof/Safety.lean ====
section
/-! DEFINITION. What a safe run is: no step of it stops, and every command it is given is well formed. Also the parts of the state, for
statements of what a command leaves alone, and a number of steps at once. -/

namespace Sys2Proof.Machine

/-- A step that neither stops nor is refused. -/
def stepsOn (s : State) : Prop := ∃ t, step s = .next t

/-- Every command that waits is well formed. -/
def State.wellFormed (s : State) : Bool := s.pending.all Instr.wf

/-- `n` steps, none of which stops. -/
def steps : Nat → State → Option State
  | 0, s => some s
  | n + 1, s =>
    match step s with
    | .next t => steps n t
    | _ => none

/-- The commands that pins and sockets make, which a held node takes too (R329, R506, R507). -/
def ofPins : Instr → Bool
  | .resetInput _ | .resetRelease _ | .clockLoss | .carrierInsert _ _ _ _ _ _ | .carrierRemoved _ => true
  | _ => false

/-- The parts of a state, one for each of its fields. -/
inductive Part where
  | pending | now | freeCtr | mem | regs | ecc | evt | beat | sko | ts | tel | port | rings | tiles | img | inl | stk | tier
  | fl | work | fails | sel | ls | gw | tbl | txt | sec | mov | epochs | ctl
deriving DecidableEq, Repr

/-- Two states agree in a part. -/
def State.agree (s t : State) : Part → Prop
  | .pending => s.pending = t.pending
  | .now => s.now = t.now
  | .freeCtr => s.freeCtr = t.freeCtr
  | .mem => s.mem = t.mem
  | .regs => s.regs = t.regs
  | .ecc => s.ecc = t.ecc
  | .evt => s.evt = t.evt
  | .beat => s.beat = t.beat
  | .sko => s.sko = t.sko
  | .ts => s.ts = t.ts
  | .tel => s.tel = t.tel
  | .port => s.port = t.port
  | .rings => s.rings = t.rings
  | .tiles => s.tiles = t.tiles
  | .img => s.img = t.img
  | .inl => s.inl = t.inl
  | .stk => s.stk = t.stk
  | .tier => s.tier = t.tier
  | .fl => s.fl = t.fl
  | .work => s.work = t.work
  | .fails => s.fails = t.fails
  | .sel => s.sel = t.sel
  | .ls => s.ls = t.ls
  | .gw => s.gw = t.gw
  | .tbl => s.tbl = t.tbl
  | .txt => s.txt = t.txt
  | .sec => s.sec = t.sec
  | .mov => s.mov = t.mov
  | .epochs => s.epochs = t.epochs
  | .ctl => s.ctl = t.ctl

/-- Two states agree in every part but some. -/
def State.sameBut (xs : List Part) (s t : State) : Prop := ∀ p, p ∉ xs → s.agree t p

/-- The parts that the report of an event may change: the event unit, the registers, the fabric and the queues of the port, where an
EVENT message to another node goes (R470, R472). -/
def reports : List Part := [.evt, .regs, .sko, .ts]

/-- A state changes in some registers alone. -/
def State.changesOnlyRegs (s t : State) (offsets : List Nat) : Prop :=
  s.sameBut [.regs] t ∧ ∀ o, o ∉ offsets → t.reg o = s.reg o

/-- A command changes some parts of every state that it goes on from, and what the report of its events changes, and no other part. -/
def changesOnly (xs : List Part) (c : Instr) : Prop := ∀ s t : State, exec c s = .next t → s.sameBut (xs ++ reports) t

end Sys2Proof.Machine
end

