-- ==== Sys2Proof/Certificates/Slice0/Obligations.lean ====
section
/-! DEFINITION. The statements for the provers: what each command does to the node, what it leaves alone, and what holds of every
step. -/

open Sys2Proof Sys2Proof.Machine


/-- R16 to R21, R525 to R528: a REGISTER_WRITE to a register that the part has and that takes the value merges it under the field rules
and then does what the register starts. -/
def Obligations.RegisterWriteTakesEffect : Prop :=
  ∀ (s : State) (offset value : Nat) (d : RegDesc) (w : Nat), s.dead = false →
    offset % 8 = 0 → inControlRange offset = true → findReg (canonOff offset) = some d → s.absentReg (canonOff offset) = false →
    s.vet (canonOff offset) (BitVec.ofNat 64 value).toNat (s.reg (canonOff offset)).toNat = some w →
    exec (.registerWrite offset value) s =
      .next (s.done ((s.setReg (canonOff offset) (BitVec.ofNat 64 (d.merge (s.reg (canonOff offset)).toNat w))).after (canonOff offset)
        (BitVec.ofNat 64 value).toNat (s.reg (canonOff offset)).toNat))

/-- R28 to R33: a tail write that moves the tail forward by whole granules within the ring becomes one token; one that does not is
discarded and reported with the ring, its tail and the value; a head advance frees its space and returns the credits. -/
def Obligations.RingWordsMoveTokensAndCredits : Prop :=
  ∀ (s : State) (r v : Nat), s.dead = false → r < 8192 → 0 < (s.ring r).size →
    (v < 2 ^ 64 → s.tailValid r v = true →
      exec (.tailWrite r v) s =
        .next (s.done ((s.putNum (s.ring r).tailAddr 8 v).setRing r { s.ring r with
          tokens := pushToken ((s.ring r).ofTile && decide (64 ≤ (s.ring r).tokens.length)) (s.ring r).tokens
            { from_ := s.tailOf r, to_ := v, since := s.now } }))) ∧
    (v < 2 ^ 64 → v ≠ s.tailOf r → s.tailValid r v = false →
      exec (.tailWrite r v) s = .next (s.done (s.raise EV_RING_TAIL_INVALID 0 [(s.ring r).base, s.tailOf r, v]))) ∧
    (v % 64 = 0 → s.headOf r < v → v ≤ s.tailOf r →
      exec (.creditReturn r v) s =
        .next (s.done (((s.putNum (s.ring r).headAddr 8 v).setRing r { s.ring r with
          tokens := trimTokens v s.now (s.ring r).tokens }).creditRing r ((v - s.headOf r) / 64))))

/-- R37, R39, R41, R44: the first measurement sets local time and makes the beat valid; a small one is slewed; a large one is counted
towards a step. -/
def Obligations.PtpMeasurementDisciplinesTime : Prop :=
  ∀ (s : State) (m : Nat), s.dead = false → s.bit F.BEAT_CFG2_SRC = false →
    (s.beat.state = .unsync →
      exec (.ptpMeasurement m) s = .next (s.done ((s.noteMeas ((m : Int) - s.beat.t)).firstTime m))) ∧
    (s.beat.state ≠ .unsync → ((m : Int) - s.beat.t).natAbs ≤ s.get F.BEAT_CFG_STEP_NS →
      exec (.ptpMeasurement m) s = .next (s.done ((s.noteMeas ((m : Int) - s.beat.t)).smallMeas ((m : Int) - s.beat.t)))) ∧
    (s.beat.state ≠ .unsync → s.get F.BEAT_CFG_STEP_NS < ((m : Int) - s.beat.t).natAbs →
      exec (.ptpMeasurement m) s = .next (s.done ((s.noteMeas ((m : Int) - s.beat.t)).largeMeas ((m : Int) - s.beat.t))))

/-- R40: with SRC = 1 a PPS edge sets t to BEAT_PPS_SEC seconds, which is then increased; with SRC = 0 it has no effect at all. -/
def Obligations.PpsEdgeSetsTimeOnlyWithSrcOne : Prop :=
  ∀ s : State, s.dead = false → s.evt.quiet →
    (s.bit F.BEAT_CFG2_SRC = false → exec .ppsEdge s = .next s) ∧
    (s.bit F.BEAT_CFG2_SRC = true → s.beat.state = .unsync →
      exec .ppsEdge s = .next (s.done (((s.noteMeas ((s.get F.BEAT_PPS_SEC_SEC * 1000000000 : Nat) - s.beat.t)).set F.BEAT_PPS_SEC_SEC
        (s.get F.BEAT_PPS_SEC_SEC + 1)).firstTime (s.get F.BEAT_PPS_SEC_SEC * 1000000000))))

/-- R41 to R45: the commands of the synchronisation states. -/
def Obligations.SyncStateCommandsComplete : Prop :=
  ∀ s : State, s.dead = false →
    (s.beat.state = .acquiring ∨ s.beat.state = .locked →
      (s.bit F.BEAT_CFG2_SRC = false →
        exec .ptpParentLost s = .next (s.done { s with port := { s.port with parentKnown := false } }.toHoldover)) ∧
      exec .holdoverEntry s =
        .next (s.done (s.reach (s.beat.lastMeas + s.get F.BEAT_CFG_HOLD_ENTRY_MS * 1000000)).toHoldover)) ∧
    (s.beat.state = .holdover →
      exec .holdoverDegrade s = .next (s.done ((s.reach (s.beat.lastMeas + s.degradeAge)).toSync .degraded))) ∧
    (s.beat.state = .stepHeld → s.beat.held = true →
      exec .acceptStep s = .next (s.done (s.applyStep s.beat.step))) ∧
    (s.beat.state = .stepHeld →
      exec .rejectStep s = .next (s.done { s with beat := { s.beat with held := false, largeRun := 0 } }))

/-- R38, R48 to R53: arming an entry, disarming it, and the boundary of a beat. -/
def Obligations.ArmedEventCommandsComplete : Prop :=
  ∀ (s : State) (n : Nat), s.dead = false → n < 256 →
    (s.entState n ≠ 1 → s.get (F.BEAT_EVT_ACT_ACTION n) ≠ 0 → s.beat.valid = true →
      s.beyondHorizon (s.get (F.BEAT_EVT_BEAT_BEAT n)) = false → beatAfter (s.get (F.BEAT_EVT_BEAT_BEAT n)) s.beat.beat = true →
      s.beat.due = [] → exec (.arm n) s = .next (s.done (s.setEnt n 1))) ∧
    (s.entState n = 1 →
      exec (.disarm n) s =
        .next (s.done ({ s with beat := { s.beat with due := s.beat.due.filter (·.1 != n) } }.setEnt n 3))) ∧
    exec .disarmAll s = .next (s.done ((entries.filter fun k => s.entState k == 1).foldl State.disarm s)) ∧
    (s.beat.valid = true →
      exec .beatBoundary s = .next (s.done ((((s.nextBoundary).samplePeriod).request 224 1).shimBeat).decideHeld)) ∧
    (∀ late r, s.beat.due = (n, late) :: r → s.entSkips n = false → s.entDrops (n, late) = false →
      exec .armedEventDispatch s =
        .next (s.done (if r.isEmpty then s.fire (n, late) else (s.fire (n, late)).reach ((s.fire (n, late)).now + 16))))

/-- R71 to R76, R89: the commands of the image loader do what IMG_CTRL and the loader's completions say. -/
def Obligations.ImageLoaderCommandsComplete : Prop :=
  ∀ s : State, s.dead = false →
    (s.img.verifying = none → s.img.staged = none → s.img.full = 0 →
      exec .stage s = .next (s.done ({ s with img := { s.img with
        verifying := some (s.get F.IMG_STAGE_ADDR_ADDR, s.get F.IMG_STAGE_LEN_LEN) } }.stageState 1))) ∧
    (∀ a n, s.img.verifying = some (a, n) →
      exec .stagingDone s = .next (s.done
        (let x := s.checkImage a n
         if x.1 = IR_OK then x.2.2.setStaged x.2.1
         else (({ x.2.2 with img := { x.2.2.img with verifying := none } }.stageState 0).imgResult x.1).raise EV_IMAGE_REJECTED 0 []))) ∧
    (s.imgBusy = false → s.img.used = false → exec .discard s = .next (s.done s.unstage)) ∧
    (∀ i, s.imgBusy = false → s.nodeChanged = false → s.img.staged = some i →
      exec .promote s = .next (s.done (s.promoteImage i))) ∧
    (s.imgBusy = false →
      exec .applyFull s = .next (s.done (panelIds.foldl State.fullDrain ({ s with img := { s.img with
        full := 1, held := [], loading := none } }.setBit F.IMG_STATUS_FULL_BUSY true)).fullDrained)) ∧
    (∀ i bs t, s.img.full = 2 → s.img.staged = some i → s.readBodies i.addr i.sections = (some bs, t) →
      exec .fullLoadDone s = .next (s.done (t.fullApply i bs))) ∧
    (s.windowOpen = true → beatAfter (s.get F.IMG_DOVE_CLOSE_BEAT) s.beatNow = false →
      exec .dovetailExpiry s = .next (s.done (s.endWindow.raise EV_DOVETAIL_CLOSED 0 [])))

/-- R78 to R80, R534: a panel that drains, waits, loads and is activated goes through the phases of a reload. -/
def Obligations.PanelReloadPhasesComplete : Prop :=
  ∀ (s : State) (p : Nat), s.dead = false → p < 64 →
    (∀ j d, s.panState p = PS_DRAINING → s.panelBusy p = false → (s.panel p).job = some j → j.defn = some d →
      exec (.panelDrainDone p) s = .next (s.done
        ((s.dropTiles p ((s.panel p).tiles.filter fun t => !d.tiles.contains t)).setPanState p PS_WAITING))) ∧
    (∀ j, s.panState p = PS_DRAINING → s.panelBusy p = false → (s.panel p).job = some j → j.defn = none →
      exec (.panelDrainDone p) s = .next (s.done (s.retire p))) ∧
    (s.panState p = PS_DRAINING → s.panelBusy p = true →
      exec (.panelDrainTimeout p) s = .next (s.done
        ((s.panel p).tiles.foldl (fun u t => u.stopChain p t) (s.reach ((s.panel p).drainAt + beatsNs 122))))) ∧
    (∀ j d t, (s.panel p).job = some j → j.defn = some d → s.panState p = PS_WAITING → s.img.loading = none →
      s.img.full = 0 → s.loadAhead j.seq = false → s.loadDef p j d = (true, t) →
      exec (.panelLoadStart p) s = .next (s.done t)) ∧
    (∀ j d, (s.panel p).job = some j → j.loading = some d → s.panState p = PS_LOADING →
      exec (.panelLoadDone p) s = .next (s.done
        (let t := (s.loadPanel p d j.bodies).setPanState p PS_ACTIVATING
         { t with img := { t.img with loading := none } }))) ∧
    (s.panState p = PS_ACTIVATING →
      exec (.panelActivated p) s = .next (s.done
        (let t := ((s.setPanState p PS_ACTIVE).setBit (F.IMG_PANEL_STATE_STALE p) false).notePanel p
         (t.raise EV_PANEL_RELOADED p [(t.panel p).tiles.length]).endReload p true)))

/-- R128 to R133, R145, R146: an operator row runs the descriptor at which the tile's chain stands, if that is the row's operator: with
no fault, its results are in place and the chain ends or goes on to the next descriptor. -/
def Obligations.OperatorRowsRunTheirDescriptor : Prop :=
  ∀ row ∈ ([(.matmul, 0x01, opMatmul), (.reduce, 0x02, opReduce), (.rotate, 0x03, opRotate), (.quantise, 0x04, opQuantise),
      (.dequantise, 0x05, opDequantise), (.elemwise, 0x06, opElemwise), (.activate, 0x07, opActivate), (.normalise, 0x08, opNormalise),
      (.attend, 0x09, opAttend), (.pqTable, 0x0A, opPqTable), (.denseScan, 0x0B, opDenseScan), (.coarse, 0x0C, opCoarse),
      (.rerank, 0x0D, opRerank), (.topk, 0x0E, opTopk), (.maskLogits, 0x0F, opMask), (.sample, 0x10, opSample),
      (.gradAccum, 0x11, opGradAccum), (.optStep, 0x12, opOptStep), (.send, 0x13, opSend)] :
      List ((Nat → Instr) × Nat × (State → Nat → Chain → Desc → OpAcc))),
    ∀ (s : State) (t : Nat) (c : Chain) (d : Desc), s.dead = false → t < Config.numTiles → (s.tile t).chain = some c →
      (s.tile t).halted = false → (s.fetchDesc t c).fault = .none → descOf (s.fetchDesc t c).data = d → d.op = row.2.1 →
      (row.2.2 (s.fetchDesc t c).st t c d).fault = .none →
      exec (row.1 t) s = .next (s.done ((s.fetchDesc t c).st.afterDesc t c d false (row.2.2 (s.fetchDesc t c).st t c d)))

/-- R142 to R147: taking a token, the credit stall, the hang, and the debug commands of a tile. -/
def Obligations.TileControlCommandsComplete : Prop :=
  ∀ (s : State) (t : Nat), s.dead = false → t < Config.numTiles →
    (∀ w r, s.takesTokens t = true → s.ready t = some w → (s.tile t).queue w = some r →
      exec (.tokenTake t) s = .next (s.done (s.startChain t w r))) ∧
    (∀ w r k ks e, s.stalledQueue t = some w → (s.tile t).queue w = some r → (s.ring r).tokens = k :: ks →
      (s.headNeeds t r).2.find? (fun e => decide (s.get (F.TILE_CREDIT_AVAIL t e.1) < e.2)) = some e →
      exec (.tileCreditStall t) s = .next (s.done
        (let u := (s.reach (k.since + beatsNs (s.get (F.TILE_LIMITS_STALL_LIMIT t)))).setRing r
           { s.ring r with tokens := { k with raised := true } :: ks }
         (u.setBit (F.TILE_ERR_CREDIT_STALL t) true).raise EV_TILE_CREDIT_STALL t [e.1, u.get (F.TILE_CREDIT_AVAIL t e.1), e.2]))) ∧
    (∀ c, (s.tile t).chain = some c → (s.tile t).halted = false →
      exec (.tileHang t) s = .next (s.done
        (let u := s.reach (c.startAt + beatsNs (s.get (F.TILE_LIMITS_DESC_LIMIT t)))
         (((u.recordFault t (F.TILE_ERR_HANG t) c.desc (u.graphDesc t c.desc).op 0 E_CANCELLED).raiseReq EV_TILE_HANG t []
           c.tenant c.reqId).endChain t c E_CANCELLED).holdTile t))) ∧
    exec (.tileHalt t) s = .next (s.done (s.setBit (F.TILE_DBG_CTRL_HALT t) true)) ∧
    (∀ c, (s.tile t).chain = some c → (s.tile t).halted = true →
      exec (.tileResume t) s = .next (s.done
        (((s.setBit (F.TILE_DBG_CTRL_HALT t) false).setTile t { s.tile t with
          halted := false, passed := true, chain := some { c with startAt := s.now } }).setTileState t TS_RUNNING))) ∧
    (∀ c d, (s.tile t).chain = some c → (s.tile t).halted = true → (s.fetchDesc t c).fault = .none →
      descOf (s.fetchDesc t c).data = d → d.op = (s.graphDesc t c.desc).op →
      exec (.tileStep t) s = .next (s.done ((s.fetchDesc t c).st.afterDesc t c d true
        (opOf (s.graphDesc t c.desc).op (s.fetchDesc t c).st t c d))))

/-- R156 to R159, R163, R164, R281, R288: a unit that is BUSY with a well-formed packet at its head, room for its result and no poisoned
word in its operands runs it and queues its result. -/
def Obligations.InlayCommandsProduceTheirResult : Prop :=
  ∀ (s : State) (k u : Nat) (p : InlPkt), s.dead = false → k < 12 → u < 256 → s.hasUnit k u = true → s.unitState k u = US_BUSY →
    (packetsOf (s.unit k u).cmds).head? = some p → granulesOf (s.unit k u).results + p.resultRoom ≤ 256 →
    (∀ row ∈ ([(.scorePq, 0x10), (.dotI8, 0x11)] : List ((Nat → Nat → Instr) × Nat)), ∀ c a, p.op = row.2 → scoreOf p.bytes = c →
      c.ok (at_ p.bytes 2 2) p.bytes.length = true →
      c.run k u ((s.unit k u).filterSlot c.fslot) ((List.range c.batch).map (c.table (s.unit k u))) c.count 0
        { lists := List.replicate c.batch {}, st := s.heatUnit k u c.addr (c.stride * c.count) } = a → a.bad = false →
      exec (row.1 k u) s =
        .next (s.done ((a.st.bump (F.INL_PERF_SCORES_SCORES k) (a.passed * c.batch)).finishCmd k u p (c.result a) 0))) ∧
    (∀ c x, rowCmdOf p.bytes = c → c.ok p.bytes.length = true →
      (s.heatUnit k u c.addr (64 * c.count)).unitLoad k u c.addr 64 = x → x.code = E_NONE → at_ x.data 28 1 % 2 = 0 →
      (∀ y, p.op = 0x20 → c.len = 1 → 0 < at_ p.bytes 26 2 → at_ p.bytes 24 2 + at_ p.bytes 26 2 ≤ c.dg → c.sub % 2 = 0 →
        x.st.unitLoad k u (c.slotAt (readSlot c.double x.data) + 64 * at_ p.bytes 24 2) (64 * at_ p.bytes 26 2) = y → y.code = E_NONE →
        exec (.gatherRow k u) s = .next (s.done (y.st.finishCmd k u p
          (padTo 64 (inlHead c.tag 0 IS_OK 0 0 0 ++ (x.data.drop (12 * readSlot c.double x.data)).take 8 ++
            leBytes 1 (readSlot c.double x.data) ++ (x.data.drop 28).take 1) ++ y.data)
          (headTag x.data (readSlot c.double x.data))))) ∧
      (p.op = 0x21 → c.len = c.dg + 2 →
        exec (.replaceRow k u) s = .next (s.done ((x.st.commitRow k u c x.data false).finishCmd k u p
          (toGranules (inlHead c.tag 0 IS_OK 0 0 0)) 0))) ∧
      (p.op = 0x22 → c.sub % 16 = 4 → c.len = c.dg + 2 →
        exec (.rmwRow k u) s = .next (s.done ((x.st.commitRow k u c x.data true).finishCmd k u p
          (toGranules (inlHead c.tag 0 IS_OK 0 0 0)) 0))) ∧
      (p.op = 0x22 → c.sub % 16 < 4 → c.len = 1 + (c.elems + c.elems / 16 + 63) / 64 → modeFits (c.sub % 16) c.form = true →
        0x00800000 ≤ c.wclamp → c.wclamp ≤ 0x7E800000 →
        exec (.rmwRow k u) s = .next (s.done (x.st.applyRow k u p c x.data)))) ∧
    (p.op = 0x30 → at_ p.bytes 2 2 = 1 → p.bytes.length = 64 →
      exec (.fence k u) s = .next (s.done (s.finishCmd k u p (toGranules (inlHead (at_ p.bytes 4 4) 0 IS_OK 0 0 0)) 0)))

/-- R155, R160, R161, R168, R169, R171: the broadcasts of a stack reach its 256 units, and the events of a unit and of a memory word do
what their rules say. -/
def Obligations.StackAndUnitEventsComplete : Prop :=
  ∀ (s : State) (k u : Nat), s.dead = false → k < 12 → u < 256 → s.hasUnit k u = true →
    (∀ first data, data.length % 1024 = 0 → 1 ≤ data.length / 1024 → first + data.length / 1024 ≤ 64 →
      exec (.loadTslot k first data) s = .next (s.done ((List.range 256).foldl (fun t v => t.sendItem k v (.tslot first data))
        (s.bump (F.INL_PERF_BUS_BYTES k) data.length)))) ∧
    (∀ slot data, slot < 8 → filterOk data = true →
      exec (.loadFilter k slot data) s = .next (s.done ((List.range 256).foldl (fun t v => t.sendItem k v (.filter slot data))
        (s.bump (F.INL_PERF_BUS_BYTES k) 64)))) ∧
    (∀ o e, o < 0x800000000 → s.ecc.find? (fun e => e.1 == stackBase k + o / 32 * 32) = some e →
      (e.2 = 1 → exec (.scrub k o) s =
        .next (s.done ((s.countCe (stackBase k + o / 32 * 32)).setEcc (stackBase k + o / 32 * 32) 0))) ∧
      (e.2 = 2 → exec (.scrub k o) s = .next (s.done (s.poisonWord 0 (stackBase k + o / 32 * 32))))) ∧
    (s.unitState k u ≠ US_OFFLINE →
      exec (.inlayParityError k u) s = .next (s.done ((s.setBit (F.INL_UNIT_ERR_PARITY k u) true).takeOffline k u))) ∧
    (s.unitState k u = US_BUSY →
      exec (.inlayCmdHang k u) s = .next (s.done (((s.reach ((s.unit k u).startAt + beatsNs (s.get (F.INL_LIMITS_CMD_LIMIT k)))).setBit
        (F.INL_UNIT_ERR_HANG k u) true).takeOffline k u))) ∧
    (s.unitState k u = US_OFFLINE →
      exec (.inlayOnline k u) s = .next (s.done ((s.setUnitState k u US_COPYING).setUnit k u { s.unit k u with
        cmds := [], results := [], taken := (s.unit k u).taken ++ (s.unit k u).results }))) ∧
    (∀ v, s.unitState k u = US_COPYING →
      ((List.range 256).find? fun v => s.unitState k v == US_IDLE || s.unitState k v == US_BUSY) = some v →
      exec (.inlayCopyDone k u) s = .next (s.done
        (let x := (s.unit k u).pendBcast.foldl InlSt.applyItem { s.unit k u with tslots := (s.unit k v).tslots, filters := (s.unit k v).filters }
         ((((s.bump (F.INL_PERF_BUS_BYTES k) 66048).setUnitState k u US_IDLE).setUnit k u { x with pendBcast := [] }).settleUnit k u))))

/-- R178 to R181, R187, R189 to R191: heat halves at its period, a sweep demotes, a promotion, a demotion and a read of an extent end, a
query is late, and ZERO_PAGE makes the selected page ZERO. -/
def Obligations.TierCommandsComplete : Prop :=
  ∀ s : State, s.dead = false →
    (s.beat.valid = true → s.beat.beat % s.get F.TIER_CFG_HEAT_PERIOD = 0 → s.tier.halved ≠ some s.beat.beat →
      exec .heatHalving s = .next (s.done { s with tier := { s.tier with
        pages := (s.tier.pages.map fun e => (e.1, { e.2 with heat := e.2.heat / 2 })).filter fun e => e.2 != ({} : Page)
        halved := some s.beat.beat } })) ∧
    (∀ u v, s.checkFlashFull = u → u.freeFrames < u.get F.TIER_CFG2_LOW_WATER → u.bit F.TIER_STATUS_FLASH_FULL = false →
      u.sweep (max (u.get F.TIER_STATUS_DEMOTE_LEVEL) (u.get F.TIER_CFG_DEMOTE_T)) false u.sweepOrder = v →
      (∀ p, v.2 = (true, some p) → exec .demotionSweep s = .next (s.done
        (State.set { v.1 with tier := { v.1.tier with sweepPtr := p } } F.TIER_STATUS_DEMOTE_LEVEL
          (State.get { v.1 with tier := { v.1.tier with sweepPtr := p } } F.TIER_CFG_DEMOTE_T)).settleNet)) ∧
      (v.2 = (false, none) → max (u.get F.TIER_STATUS_DEMOTE_LEVEL) (u.get F.TIER_CFG_DEMOTE_T) < 255 →
        exec .demotionSweep s = .next (s.done (v.1.set F.TIER_STATUS_DEMOTE_LEVEL
          (max (u.get F.TIER_STATUS_DEMOTE_LEVEL) (u.get F.TIER_CFG_DEMOTE_T) + 1)).settleNet))) ∧
    (∀ p x, (s.page p).st = 3 → (s.setPage p { s.page p with st := 2 }).promoteNow p = x →
      (x.1 = E_NONE → exec (.promotionDone p) s = .next (s.done (x.2.wakePage p [0, 1]).settleNet)) ∧
      (x.1 = E_MEDIA → exec (.promotionDone p) s = .next (s.done
        (((x.2.dropPromo p).wakePage p [0, 1]).bump F.TIER_CNT_EXC_MEDIA
          ((s.setPage p { s.page p with st := 2 }).waitsOn p).length).settleNet))) ∧
    (∀ p d, (s.tier.demos.find? fun d => d.page == p) = some d → s.thinOn p = false →
      (d.zero || s.carState d.carrier != CS_ONLINE) = true →
      exec (.demotionDone p) s = .next (s.done (s.demotionDone p).settleNet)) ∧
    (∀ p d t, (s.tier.demos.find? fun d => d.page == p) = some d → s.thinOn p = false →
      (d.zero || s.carState d.carrier != CS_ONLINE) = false → s.flHeld d.carrier = false → s.flAdmit d.carrier d.blocks = some t →
      exec (.demotionDone p) s = .next (s.done (t.demotionDone p).settleNet)) ∧
    (∀ p, ((s.waitsOn p).filter fun w => w.kind == 0) ≠ [] → exec (.tierFlashReadDone p) s = .next (s.done
      (((s.flashReadDone p).2.foldl (fun t k => t.noteGot p k) (s.flashReadDone p).1)).settleNet)) ∧
    (∀ src i q, s.lsQuery src i = some q → s.pastLate q.late q.r = true → s.lsOnFlash q = true →
      exec (.latePoint src i) s = .next (s.done ((s.lsLate q).gwLatePoint src i))) ∧
    (∀ src i n w, s.lsQuery src i = none → s.walkOf src i = some (n, w) → s.pastLate w.late w.r = true → s.gwOnFlash w = true →
      exec (.latePoint src i) s = .next (s.done (s.gwLate n w))) ∧
    (∀ p g, s.get F.TIER_PAGE_SEL_PAGE = p → p < s.get F.TIER_CFG_EXTENT → s.page p = g →
      (g.st = 1 → exec .zeroPage s = .next (s.done
        (((s.setPage p { heat := g.heat, seq := g.seq }).releaseFrame g.stack g.frame).wakeFrames).settleNet)) ∧
      (g.st = 2 ∨ g.st = 5 → exec .zeroPage s = .next (s.done
        (((s.setPage p { heat := g.heat, seq := g.seq }).freeExtent g.carrier g.first g.blocks).checkFlashFull).settleNet)))

/-- R192 to R197, R297: a migration slot starts, copies, cuts, is confirmed or taken back, is aborted, stalls and is freed, and a row
that another node sends is installed. -/
def Obligations.MigrationCommandsComplete : Prop :=
  ∀ (s : State) (k : Nat), s.dead = false → k < 16 →
    (s.migState k = MS_FREE → s.get (F.TIER_MIG_OBJ_KIND k) = 1 → exec (.migStart k) s = .next (s.done (s.migStartPage k))) ∧
    (s.migState k = MS_FREE → s.get (F.TIER_MIG_OBJ_KIND k) = 2 → exec (.migStart k) s = .next (s.done (s.migStartRow k))) ∧
    (∀ p x d, s.migState k = MS_COPYING → s.get (F.TIER_MIG_OBJ_KIND k) = 1 → s.get (F.TIER_MIG_OBJ_ID k) = p →
      s.pageBytes p = x → x.1 = some d → x.2.get (F.TIER_MIG_DEST_STACK k) ≠ 15 →
      exec (.migCopyDone k) s = .next (s.done (((x.2.fillFrame (x.2.migSt k).stack (x.2.migSt k).frame d).setMig k
        { x.2.migSt k with copied := 1024 }).setMigState k MS_READY))) ∧
    (∀ x, s.migState k = MS_COPYING → s.get (F.TIER_MIG_OBJ_KIND k) = 2 → s.rowImage k = x → x.code = E_NONE →
      exec (.migCopyDone k) s = .next (s.done ((x.st.setMig k { x.st.migSt k with image := x.data }).setMigState k MS_READY))) ∧
    (s.migState k = MS_COPYING ∨ s.migState k = MS_READY →
      exec (.migAbort k) s = .next (s.done (s.migFail k MR_ABORTED))) ∧
    (s.migState k = MS_DONE ∨ s.migState k = MS_FAILED →
      exec (.migFree k) s = .next (s.done (((s.setMig k {}).setMigState k MS_FREE).set (F.TIER_MIG_CTL_REASON k) 0))) ∧
    (s.migState k = MS_STALLED → exec (.migConfirm k) s = .next (s.done (s.rowCutDone k))) ∧
    (s.migState k = MS_STALLED → exec (.migRevert k) s = .next (s.done
      ((s.migFail k MR_STALLED).releaseRow (s.get (F.TIER_MIG_OBJ_TABLE k)) (s.get (F.TIER_MIG_OBJ_ID k))))) ∧
    (s.migState k = MS_CUTTING → s.get (F.TIER_MIG_OBJ_KIND k) = 1 → s.thinOn (s.get (F.TIER_MIG_OBJ_ID k)) = false →
      exec (.pageCutComplete k) s = .next (s.done (s.pageCut k).settleNet)) ∧
    (∀ x, s.migState k = MS_CUTTING → s.get (F.TIER_MIG_OBJ_KIND k) = 2 → (s.migSt k).sent = false →
      s.rowBusy (s.get (F.TIER_MIG_OBJ_TABLE k)) (s.get (F.TIER_MIG_OBJ_ID k)) = false → s.rowImage k = x → x.code = E_NONE →
      exec (.rowCutSend k) s = .next (s.done (x.st.setMig k { x.st.migSt k with image := x.data, sent := true, sentAt := s.now }))) ∧
    (s.migState k = MS_CUTTING → s.get (F.TIER_MIG_OBJ_KIND k) = 2 → (s.migSt k).sent = true →
      exec (.rowCutAck k) s = .next (s.done (s.rowCutDone k)) ∧
      exec (.migrateStall k) s = .next (s.done
        (((s.reach ((s.migSt k).sentAt + beatsNs 16)).setMigState k MS_STALLED).raise EV_TIER_MIGRATE_STALLED 0 []))) ∧
    (∀ node table row d p data u, table < 256 → smGet (fun _ => none) s.tbl.copies table = some d → data.length = 64 * d.x →
      s.installPlace d row = some p → p.guest = false →
      (s.store p.addr (data.take 28 ++ leBytes 1 ((data.getD 28 0).toNat - (data.getD 28 0).toNat % 2) ++ data.drop 29)).2 = u →
      exec (.rowInstall node table row data) s = .next (s.done
        (State.raise { u with tier := { u.tier with acks := u.tier.acks ++ [{ node := node, table := table, row := row }] } }
          EV_TIER_MIGRATED_IN 0 [])))

/-- R199, R208 to R224: a list-scan query is taken and goes from stage to stage, the gather window closes, a thin scan's result is taken,
an update is applied, an index is enabled and disabled and a shadow of a query runs. -/
def Obligations.ListScanCommandsComplete : Prop :=
  ∀ s : State, s.dead = false →
    (∀ ring m r u n d q, ring < 8192 → s.headReq ring U_SEARCH T_QUERY_LS = some (m, r) → s.popMsg ring m = u →
      u.lsSlot (at_ r.payload 0 1) (at_ r.payload 2 2) = some (n, d) → lsQueryOf r n d (u.oldCopy r.src r.reqId) = q → q.ok = true →
      u.deadlinePassed r.deadline = false → u.cancelled r.src r.reqId = false →
      exec (.queryLs ring) s = .next (s.done
        ((State.countLs { u with ls := { u.ls with queries := u.ls.queries ++ [q] } }).lsSendCoarse q))) ∧
    (∀ src i q x, s.lsQuery src i = some q → q.stage = .coarse → s.unsent T_LS_COARSE src i = false →
      s.workFail T_LS_COARSE src i = none → (s.lsOnFlash q && s.heldLate q.late q.r) = false →
      (s.serveFor q.r).coarseAll q.desc (coarseQuery q.desc.centFmt q.values) q.desc.nlist 0 = x → x.code = E_NONE →
      exec (.lsCoarseDone src i) s = .next (s.done (x.st.serveEnd.lsStep { q with
        ranking := (rankLists (pairsOf q.desc.nlist x.data) (min q.desc.nlist (q.nprobe * q.expand))).map Prod.fst }))) ∧
    (∀ src i q x, s.lsQuery src i = some q → q.stage = .tables → s.unsent T_LS_TABLE src i = false →
      s.workFail T_LS_TABLE src i = none → (s.lsOnFlash q && s.heldLate q.late q.r) = false →
      (s.serveFor q.r).lsTables q.desc q.values q.group = x → x.1 = E_NONE →
      exec (.lsTableDone src i) s = .next (s.done (x.2.2.serveEnd.joinLs { q with stage := .window, tabs := x.2.1 }))) ∧
    (s.beat.valid = true → s.beat.beat % s.get F.LS_CFG_GATHER = 0 → s.ls.closed ≠ some s.beat.beat →
      exec .gatherWindowClose s = .next (s.done s.windowClose)) ∧
    (∀ tag x u qs flash, (s.ls.runs.find? fun x => x.tag == tag) = some x → s.unsent T_LS_DENSE s.node tag = false →
      s.workFail T_LS_DENSE s.node tag = none →
      State.dropWork { s with ls := { s.ls with runs := s.ls.runs.filter fun y => y.tag != tag } } s.node tag = u →
      (x.members.filterMap fun m => u.lsQuery m.1 m.2) = qs → (x.runs.any fun p => u.onFlash (pageAddr p.page) 65536) = flash →
      flash = false →
      exec (.lsDenseDone tag) s = .next (s.done ((u.lsScanFor x (qs.filter fun q => !q.r.rehearsal)).lsScanFor x
        (qs.filter fun q => q.r.rehearsal)))) ∧
    (∀ k u p t c, k < 12 → u < 256 → s.hasUnit k u = true → s.resultFor k u U_SEARCH = some (p, t) →
      (t.ls.thins.find? fun c => c.tag == p.tag) = some c →
      exec (.thinResult k u) s = .next (s.done (t.lsThinDone c p))) ∧
    (∀ src i q x, s.lsQuery src i = some q → q.stage = .rerank → s.unsent T_LS_RERANK src i = false →
      s.workFail T_LS_RERANK src i = none → (s.lsOnFlash q && s.heldLate q.late q.r) = false →
      (s.serveFor q.r).rerankAll q.desc q.values q.cands = x → x.code = E_NONE →
      (q.rerank ≠ 2 → exec (.lsRerankDone src i) s = .next (s.done
        (x.st.serveEnd.lsSelect q ((sortEntries (entriesOf (x.data.length / 16) x.data)).take q.k)))) ∧
      (q.rerank = 2 → exec (.lsRerankDone src i) s = .next (s.done
        ((x.st.serveEnd.setLs { q with stage := .model, cands := sortEntries (entriesOf (x.data.length / 16) x.data) }).sendModel
          q.slot q.cand q.r (sortEntries (entriesOf (x.data.length / 16) x.data)))))) ∧
    (∀ src i q keys, s.unsent T_LS_MODEL src i = false → s.lsQuery src i = some q → q.stage = .model →
      s.workFail T_LS_MODEL src i = none →
      exec (.lsModelDone src i keys) s = .next (s.done
        (s.lsSelect q ((sortEntries (modelEntries q.cands keys)).take q.k)))) ∧
    (∀ ring m r, ring < 8192 → s.headReq ring U_SEARCH T_UPDATE_VEC = some (m, r) →
      (s.gwSlot (at_ r.payload 1 1) (at_ r.payload 2 2)).isNone = true →
      (at_ r.payload 0 1 ≠ 2 → exec (.append ring) s = .next (s.done ((s.popMsg ring m).lsUpdate r m))) ∧
      (at_ r.payload 0 1 = 2 → exec (.deleteVec ring) s = .next (s.done ((s.popMsg ring m).lsUpdate r m)))) ∧
    (∀ n x, n < 64 → s.get (F.LS_IDX_CTL_STATE n) ≠ 1 → s.load (s.get (F.LS_IDX_BASE_ADDR n)) 256 = x →
      (x.code = E_NONE → x.st.lsReason x.data = 0 → ∀ u,
        ((x.st.setBit (F.LS_IDX_CTL_EN n) true).set (F.LS_IDX_CTL_STATE n) 1).set (F.LS_IDX_CTL_REASON n) 0 = u →
        exec (.lsIndexEnable n) s = .next (s.done
          { u with ls := { u.ls with copies := smPut (fun _ => none) u.ls.copies n (some (lsDescOf x.data)) } })) ∧
      (x.code = E_NONE → x.st.lsReason x.data ≠ 0 →
        exec (.lsIndexEnable n) s = .next (s.done
          ((((x.st.setBit (F.LS_IDX_CTL_EN n) false).set (F.LS_IDX_CTL_STATE n) 2).set (F.LS_IDX_CTL_REASON n)
            (x.st.lsReason x.data)).raise EV_LS_INDEX_REJECTED 0 [])))) ∧
    (∀ n u, n < 64 →
      ((s.setBit (F.LS_IDX_CTL_EN n) false).set (F.LS_IDX_CTL_STATE n) 0).set (F.LS_IDX_CTL_REASON n) 0 = u →
      exec (.lsIndexDisable n) s = .next (s.done
        { u with ls := { u.ls with copies := smPut (fun _ => none) u.ls.copies n none } })) ∧
    (∀ w j rest x, s.ctl.shim = some w → s.ls.shadows = j :: rest → w.target / 16 % 2 = 1 →
      (State.countLs { s with ls := { s.ls with shadows := rest } }).shadowRun j.q = x → x.1 = E_NONE →
      exec .shadowDone s = .next (s.done
        (((x.2.2.bump F.LS_SHADOW_RECALL_HITS (j.prim.filter fun v => x.2.1.any fun e => e.vid == v).length).bump
          F.LS_SHADOW_RECALL_TOTAL j.prim.length).sendShadow j.q x.2.1)))

/-- R226 to R250: a walk is queued, starts, scores, expands, prunes and ends, the updates of a graph run, and an index is enabled and
disabled. -/
def Obligations.WalkerCommandsComplete : Prop :=
  ∀ s : State, s.dead = false →
    (∀ ring m r n d w, ring < 8192 → s.headReq ring U_SEARCH T_QUERY_GW = some (m, r) →
      s.gwSlot (at_ r.payload 0 1) (at_ r.payload 2 2) = some (n, d) →
      gwWalkOf r m n (s.ringDie ring) (s.get F.WLK_CFG_PREFETCH_CAP) d (s.oldCopy r.src r.reqId) = w → s.gwOk w = true →
      s.deadlinePassed r.deadline = false → s.cancelled r.src r.reqId = false → s.openSlots w.die ≠ 0 →
      exec (.queryGw ring) s = .next (s.done ((s.popMsg ring m).gwQueue w))) ∧
    (∀ n w u, n < 48 → s.freeSlot (n / 12) = some n → (s.gw.queue.find? fun w => w.die == n / 12 && s.mayStart w) = some w →
      { s with gw := { s.gw with queue := s.gw.queue.filter fun v => !(v.r.src == w.r.src && v.r.reqId == w.r.reqId) } } = u →
      u.deadlinePassed w.r.deadline = false → u.cancelled w.r.src w.r.reqId = false →
      exec (.walkStart n) s = .next (s.done (u.gwBegin n w))) ∧
    (∀ n w x y, n < 48 → s.walk n = some w → w.phase = .score → s.unsent T_GW_SCORE w.r.src w.r.reqId = false →
      s.workFail T_GW_SCORE w.r.src w.r.reqId = none → (s.gwOnFlash w && s.heldLate w.late w.r) = false → w.entered = true →
      (s.serveFor w.r).gwScores w.values { w with batch := [] } w.batch = x → x.code = E_NONE →
      x.st.gwAhead { x.val with entered := true, phase := .expand } = y →
      exec (.gwScoreDone n) s = .next (s.done (y.st.serveEnd.setWalk n y.val))) ∧
    (∀ n w, n < 48 → s.walk n = some w → w.phase = .expand → s.cancelled w.r.src w.r.reqId = false → s.gwOnFlash w = false →
      (∀ c, w.nextEnt = some c → ¬ (w.expansions = w.maxExpand ∧ w.maxExpand ≠ 0) →
        exec (.walkExpansion n) s = .next (s.done (s.gwExpand n w c))) ∧
      (w.nextEnt = none → exec (.walkExpansion n) s = .next (s.done (s.walkEnd n w)))) ∧
    (∀ n w c r x, n < 48 → s.walk n = some w → w.phase = .prune → s.unsent T_GW_PAIR w.r.src w.r.reqId = false →
      s.workFail T_GW_PAIR w.r.src w.r.reqId = none → w.cands = c :: r →
      (s.serveFor w.r).pairDists w.desc c.vid (w.kept.map GwCand.vid) = x → x.code = E_NONE →
      exec (.gwPairDone n) s = .next (s.done (x.st.serveEnd.pruneGo n
        { w with cands := r, kept := if keepCand w.desc.alpha c x.val then w.kept ++ [c] else w.kept }))) ∧
    (∀ ring m r n d u, ring < 8192 → s.headReq ring U_SEARCH T_UPDATE_VEC = some (m, r) →
      s.gwSlot (at_ r.payload 1 1) (at_ r.payload 2 2) = some (n, d) → s.shardBusy n = false →
      (s.freeSlot (s.ringDie ring)).isNone = false → s.popMsg ring m = u → gwUpdateOk d r.payload = true →
      u.deadlinePassed r.deadline = false → u.cancelled r.src r.reqId = false → u.journalRoom = true →
      (at_ r.payload 0 1 = 1 → exec (.insert ring) s = .next (s.done (u.gwInsert r m n (u.ringDie ring) d))) ∧
      (at_ r.payload 0 1 = 2 → exec (.gwDelete ring) s = .next (s.done (u.gwDelete r m n d))) ∧
      (at_ r.payload 0 1 = 3 → exec (.compact ring) s = .next (s.done (u.gwCompact r m n d))) ∧
      (at_ r.payload 0 1 = 4 → exec (.setEdges ring) s = .next (s.done (u.gwSetEdges r m n d)))) ∧
    (∀ n x, n < 64 → s.get (F.WLK_IDX_CTL_STATE n) ≠ 1 → s.load (s.get (F.WLK_IDX_BASE_ADDR n)) 256 = x →
      (x.code = E_NONE → x.st.gwReason x.data = 0 → ∀ u,
        ((x.st.setBit (F.WLK_IDX_CTL_EN n) true).set (F.WLK_IDX_CTL_STATE n) 1).set (F.WLK_IDX_CTL_REASON n) 0 = u →
        exec (.gwIndexEnable n) s = .next (s.done
          { u with gw := { u.gw with copies := smPut (fun _ => none) u.gw.copies n (some (gwDescOf x.data)) } })) ∧
      (x.code = E_NONE → x.st.gwReason x.data ≠ 0 →
        exec (.gwIndexEnable n) s = .next (s.done
          ((((x.st.setBit (F.WLK_IDX_CTL_EN n) false).set (F.WLK_IDX_CTL_STATE n) 2).set (F.WLK_IDX_CTL_REASON n)
            (x.st.gwReason x.data)).raise EV_GW_INDEX_REJECTED n [x.st.gwReason x.data])))) ∧
    (∀ n u, n < 64 →
      ((s.setBit (F.WLK_IDX_CTL_EN n) false).set (F.WLK_IDX_CTL_STATE n) 0).set (F.WLK_IDX_CTL_REASON n) 0 = u →
      exec (.gwIndexDisable n) s = .next (s.done
        { u with gw := { u.gw with copies := smPut (fun _ => none) u.gw.copies n none } }))

/-- R257, R259, R265 to R271: a selection pass ends, a merge buffer is filled, becomes final at its deadline or its idle limit, and a
payload lookup of a result is answered. -/
def Obligations.SelectionCommandsComplete : Prop :=
  ∀ s : State, s.dead = false →
    (∀ src i j p d, s.topJob src i = some j → s.unsent T_SEL_TOPK src i = false → s.workFail T_SEL_TOPK src i = none →
      s.cancelled src i = false → topPass j.input (min 256 (j.k - j.kept.length)) j.after = p → dedupInto j.kept p.out = d →
      (¬ (j.k ≤ d.kept.length ∨ p.out.length < min 256 (j.k - j.kept.length)) → ∀ u,
        (s.countDups d.removed d.conflict).dropTop src i = u →
        exec (.selTopkDone src i) s = .next (s.done
          (State.sendPass { u with sel := { u.sel with tops := u.sel.tops ++ [{ j with kept := d.kept, after := p.out.getLast? }] } }
            { j with kept := d.kept, after := p.out.getLast? }))) ∧
      (j.k ≤ d.kept.length ∨ p.out.length < min 256 (j.k - j.kept.length) →
        exec (.selTopkDone src i) s = .next (s.done
          ((((s.countDups d.removed d.conflict).dropTop src i).finishSearch j.unit j.r j.merge
            ⟨j.shard, j.k, orFlags j.flags (dupFlag d.kept), E_NONE,
             if d.kept.length < j.k then 0
             else (dedupInto [] (p.tied.filter fun e => !(d.kept.any fun k => k.vid == e.vid))).kept.length, d.kept⟩).sample j.ls d.kept)))) ∧
    (∀ p, p.op = OP_MERGE → exec (.merge (.wire p)) s = .next (s.done (s.rxPacket p).settleNet)) ∧
    (∀ b, b < 4096 → (s.mbuf b).st = 1 → s.finalBeat (s.mbuf b).deadline = true →
      exec (.mergeDeadline b) s = .next (s.done (s.finalise b))) ∧
    (∀ b u, b < 4096 → (s.mbuf b).st = 1 → s.reach ((s.mbuf b).progress + beatsNs (s.get F.SEL_CFG_IDLE_LIMIT)) = u →
      exec (.mergeIdleTimeout b) s = .next (s.done
        (((u.bump F.SEL_CNT_EXC_TIMEOUT 1).raiseReq EV_SEL_MERGE_TIMEOUT 0 [] (u.tenantOf (u.mbuf b).gten) (u.mbuf b).reqId).finalise b))) ∧
    (∀ src i j q a t, s.payJob src i = some j → j.ask = some q → s.takeAnswer q = some (a, t) →
      exec (.payloadLookupDone src i) s = .next (s.done ((t.payAnswer { j with ask := none } a).payWake j.area)))

/-- R275, R281 to R296: lookups and updates of the tables are taken, the results of their row commands are taken, pins are given and
freed, an epoch flips when its time is out, a swap runs row by row, and a table is enabled and disabled. -/
def Obligations.TableCommandsComplete : Prop :=
  ∀ s : State, s.dead = false →
    (∀ ring m r u d q x, ring < 8192 → s.headReq ring U_TABLES T_LOOKUP = some (m, r) → s.popMsg ring m = u →
      u.tblDesc (at_ r.payload 0 1) (at_ r.payload 2 2) = some d → (u.lookupCode d r).1 = E_NONE → u.cancelled r.src r.reqId = false →
      ({ r := r, msg := m, desc := d, kind := 0, pin := (u.lookupCode d r).2, rows := (List.range (at_ r.payload 6 2)).map fun j =>
        ({ row := at_ (r.payload) (32 + 4 * j) 4, st := .held } : TblRow) } : TblReq) = q →
      State.issueRows { u with tbl := { u.tbl with reqs := u.tbl.reqs ++ [q] } } q q.rows = x →
      exec (.lookup ring) s = .next (s.done (x.2.lookupDone { q with rows := x.1 }))) ∧
    (∀ k u p t q, k < 12 → u < 256 → s.hasUnit k u = true → s.resultFor k u U_TABLES = some (p, t) → s.swapTag p.tag = false →
      s.reqOfTag p.tag = some q → exec (.rowCommandDone k u) s = .next (s.done (t.rowResult q p))) ∧
    (∀ ring m r, ring < 8192 → s.headReq ring U_TABLES T_UPDATE_ROW = some (m, r) →
      (at_ r.payload 0 1 = 1 → exec (.replace ring) s = .next (s.done ((s.popMsg ring m).takeUpdate r m))) ∧
      (at_ r.payload 0 1 = 2 → exec (.apply ring) s = .next (s.done ((s.popMsg ring m).takeUpdate r m))) ∧
      (at_ r.payload 0 1 = 3 → exec (.load ring) s = .next (s.done ((s.popMsg ring m).takeUpdate r m)))) ∧
    (∀ ring m r u d, ring < 8192 → s.headReq ring U_TABLES T_TABLE_OP = some (m, r) → s.popMsg ring m = u →
      u.tblDesc (at_ r.payload 1 1) (at_ r.payload 2 2) = some d → r.payload.length = 32 → u.deadlinePassed r.deadline = false →
      u.cancelled r.src r.reqId = false →
      (at_ r.payload 0 1 = 1 → d.double = true → u.bit (F.TBL_EPOCH_SWITCHING d.table) = false →
        exec (.pin ring) s = .next (s.done (u.takePin r d))) ∧
      (at_ r.payload 0 1 = 1 → d.double = true → u.bit (F.TBL_EPOCH_SWITCHING d.table) = true →
        exec (.pin ring) s = .next (s.done { u with tbl := { u.tbl with waits := u.tbl.waits ++ [(r, d)] } })) ∧
      (∀ p, at_ r.payload 0 1 = 2 → smGet (fun _ => none) u.tbl.pins (at_ r.payload 4 2) = some p → p.table = d.table →
        r.rehearsal = false →
        exec (.unpin ring) s = .next (s.done (State.tryFlip (State.answer (State.countTbl { u with tbl := { u.tbl with
          pins := smPut (fun _ => none) u.tbl.pins (at_ r.payload 4 2) none } }) U_TABLES r E_NONE) d.table))) ∧
      (∀ w v, at_ r.payload 0 1 = 3 → at_ r.payload 12 4 ≠ 0 → d.rowBase ≤ at_ r.payload 8 4 →
        at_ r.payload 8 4 + at_ r.payload 12 4 ≤ d.rowBase + d.rows →
        u.arrayOk (at_ r.payload 16 6) (at_ r.payload 12 4 * d.srcBytes) = true → (u.swap d.table).isSome = false →
        (u.tbl.swaps.filterMap Prod.snd).length < 16 → r.rehearsal = false →
        ({ r := r, desc := d, first := at_ r.payload 8 4, count := at_ r.payload 12 4, src := at_ r.payload 16 6,
           durable := at_ r.payload 8 4 } : TblSwap) = w →
        ((u.set (F.TBL_SWAP_CURSOR d.table) w.first).set (F.TBL_SWAP_STATE d.table) SW_RUNNING).writeSys 2 d.table
          [w.first, w.first + w.count] = v →
        exec (.swap ring) s = .next (s.done ((v.2.setSwap d.table (some w)).swapNext d.table w)))) ∧
    (∀ t, t < 256 → s.bit (F.TBL_EPOCH_SWITCHING t) = true →
      exec (.tableFlipTimeout t) s = .next (s.done ((s.reach (smGet (fun _ => 0) s.tbl.since t + beatsNs 4096)).tblFlip t))) ∧
    (∀ t w u p v, t < 256 → s.swap t = some w →
      unitPlace (w.desc.extent w.desc.rowOff (s.get (F.TBL_SWAP_CURSOR t) - w.desc.rowBase)) = u →
      s.resultFor u.1 u.2.1 U_TABLES = some (p, v) → w.tag = some p.tag → failedRow p = E_NONE →
      exec (.swapRowCommit t) s = .next (s.done (v.swapRow t w))) ∧
    (∀ t x u, t < 256 → s.get (F.TBL_CTL_STATE t) ≠ 1 → s.load (s.get (F.TBL_DESC_BASE_ADDR t)) 128 = x → x.code = E_NONE →
      x.st.tblReason t x.data = 0 →
      (((x.st.setBit (F.TBL_CTL_EN t) true).set (F.TBL_CTL_STATE t) 1).set (F.TBL_CTL_REASON t) 0).setReg (Reg.TBL_EPOCH t) 0 = u →
      exec (.tableEnable t) s = .next (s.done (State.countTbl { u with tbl := { u.tbl with
        copies := smPut (fun _ => none) u.tbl.copies t (some (tblDescOf x.data))
        pins := u.tbl.pins.filter fun e => match e.2 with
          | some p => p.table != t
          | none => false } }))) ∧
    (∀ t x, t < 256 → s.get (F.TBL_CTL_STATE t) ≠ 1 → s.load (s.get (F.TBL_DESC_BASE_ADDR t)) 128 = x → x.code = E_NONE →
      x.st.tblReason t x.data ≠ 0 →
      exec (.tableEnable t) s = .next (s.done ((((x.st.setBit (F.TBL_CTL_EN t) false).set (F.TBL_CTL_STATE t) 2).set
        (F.TBL_CTL_REASON t) (x.st.tblReason t x.data)).raise EV_TBL_REJECTED 0 []))) ∧
    (∀ t u, t < 256 → ((s.setBit (F.TBL_CTL_EN t) false).set (F.TBL_CTL_STATE t) 0).set (F.TBL_CTL_REASON t) 0 = u →
      exec (.tableDisable t) s = .next (s.done
        { u with tbl := { u.tbl with copies := smPut (fun _ => none) u.tbl.copies t none } }))

/-- R309 to R323: a text query, the four requests of a stream, a generated token, a grammar's mask, the end of a stream at its idle limit
or deadline, and a grammar enabled and disabled. -/
def Obligations.TextCommandsComplete : Prop :=
  ∀ s : State, s.dead = false →
    (∀ ring m r u x o v, ring < 8192 → s.headReq ring U_TEXT T_QUERY_TEXT = some (m, r) → s.popMsg ring m = u →
      textQueryOk r.payload = true → u.tokeniser (at_ r.payload 97 1) = some x → x.code = E_NONE → x.st.cancelled r.src r.reqId = false →
      (endText x.data (at_ r.payload 98 1 % 2 == 1)
        (feedText x.data (at_ r.payload 98 1 % 2 == 1) {} (r.payload.drop 112))).2 = o →
      x.st.countText r.tenant o = v → (tkPrefix x.data ++ o.toks).length ≤ tkMaxQuery x.data →
      exec (.queryText ring) s = .next (s.done (State.sendWork { v with txt := { v.txt with
        asked := (v.txt.asked.filter fun q => (v.flight q.src q.reqId).isSome) ++ [{ r with payload := r.payload.take 96 }] } }
        1 T_TXT_TOKENS r (r.payload.take 96 ++ leBytes 4 (tkPrefix x.data ++ o.toks).length ++ zeros 28 ++
          tokenBytes (tkPrefix x.data ++ o.toks))))) ∧
    (∀ ring m r, ring < 8192 → s.headReq ring U_TEXT T_TEXT_STREAM = some (m, r) →
      (at_ r.payload 0 1 = 1 → exec (.streamOpen ring) s = .next (s.done ((s.popMsg ring m).takeOpen r))) ∧
      (∀ n x a y, at_ r.payload 0 1 = 2 → (s.popMsg ring m).namedStream r = some (n, x) → x.promptDone = false →
        streamLenOk r.payload = true → (s.popMsg ring m).tokeniser x.tok = some a → a.code = E_NONE →
        feedText a.data x.inReplace x.inp (r.payload.drop 32) = y →
        exec (.streamInput ring) s = .next (s.done
          (let y := if at_ r.payload 1 1 % 2 == 1 then endText a.data x.inReplace y else y
           ((a.st.countText x.r.tenant y.2).prompt n { x with inp := y.1 } y.2.toks (at_ r.payload 1 1 % 2 == 1)).answer U_TEXT r E_NONE))) ∧
      (∀ n x a y ids, at_ r.payload 0 1 = 3 → (s.popMsg ring m).namedStream r = some (n, x) →
        (s.popMsg ring m).ctrlAllowed r.tenant = true → x.promptDone = false → streamLenOk r.payload = true →
        at_ r.payload 16 4 % 4 = 0 → (s.popMsg ring m).tokeniser x.tok = some a → a.code = E_NONE →
        tokenIds (at_ r.payload 16 4 / 4) (r.payload.drop 32) = ids → (ids.any fun i => decide (tkVocab a.data ≤ i)) = false →
        endText a.data x.inReplace (x.inp, {}) = y →
        exec (.streamControl ring) s = .next (s.done
          (((a.st.countText x.r.tenant y.2).prompt n { x with inp := y.1 } (y.2.toks ++ ids) (at_ r.payload 1 1 % 2 == 1)).answer
            U_TEXT r E_NONE))) ∧
      (∀ n x, at_ r.payload 0 1 = 4 → (s.popMsg ring m).namedStream r = some (n, x) → streamLenOk r.payload = true →
        at_ r.payload 16 4 = 0 →
        exec (.streamClose ring) s = .next (s.done (((s.popMsg ring m).answer U_TEXT r E_NONE).stopStream n x 7 E_NONE)))) ∧
    (∀ ring m r x, ring < 8192 → s.fails = [] → s.headReq ring U_TEXT T_TXT_GEN = some (m, r) →
      (s.popMsg ring m).stream (at_ r.payload 0 2) = some x → x.serial = at_ r.payload 4 4 → x.awaiting = some (at_ r.payload 8 4) →
      16 ≤ r.payload.length →
      exec (.txtGen ring) s = .next (s.done ((s.popMsg ring m).genToken (at_ r.payload 0 2) x (at_ r.payload 12 4)))) ∧
    (∀ n x t v, n < 4096 → s.stream n = some x → x.fetching = true → x.gstate < x.gdesc.states → s.tokeniser x.tok = some t →
      t.code = E_NONE →
      (t.st.serveFor x.r).load (x.gdesc.maskOff + x.gstate * maskBytes (tkVocab t.data)) (maskBytes (tkVocab t.data)) = v →
      v.code = E_NONE →
      exec (.maskFetchDone n) s = .next (s.done
        ((v.st.serveEnd.setStream n (some { x with awaiting := some x.gen, fetching := false })).sendToRing x.ring T_TXT_STEP x.r
          (workHeader n x.serial x.gen x.prev ++ zeros 16 ++ v.data)))) ∧
    (∀ n x, n < 4096 → s.stream n = some x →
      (x.generating = false → exec (.streamIdle n) s = .next (s.done
        (((s.reach (x.last + beatsNs (s.get F.TXT_CFG_IDLE_LIMIT))).stopStream n x 12 E_NONE).raiseReq EV_TXT_STREAM_IDLE n []
          x.r.tenant x.r.reqId))) ∧
      (x.r.deadline ≠ 0 → s.beat.valid = true → beatAfter x.r.deadline s.beat.beat = false →
        exec (.streamDeadline n) s = .next (s.done (s.stopStream n x 9 E_DEADLINE)))) ∧
    (∀ g x, g < 16 → s.get (F.TXT_GRAM_CTL_STATE g) ≠ 1 → s.load (s.get (F.TXT_GRAM_BASE_ADDR g)) 64 = x →
      (x.st.gramReason (s.get (F.TXT_GRAM_BASE_ADDR g)) x = 0 → ∀ u,
        ((x.st.setBit (F.TXT_GRAM_CTL_EN g) true).set (F.TXT_GRAM_CTL_STATE g) 1).set (F.TXT_GRAM_CTL_REASON g) 0 = u →
        exec (.grammarEnable g) s = .next (s.done
          { u with txt := { u.txt with grams := smPut (fun _ => none) u.txt.grams g (some (gramOf x.data)) } })) ∧
      (∀ why, x.st.gramReason (s.get (F.TXT_GRAM_BASE_ADDR g)) x = why → why ≠ 0 →
        exec (.grammarEnable g) s = .next (s.done
          ((((x.st.setBit (F.TXT_GRAM_CTL_EN g) false).set (F.TXT_GRAM_CTL_STATE g) 2).set (F.TXT_GRAM_CTL_REASON g) why).raise
            EV_TXT_GRAMMAR_REJECTED 0 [])))) ∧
    (∀ g u, g < 16 → ((s.setBit (F.TXT_GRAM_CTL_EN g) false).set (F.TXT_GRAM_CTL_STATE g) 0).set (F.TXT_GRAM_CTL_REASON g) 0 = u →
      exec (.grammarDisable g) s = .next (s.done
        { u with txt := { u.txt with grams := smPut (fun _ => none) u.txt.grams g none } }))

/-- R327 to R335, R349, R464: a carrier is put in and taken out, identified, mounted, formatted, adopted, detached, attached and
sanitised. -/
def Obligations.CarrierCommandsComplete : Prop :=
  ∀ (s : State) (c : Nat), s.dead = false → c < 8 →
    (∀ model owner tier blocks u, s.carState c = CS_ABSENT → c < s.nCarriers →
      s.setCar c { present := true, model := model, sysValid := !owner.isEmpty, owner := owner, tierBlocks := tier
                   blk := blocks.foldl (fun m e => smPut (fun _ => []) m e.1 (padTo 4096 e.2)) [] } = u →
      3 ≤ u.get F.NCTL_BOOT_STATE → u.get F.NCTL_BOOT_STATE ≤ 6 →
      exec (.carrierInsert c false model owner tier blocks) s = .next (s.done (u.setCarState c CS_IDENTIFYING))) ∧
    (∀ u v w, (s.car c).present = true → s.endOps c (some E_ABSENT) = u →
      u.setCar c { u.car c with present := false, running := 0, credit := 0 } = v → v.carState c ≠ CS_ABSENT →
      (((v.setCarState c CS_ABSENT).setBit (F.FL_CAR_STATUS_THERMAL c) false).set (F.FL_CAR_STATUS_MODE c) 0).set
        (F.FL_CAR_STATUS_FREE_SB c) 0 = w →
      exec (.carrierRemoved c) s = .next (s.done
        (((w.set (F.FL_CAR_STATUS_MODEL c) 0).flShow).raise EV_FL_CARRIER_LOST c []))) ∧
    (∀ cert response nand code, s.carState c = CS_IDENTIFYING → s.carCheck cert response nand = code →
      exec (.carrierIdentified c cert response nand) s = .next (s.done
        (let t := s.nextFree.set (F.SEC_CAR_RESULT c) code
         let t := if code = 2 then t else t.set (F.SEC_CAR_KEY_ID c) (at_ cert 88 7)
         if code ≠ 1 then
           ((t.setCarState c CS_REFUSED).raise EV_SEC_CARRIER_AUTH_FAIL c [c, code]).raise EV_FL_CARRIER_REFUSED c []
         else
           let serial := (cert.drop 8).take 16
           let t := t.extend 4 4 serial (Config.shake256 ((cert.drop 28).take 57 ++ serial) 32)
           let x := t.car c
           let t := (t.setCar c { x with model := nand }).set (F.FL_CAR_STATUS_MODEL c) nand
           if !x.sysValid then t.setCarState c CS_BLANK
           else if t.noIdentity ∨ x.owner ≠ t.deviceId then t.setCarState c CS_FOREIGN
           else t.carGo c))) ∧
    (s.carState c = CS_MOUNTING →
      exec (.mountDone c true) s = .next (s.done (if (s.carOnline c).serving c && !s.serving c then (s.carOnline c).sysMount else s.carOnline c)) ∧
      ((s.setCarState c CS_FAILED).serving c = false →
        exec (.mountDone c false) s = .next (s.done (s.setCarState c CS_FAILED)))) ∧
    ((s.car c).running = 0 → s.carState c = CS_BLANK ∨ s.carState c = CS_FOREIGN → ∀ u, s.carResult c FR_OK = u → u.noIdentity = false →
      sysBlocks + u.get (F.FL_CAR_PART_TIER_BLOCKS c) ≤ modelBlocks (u.car c).model →
      exec (.format c) s = .next (s.done (u.carRun c 1))) ∧
    (∀ x, s.car c = x → x.running = 1 →
      exec (.formatDone c) s = .next (s.done ((s.setCar c
        { present := true, model := x.model, sysValid := true, owner := s.deviceId, tierBlocks := s.get (F.FL_CAR_PART_TIER_BLOCKS c)
          eraseBase := x.eraseBase + 1, alert := x.alert, classes := x.classes, health := x.health, mirror := x.mirror
          supers := x.supers.map (fun e => (e.1, ({ erases := e.2.erases, retired := e.2.retired } : SuperBlk))) }).carOnline c))) ∧
    ((s.car c).running = 0 → s.carState c = CS_FOREIGN → ∀ u, s.carResult c FR_OK = u → u.noIdentity = false →
      exec (.adopt c) s = .next (s.done ((u.setCar c { u.car c with owner := u.deviceId }).carGo c))) ∧
    ((s.car c).running = 0 → s.carState c = CS_ONLINE ∨ s.carState c = CS_READ_ONLY →
      exec (.detach c) s = .next (s.done (((s.carResult c FR_OK).carRun c 3).setCarState c CS_DETACHING)) ∧
      exec (.sanitise c) s = .next (s.done (((s.carResult c FR_OK).endOps c (some E_CANCELLED)).carRun c 2))) ∧
    (s.carState c = CS_DETACHING → (s.car c).ops = [] →
      exec (.detachDone c) s = .next (s.done (((s.mirrorHealth c).carRun c 0).setCarState c CS_DETACHED))) ∧
    ((s.car c).running = 0 → s.carState c = CS_DETACHED ∨ s.carState c = CS_REFUSED ∨ s.carState c = CS_FAILED →
      exec (.attach c) s = .next (s.done ((s.carResult c FR_OK).setCarState c CS_IDENTIFYING))) ∧
    (∀ x residue u, s.car c = x → x.running = 2 →
      ((s.setCar c { x with blk := [], bad := [], place := [], openSb := none, credit := 0, running := 0, eraseBase := x.eraseBase + 1
                            sys := []
                            supers := x.supers.map (fun e => (e.1, ({ erases := e.2.erases, retired := e.2.retired } : SuperBlk)))
                            health := { x.health with eraseFail := satAdd 32 x.health.eraseFail residue } }).setCarState c
        CS_ONLINE).flJudge c = u →
      exec (.sanitiseDone c residue) s = .next (s.done (if residue = 0 then u else u.raise EV_FL_SECURE_RESIDUE c [])))

/-- R336 to R354: the five STORAGE requests, their ends on the media, a victim that is freed, a write whose deadline has come, the
carrier's temperature and alert, and the hourly copy of its health record. -/
def Obligations.StorageCommandsComplete : Prop :=
  ∀ s : State, s.dead = false →
    (∀ row ∈ ([(.storageRead, 1), (.storageWrite, 2), (.storageDiscard, 3), (.secureDiscard, 4), (.health, 5)] :
        List ((Nat → Instr) × Nat)),
      ∀ ring m r, ring < 8192 → s.headReq ring U_FLASH T_STORAGE = some (m, r) → at_ r.payload 0 1 = row.2 →
        (s.popMsg ring m).storageCode r = E_NONE →
        exec (row.1 ring) s = .next (s.done ((s.popMsg ring m).storageDo r))) ∧
    (∀ c residue o u v, c < 8 → ((s.car c).ops.find? fun o => o.op == 4 && o.begun) = some o → s.flHeld c = false →
      o.supers.foldl (fun (x : CarrierSt) n => (x.relocate s.free n).erase n) (s.car c) = u →
      (s.setCar c { u with health := { u.health with eraseFail := satAdd 32 u.health.eraseFail residue } }).nextFree.flJudge c = v →
      exec (.secureDiscardDone c residue) s = .next (s.done
        ((((if residue = 0 then v else v.raise EV_FL_SECURE_RESIDUE c []).storeAt U_FLASH 0 o.r o.off (leBytes 4 residue ++ zeros 28)).endOp
          c o (if residue = 0 then E_NONE else E_MEDIA)).flBegin c))) ∧
    (∀ c src i fails o u v, c < 8 → s.flBegin c = u → ((u.car c).ops.find? fun o => o.r.src == src && o.r.reqId == i) = some o →
      o.op = 2 → o.begun = true → u.flHeld c = false →
      ((List.range fails).foldl (fun s _ => s.programFail c) u).flWrite c o.first o.count (o.data.getD []) = v →
      exec (.programDone c src i fails) s = .next (s.done (((v.charge o.r.tenant 11 o.count).endOp c o E_NONE).flBegin c))) ∧
    (∀ c b cls bits retries uncorr, c < 8 → cls < 2048 → s.serving c = true → b < modelBlocks (s.car c).model →
      exec (.flashReadDone c b cls bits retries uncorr) s = .next (s.done (s.blockRead c b cls bits retries uncorr))) ∧
    (∀ c x n v b u, c < 8 → s.car c = x → x.victim = some n → s.get (F.FL_CAR_STATUS_MODE c) ≠ 0 → s.flHeld c = false →
      s.serving c = true → (x.valid n).length = v → superRoom x.model (x.sb n).retired = b →
      (s.setCar c { x with credit := x.credit + v * (b - v) }).flBegin c = u →
      exec (.reclaimVictimFreed c) s = .next (s.done
        (((u.setCar c { ((u.car c).relocate u.free n).erase n with credit := 0, victims := (u.car c).victims + 1 }).nextFree.flJudge c).flBegin
          c))) ∧
    (∀ c o, c < 8 → (s.car c).ops = [o] → o.op = 2 → o.begun = false → s.writeLate o = true →
      exec (.writeDeadline c) s = .next (s.done ((s.endOp c o E_DEADLINE).flBegin c))) ∧
    (∀ c t u, c < 8 → s.carPowered c = true →
      (s.setCar c { s.car c with health := { (s.car c).health with
        tempMax := some (max (signed 8 t) ((s.car c).health.tempMax.getD (signed 8 t)))
        hot := (s.car c).health.hot || decide (85 ≤ signed 8 t) } }).set (F.FL_CAR_STATUS_TEMP_C c) (unsigned 8 (signed 8 t)) = u →
      exec (.carrierTempPoll c t) s = .next (s.done (if 85 ≤ signed 8 t then u.carHot c else u.carCool c))) ∧
    (∀ c, c < 8 → s.carPowered c = true →
      exec (.carrierAlert c) s = .next (s.done ((s.setCar c { s.car c with alert := true }).carHot c))) ∧
    (∀ c k, c < 8 → s.carPowered c = true → s.mounted c = true → tempBand (signed 8 (s.get (F.FL_CAR_STATUS_TEMP_C c))) = k →
      exec (.healthMirror c) s = .next (s.done ((s.setCar c { s.car c with health := { (s.car c).health with
        hours := satAdd 32 (s.car c).health.hours 1
        hist := (s.car c).health.hist.mapIdx (fun i n => if i = k then satAdd 32 n 1 else n) } }).mirrorHealth c)))

/-- R359 to R367: the port is enabled and disabled, its link changes state, a frame and a PFC frame arrive, a pause ends, an XOFF is
refreshed and a FEC window is judged. -/
def Obligations.PortCommandsComplete : Prop :=
  ∀ s : State, s.dead = false →
    (∀ u, s.bit F.PORT_CFG_ENABLE = false → s.setBit F.PORT_CFG_ENABLE true = u →
      exec .portEnable s = .next (s.done
        (let t := { u with port := { u.port with
           mode := u.get F.PORT_CFG_MODE, anEn := u.bit F.PORT_CFG_AN_EN, adv := u.get F.PORT_CFG_ADV_1T6 + 2 * u.get F.PORT_CFG_ADV_800G } }
         t.setLink (if crMode (u.get F.PORT_CFG_MODE) then (if t.port.anEn then LK_NEGOTIATING else LK_TRAINING) else LK_ALIGNING)))) ∧
    exec .portDisable s = .next (s.done (((s.setBit F.PORT_CFG_ENABLE false).setLink LK_DISABLED).setLanes 0)) ∧
    (∀ st lanes peer, s.bit F.PORT_CFG_ENABLE = true → 2 ≤ st → st ≤ 6 → s.linkState ≠ LK_NEGOTIATING →
      (st = LK_TRAINING → crMode s.port.mode = true) → st ≠ LK_NEGOTIATING →
      exec (.linkStateChange st lanes peer) s = .next (s.done ((s.setLink st).setLanes (lanes &&& modeLanes s.port.mode)))) ∧
    (∀ f share, s.linkState = LK_UP → 64 ≤ f.len → f.len ≤ 9216 → f.fcsOk = true → f.ethertype ≠ 0x8808 → s.takesAddr f.dst = true →
      exec (.frameReceived f share) s = .next (s.done (s.acceptFrame f share))) ∧
    (∀ qs, s.linkState = LK_UP → exec (.pfcReceived qs) s = .next (s.done (s.pfcReceived qs))) ∧
    (∀ c u, c < 8 → smGet (fun _ => 0) s.port.pauseUntil c ≠ 0 → s.reach (smGet (fun _ => 0) s.port.pauseUntil c) = u →
      exec (.pfcPauseExpiry c) s = .next (s.done
        { u with port := { u.port with pauseUntil := smPut (fun _ => 0) u.port.pauseUntil c 0 } })) ∧
    (∀ c n u v, c < 8 → smGet (fun _ => 0) s.port.xoffSent c ≠ 0 →
      (s.reach (smGet (fun _ => 0) s.port.xoffSent c - 1 + s.quantaNs (s.get F.PORT_PFC_QUANTA) / 2)).setShare c n = u →
      smGet (fun _ => 0) u.port.xoffSent c ≠ 0 → u.sendPfc c (u.get F.PORT_PFC_QUANTA) = v →
      exec (.pfcRefresh c n) s = .next (s.done
        { v with port := { v.port with xoffSent := smPut (fun _ => 0) v.port.xoffSent c (u.now + 1) } })) ∧
    (∀ a b u, (s.bump F.PORT_FEC_CNT_CORRECTED a).bump F.PORT_FEC_CNT_UNCORRECTED b = u →
      (u.get F.PORT_FEC_CFG_DEGRADE_THR ≤ b → u.port.fecRaised = false →
        exec (.fecWindow a b) s = .next (s.done
          (State.raise { u with port := { u.port with fecRaised := true } } EV_PORT_FEC_DEGRADED 0 []))) ∧
      (b < u.get F.PORT_FEC_CFG_DEGRADE_THR →
        exec (.fecWindow a b) s = .next (s.done { u with port := { u.port with fecRaised := false } })))

/-- R408 to R411, R421, R426: the port's next frame goes out by the shaper and the deficit round-robin, the gate list goes on, the queues
are sampled, the counters are snapped, and a waiting express frame goes out when its shaper has the tokens. -/
def Obligations.TrafficCommandsComplete : Prop :=
  ∀ s : State, s.dead = false →
    (∀ u, s.get F.PORT_STATUS_STATE = 4 → (s.reach (max s.port.busyUntil s.port.trimUntil)).fillTokens = u →
      (∀ f rest, u.tsQueue 7 = f :: rest → u.tsEligible 7 = true → f.wire * 8000 ≤ u.ts.tokens →
        State.tsQueue { u with ts := { u.ts with tokens := u.ts.tokens - f.wire * 8000 } } 7 = f :: rest →
        exec .txSlot s = .next (s.done
          ((State.sendFrame { u with ts := { u.ts with tokens := u.ts.tokens - f.wire * 8000 } } 7 f rest).pumpClass 7))) ∧
      (∀ c v f rest, u.tsEligible 7 = false → u.drrPick = (some c, v) → v.tsQueue c = f :: rest →
        exec .txSlot s = .next (s.done ((v.sendFrame c f rest).pumpClass c)))) ∧
    (∀ l, s.ts.list = some l → s.beat.valid = true → s.gateEntry = s.ts.entry →
      exec .gateEntryBoundary s = .next (s.done (s.reach (s.now + s.nextEntry l)).settleGates)) ∧
    (s.bit F.TS_SAMPLE_CTL_EN = true → s.beat.valid = true → s.beat.beat % s.get F.TS_SAMPLE_CTL_PERIOD = 0 →
      s.ts.sampledAt ≠ some s.beat.beat →
      exec .queueSample s = .next (s.done
        (([0, 1, 2, 3, 4, 5, 6, 7].foldl State.writeSample
          { s with ts := { s.ts with sampledAt := some s.beat.beat } }).markSample))) ∧
    (∀ u f rest, s.fillTokens = u → u.tsQueue 7 = f :: rest → u.ts.tokens < f.wire * 8000 →
      exec .expressShaperReady s = .next (s.done (u.reach (u.now + (f.wire * 8000 - u.ts.tokens + u.get F.TS_EXP_EXP_RATE_MBPS - 1) /
        u.get F.TS_EXP_EXP_RATE_MBPS)).fillTokens)) ∧
    exec .telSnap s = .next (s.done
      { s with tel := { shadow := (s.regs.filter fun e => snapped e.1).map fun e => (e.1, e.2.toNat) } })

/-- R379 to R401: the row of a Skorath operation performs a packet that carries its operation, and runs the node's own operation of that
kind when it is offered from the loop. -/
def Obligations.FabricRowsTakeTheirPacket : Prop :=
  ∀ s : State, s.dead = false →
    (∀ row ∈ ([(.read, OP_READ), (.write, OP_WRITE), (.writeFlag, OP_WRITE_FLAG), (.atomic, OP_ATOMIC), (.reduceOp, OP_REDUCE),
        (.haldio, OP_HALDIO), (.merge, OP_MERGE)] : List ((Rx → Instr) × Nat)),
      (∀ p, p.op = row.2 → exec (row.1 (.wire p)) s = .next (s.done (s.rxPacket p).settleNet)) ∧
      exec (row.1 .loop) s = .next (s.done (s.loopRun fun o => o.op == row.2).settleNet)) ∧
    (∀ p, p.op = OP_READ_RESP → exec (.readResp p) s = .next (s.done (s.rxPacket p).settleNet)) ∧
    (∀ p, p.op = OP_ATOMIC_RESP → exec (.atomicResp p) s = .next (s.done (s.rxPacket p).settleNet)) ∧
    (∀ row ∈ ([(.cancel, T_CANCEL), (.redirect, T_REDIRECT)] : List ((Rx → Instr) × Nat)),
      (∀ p, p.op = OP_HALDIO → at_ p.data 1 1 = row.2 → exec (row.1 (.wire p)) s = .next (s.done (s.rxPacket p).settleNet)) ∧
      exec (row.1 .loop) s = .next (s.done (s.loopRun fun o => o.op == OP_HALDIO && at_ o.data 1 1 == row.2).settleNet)) ∧
    (∀ x, s.sko.flagWait ≠ [] → s.launchList [] s.sko.flagWait = x →
      exec .writeFlagRelease s = .next (s.done { x.1 with sko := { x.1.sko with flagWait := x.2 } })) ∧
    (∀ src i c, (s.sko.cancels.find? fun c => c.src == src && c.reqId == i) = some c →
      exec (.cancelHoldExpiry src i) s = .next (s.done ((s.reach (c.at_ + s.cancelHold)).freeCancel src i)))

/-- R381 to R389, R403: acknowledgements, refusals, resynchronisation and congestion marks reach the sending connection, and its timers
and its receiving end's timers do what the rules say. -/
def Obligations.ConnectionCommandsComplete : Prop :=
  ∀ s : State, s.dead = false →
    (∀ a k c u, connKey a.peer a.cls = k → (s.bump F.SKO_CNT_RX_PACKETS 1).txOf k = some c → s.bump F.SKO_CNT_RX_PACKETS 1 = u →
      exec (.ack a) s = .next (s.done ((((c.acked a.next).foldl (fun t p =>
        if p.last && ackEnds p.op then (t.heard a.peer).endAt p.opId a.peer E_NONE [] else t)
        (u.setConn k (c.onAck a (u.get F.SKO_CFG_RTO_US * 1000) u.now))).pump k).ncSettle))) ∧
    (∀ a u c, (s.bump F.SKO_CNT_RX_PACKETS 1).onAck a = u → u.txOf (connKey a.peer a.cls) = some c →
      (c.again a.next c.unacked).rnrCount + 1 < u.get F.SKO_CFG2_RNR_MAX →
      exec (.nakRnr a) s = .next (s.done (State.ncSettle (u.setConn (connKey a.peer a.cls) { c.again a.next c.unacked with
        rnrCount := (c.again a.next c.unacked).rnrCount + 1, rnrHold := true
        rnrUntil := u.now + u.get F.SKO_CFG2_RNR_WAIT_US * 1000 })))) ∧
    (∀ a, ((s.bump F.SKO_CNT_RX_PACKETS 1).opsOn (connKey a.peer a.cls)).any (fun o => o.opId == a.opId) = true →
      exec (.nakErr a) s = .next (s.done
        (((((s.bump F.SKO_CNT_RX_PACKETS 1).heard a.peer).endAt a.opId a.peer a.code []).onAck a).ncSettle))) ∧
    (∀ a k x, connKey a.peer a.cls = k → ((s.bump F.SKO_CNT_RX_PACKETS 1).txOf k).isSome = true →
      ((s.bump F.SKO_CNT_RX_PACKETS 1).bump F.SKO_CNT_REL_RESYNC 1).failConn k = x →
      exec (.resync a) s = .next (s.done (x.2.raise EV_SKO_RESYNC 0 [a.peer, x.1]).ncSettle)) ∧
    (∀ peer cls, cls < 8 → ∀ k, connKey peer cls = k →
      (∀ path c u, (s.bump F.SKO_CNT_RX_PACKETS 1).txOf k = some c → (s.bump F.SKO_CNT_RX_PACKETS 1).sko.recd.mode < 2 →
        (s.bump F.SKO_CNT_RX_PACKETS 1).bump F.SKO_CNT_CC_CNP_RX 1 = u →
        exec (.cnp peer cls path) s = .next (s.done (u.setConn k { c with
          rate := max u.rMin (c.rate - c.rate / 2 ^ u.get F.SKO_CC_MD_SHIFT), cnpSeen := true, lastAct := u.now
          penal := smPut (fun _ => 0) c.penal (path % 16) u.penalty }))) ∧
      (∀ c p r u, s.txOf k = some c → c.unacked = p :: r →
        (s.reach (c.rto + r.foldl (fun m x => min m x.sentAt) p.sentAt)).bump F.SKO_CNT_REL_TIMEOUTS 1 = u →
        (c.doublings < u.get F.SKO_CFG_RETRY_MAX → exec (.rtoTimeout peer cls) s = .next (s.done
          (((u.setConn k (c.onTimeout (r.foldl (fun m x => if psnBefore x.pkt.psn m then x.pkt.psn else m) p.pkt.psn) u.rMin
            u.penalty)).pump k).ncSettle))) ∧
        (u.get F.SKO_CFG_RETRY_MAX ≤ c.doublings → exec (.rtoTimeout peer cls) s = .next (s.done (u.peerLost k).ncSettle))) ∧
      (∀ c, s.rxOf k = some c → c.unackedApplied ≠ 0 → c.gapSince = none →
        exec (.ackTimer peer cls) s = .next (s.done
          (((s.reach (c.ackSince + 1000)).setRx k c).sendAck k 0 0 0))) ∧
      (∀ c u, s.rxOf k = some c → c.held.isEmpty = true → c.part.isEmpty = true → c.unackedApplied = 0 →
        s.reach (s.idleAt c.lastAct) = u →
        exec (.connIdle peer cls true) s = .next (s.done
          (State.countConns { u with sko := { u.sko with rx := u.sko.rx.filter fun e => e.1 != k } }))) ∧
      (∀ c u, s.txOf k = some c → c.unacked.isEmpty = true → c.waiting.isEmpty = true → (s.opsOn k).isEmpty = true →
        s.reach (s.idleAt c.lastAct) = u →
        exec (.connIdle peer cls false) s = .next (s.done
          (State.countConns { u with sko := { u.sko with tx := u.sko.tx.filter fun e => e.1 != k } }))) ∧
      (∀ path c t, s.txOf k = some c → smGet (fun _ => 0) c.penal path = t → t ≠ 0 →
        exec (.pathPenaltyExpiry peer cls path) s = .next (s.done
          ((s.reach t).setConn k { c with penal := smPut (fun _ => 0) c.penal path 0 }))) ∧
      (∀ c, s.txOf k = some c → s.beat.valid = true → c.incBeat ≠ s.beat.beat → c.cnpSeen = false →
        exec (.rateIncrease peer cls) s = .next (s.done ((s.setConn k { c with
          incBeat := s.beat.beat, rate := min s.portRate (c.rate + s.get F.SKO_CC_AI_MBPS) }).pump k))) ∧
      (∀ c, s.txOf k = some c → c.rnrHold = true →
        exec (.rnrWait peer cls) s = .next (s.done (((s.reach c.rnrUntil).setConn k { c with rnrHold := false }).pump k))) ∧
      (∀ c, s.txOf k = some c → c.waiting.isEmpty = false → c.rnrHold = false →
        exec (.ratePacedRelease peer cls) s = .next (s.done ((s.reach c.nextAt).pump k))))

/-- R429 to R440: a channel is enabled, each operation of a mover takes the descriptor at its head, a descriptor ends, pacing requests
and timers release bursts, a paced descriptor stalls, and the channel's commands do what MOV_CTRL says. -/
def Obligations.MoverCommandsComplete : Prop :=
  ∀ (s : State) (n : Nat), s.dead = false → n < 64 →
    (nodeChannel n = false → s.movState n = MV_DISABLED →
      s.descRingOk (s.get (F.MOV_CH_RING_ADDR n)) (s.get (F.MOV_CH_RING_SIZE_LOG2 n)) = true →
      exec (.movChEnable n) s = .next (s.done
        ((((s.openDescRing (movRing n) (s.get (F.MOV_CH_RING_ADDR n)) (s.get (F.MOV_CH_RING_SIZE_LOG2 n))).setBit
          (F.MOV_CH_CFG_EN n) true)).setMovState n MV_IDLE))) ∧
    (∀ row ∈ ([(.linear, 1), (.strided, 2), (.gather, 3), (.scatter, 4), (.fill, 5), (.flagOnly, 6)] : List ((Nat → Instr) × Nat)),
      ∀ x, s.movState n = MV_IDLE ∨ s.movState n = MV_WAITING → (s.movCh n).run = none → s.movHead n = some x → x.code = E_NONE →
        mdOp x.data = row.2 → exec (row.1 n) s = .next (s.done (x.st.movStart n x.data))) ∧
    (∀ r u v q, (s.movCh n).run = some r → s.movReads n r.reads = u →
      u.movWrites n (((u.movCh n).run.map MovRun.writes).getD []) = v → (v.movCh n).run = some q →
      q.pos = mdTotal q.desc → q.reads = [] → q.writes = [] →
      exec (.moverDescDone n) s = .next (s.done (v.movFinish n q))) ∧
    (∀ line, line < 225 → ∀ u, (if 80 ≤ line ∧ line < 208 then s.watchLine (line - 80) else s) = u →
      exec (.pacingRequest line) s = .next (s.done ((u.mov.chans.filter fun e => match e.2.run with
        | some r => mdPaced r.desc && mdPace r.desc == line
        | none => false).foldl (fun t e => t.movBurst e.1) u))) ∧
    (∀ t, t < 16 → s.get (F.MOV_TIMER_PERIOD_NS t) ≠ 0 → exec (.movTimerPeriod t) s = .next (s.done (s.request (64 + t) 1))) ∧
    (∀ r, (s.movCh n).run = some r → mdPaced r.desc = true → r.pend = 0 → r.pos < mdTotal r.desc → r.raised = false →
      exec (.movPaceStall n) s = .next (s.done
        (((s.reach (r.waitAt + beatsNs (s.get F.MOV_LIMITS_STALL_LIMIT))).setMovRun n (some { r with raised := true })).raise
          EV_MOV_PACE_STALL n []))) ∧
    (nodeChannel n = false → s.movState n = MV_IDLE ∨ s.movState n = MV_WAITING →
      exec (.movStop n) s = .next (s.done (s.setMovState n MV_STOPPED))) ∧
    (nodeChannel n = false → s.movState n = MV_RUNNING →
      exec (.movStop n) s = .next (s.done (s.setMovCh n { s.movCh n with stop := true }))) ∧
    (nodeChannel n = false → s.movState n = MV_STOPPED ∨ s.movState n = MV_HALTED →
      exec (.movResume n) s = .next (s.done (s.setMovState n MV_IDLE))) ∧
    (nodeChannel n = false → s.movState n = MV_HALTED →
      exec (.movSkip n) s = .next (s.done ((s.headAdvance (movRing n) (s.headOf (movRing n) + 64)).setMovState n MV_IDLE))) ∧
    (∀ r, nodeChannel n = false → (s.movCh n).run = some r → mdPaced r.desc = true →
      exec (.movKick n) s = .next (s.done ((s.setMovRun n (some { r with pend := min 65535 (r.pend + 1) })).bump
        (F.MOV_CH_CNT_REQ_LOST n) (r.pend + 1 - min 65535 (r.pend + 1)))))

/-- R441 to R450: a CRC unit is started, fed and checked; the parity engine takes a job of each operation, ends it, and is enabled,
resumed and skipped. -/
def Obligations.CheckAndParityCommandsComplete : Prop :=
  ∀ s : State, s.dead = false →
    (∀ u, u < 16 → s.chkHeld u = false →
      exec (.chkStart u) s = .next (s.done
        ((s.set (F.CHK_STATE_VALUE u) (s.chkCut u (s.get (F.CHK_INIT_VALUE u)))).set (F.CHK_BYTES_BYTES u) 0)) ∧
      (∀ v, exec (.chkFeed u v) s = .next (s.done (s.chkFeed u (leBytes 8 v)))) ∧
      (∀ v k, k % 8 ≠ 0 → exec (.chkFeedTail u v k) s = .next (s.done (s.chkFeed u (leBytes (k % 8) v))))) ∧
    (∀ u v, u < 16 → s.chkHeld u = true → exec (.chkFeed u v) s = .next (s.done (s.bump (F.CHK_CTRL_IGNORED u) 1))) ∧
    (∀ u, u < 16 →
      (s.chkMatch u = true → s.evt.quiet → exec (.chkCheck u) s = .next s) ∧
      (s.chkMatch u = false → exec (.chkCheck u) s = .next (s.done
        (((s.setBit (F.CHK_CTRL_MISMATCH u) true).bump (F.CHK_CTRL_MISMATCHES u) 1).raise EV_CHK_MISMATCH u
          [s.chkResult u, s.chkCut u (s.get (F.CHK_EXPECT_VALUE u))])))) ∧
    (∀ q, q < 2 → ∀ row ∈ ([(.encode, 1), (.recover, 2), (.delta, 3), (.verify, 4)] : List ((Nat → Instr) × Nat)),
      ∀ x, s.parTurn q = true → s.parHead q = some x → x.code = E_NONE → pjOp x.data = row.2 →
        exec (row.1 q) s = .next (s.done (x.st.parStart q x.data E_NONE))) ∧
    (∀ q r u, q < 2 → s.mov.job = some r → r.queue = q → { s with mov := { s.mov with job := none } } = u →
      (r.code ≠ E_NONE → exec (.parityJobDone q) s = .next (s.done (((u.parFail q r.code r.off).parLines q).ncStep))) ∧
      (∀ f, r.code = E_NONE → u.parFlag r.job = f → f.1 = E_NONE →
        exec (.parityJobDone q) s = .next (s.done (((f.2.parEnd q r.mismatch r.off).parLines q).ncStep)))) ∧
    (s.bit F.PAR_CFG_EN = false → s.descRingOk (s.get F.PAR_RING_ADDR) (s.get F.PAR_RING_SIZE_LOG2) = true →
      exec .parEnable s = .next (s.done
        ((((s.openDescRing parRing (s.get F.PAR_RING_ADDR) (s.get F.PAR_RING_SIZE_LOG2)).setBit F.PAR_CFG_EN true)).set
          F.PAR_STATUS_Q1 PQ_IDLE))) ∧
    (s.get F.PAR_STATUS_Q1 = PQ_HALTED →
      exec .parResume s = .next (s.done (s.set F.PAR_STATUS_Q1 PQ_IDLE)) ∧
      exec .parSkip s = .next (s.done ((s.parPop 1).set F.PAR_STATUS_Q1 PQ_IDLE)))

/-- R456 to R465: a claim is judged and read back, a quote and an AK certificate are begun and stored, a measurement is extended, the
floor is raised and a vendor slot revoked. -/
def Obligations.IdentityCommandsComplete : Prop :=
  ∀ s : State, s.dead = false →
    (∀ x k, s.secRuns = false → s.noIdentity = false → s.secAddrOk (s.get F.SEC_ARG_ADDR) 626 = true →
      s.load (s.get F.SEC_ARG_ADDR) 626 = x → x.st.sec.secret = some k → x.code = E_NONE →
      exec .claim s = .next (s.done
        (if !x.st.claimOk x.data ∨ !x.st.claimSigned x.data then x.st.secResult SR_DENIED
         else
           let seq := match x.st.sec.inForce with
             | some r => at_ r 8 4 + 1
             | none => 1
           let r := x.data.take 8 ++ leBytes 4 seq ++ (x.data.drop 12).take 436
           let r := r ++ ownerMac k r ++ (x.data.drop 480).take 32
           State.secResult { x.st with sec := { x.st.sec with
             claim := some ⟨r, x.st.sec.inForce.isSome && !x.st.sec.forceB⟩ } } SR_OK))) ∧
    (∀ c got u, s.sec.claim = some c →
      { s with sec := { s.sec with claim := none, copyA := if c.copyB then s.sec.copyA else got
                                   copyB := if c.copyB then got else s.sec.copyB } } = u →
      (got = c.rcd → exec (.claimReadback got) s = .next (s.done
        (((u.ownBy (some c.rcd) c.copyB).extendM1).raise EV_SEC_OWNER_CHANGED 0 []))) ∧
      (got ≠ c.rcd → exec (.claimReadback got) s = .next (s.done (u.secResult SR_DENIED)))) ∧
    (∀ k, s.secRuns = false → s.bit F.SEC_STATUS_QUOTE_BUSY = false → s.sec.secret = some k →
      (s.secAddrOk (s.get F.SEC_ARG_ADDR) 544 = true → touchesGraph (s.get F.SEC_ARG_ADDR) 544 = false →
        exec .quote s = .next (s.done ((State.setBit { s with sec := { s.sec with quote := some ⟨s.get F.SEC_ARG_ADDR,
          s.quoteBody (s.akOf k) ++ padTo 114 (Config.ed448Sign (s.akOf k) (ascii "Odlith OK9 quote") (s.quoteBody (s.akOf k))) ++
            zeros 14⟩ } } F.SEC_STATUS_QUOTE_BUSY true).secResult SR_OK))) ∧
      (∀ b, s.secAddrOk (s.get F.SEC_ARG_ADDR) 288 = true → touchesGraph (s.get F.SEC_ARG_ADDR) 288 = false →
        ([0x4F, 0x41, 0x4B, 0x43] : List Byte) ++ s.deviceId ++ s.ownDigest ++ Config.ed448Public (s.akOf k) ++
          Config.ed448Public (dikOf k) = b →
        exec .akCert s = .next (s.done ((State.setBit { s with sec := { s.sec with quote := some ⟨s.get F.SEC_ARG_ADDR,
          b ++ padTo 114 (Config.ed448Sign (dikOf k) (ascii "Odlith OK9 AK") b) ++ zeros 8⟩ } }
            F.SEC_STATUS_QUOTE_BUSY true).secResult SR_OK)))) ∧
    (∀ q x, s.sec.quote = some q → s.store q.addr q.bytes = x → x.1 = E_NONE →
      exec .quoteDone s = .next (s.done
        (State.setBit { x.2 with sec := { x.2.sec with quote := none } } F.SEC_STATUS_QUOTE_BUSY false))) ∧
    (∀ n, s.secRuns = false → 5 ≤ n → n ≤ 7 →
      exec (.extend n) s = .next (s.done ((s.extend n 5 [] (s.words4 F.SEC_EXTEND_BYTES)).secResult SR_OK))) ∧
    (∀ n, s.secRuns = false → n < 5 → exec (.extend n) s = .next (s.done (s.secResult SR_DENIED))) ∧
    (∀ i, s.secRuns = false → s.img.active = some i → s.sec.floor < min 64 i.svn →
      exec .raiseFloor s = .next (s.done
        (State.secResult { s with sec := { s.sec with raising := some (min 64 i.svn) } } SR_OK))) ∧
    (∀ f, s.sec.raising = some f →
      exec .floorRaised s = .next (s.done
        ((State.showFuses { s with sec := { s.sec with floor := f, raising := none } }).extendM0.raise EV_SEC_FLOOR_RAISED 0 []))) ∧
    (∀ k i j v, s.secRuns = false → k < 4 → s.img.active = some i → j ∈ i.vendor → j ≠ k → s.sec.slots[j]? = some v →
      v.revoked = false →
      exec (.revokeVkey k) s = .next (s.done
        (((State.showFuses { s with sec := { s.sec with slots := s.sec.slots.mapIdx fun i v =>
          if i = k then { v with revoked := true } else v } }).extendM0).secResult SR_OK)))

/-- R473 to R477, R493, R504 to R507: the node's reset, a scoped reset and its end, the reset by CONTROL, the RESET_N pin and the loss of
the clock. -/
def Obligations.ResetCommandsComplete : Prop :=
  ∀ s : State,
    (s.dead = false → exec .nodeReset s = .next (s.done s.nodeReset)) ∧
    (∀ scope inst, s.dead = false → 0 < scope → scope < 16 → inst < 1024 → s.scopeOk scope inst = true →
      s.ctl.reset = none → exec (.scopedReset scope inst) s = .next (s.done (s.beginReset scope inst none))) ∧
    (∀ r u, s.dead = false → s.ctl.reset = some r →
      State.raise (State.setBit { s with ctl := { s.ctl with reset := none } } F.NCTL_RESET_BUSY false) EV_RESET_DONE 0
        [r.scope, r.inst] = u →
      (r.req = none → exec .resetDone s = .next (s.done u)) ∧
      (∀ q, r.req = some q → exec .resetDone s = .next (s.done (u.answer U_NCTL q E_NONE)))) ∧
    (∀ ring m r u, s.dead = false → ring < 8192 → s.headReq ring U_NCTL T_CONTROL = some (m, r) → at_ r.payload 0 1 = 1 →
      r.payload.length = 32 → s.popMsg ring m = u → 0 < at_ r.payload 1 1 →
      u.scopeOk (at_ r.payload 1 1) (at_ r.payload 2 2) = true → u.ctl.reset = none →
      exec (.controlReset ring) s = .next (s.done (u.beginReset (at_ r.payload 1 1) (at_ r.payload 2 2) (some r)))) ∧
    (∀ ns, 10000 ≤ ns → exec (.resetInput ns) s = .next (s.done
      (s.nodeReset.setBoot { s.nodeReset.ctl.boot with low := true }))) ∧
    (∀ ns, ns < 1000 → s.evt.quiet → exec (.resetInput ns) s = .next s) ∧
    (∀ straps, s.ctl.boot.low = true → exec (.resetRelease straps) s = .next (s.done
      ((s.setBoot { s.ctl.boot with low := false, t0 := s.now }).set F.NCTL_BOOT_STRAP straps))) ∧
    (s.ctl.boot.low = false → exec .clockLoss s = .next (s.done (s.setBoot { s.ctl.boot with stopped := true })))

/-- R478 to R493: the periodic cut and the end of a sealing, the CONTROL requests of a recovery, of RELEASE and of RESEAL, a stripe that
is rebuilt, and a group that is enabled. -/
def Obligations.SealAndRecoveryCommandsComplete : Prop :=
  ∀ s : State, s.dead = false →
    (s.beat.valid = true → 0 < s.get F.NCTL_SEAL_CFG_PERIOD → s.beatNow % s.get F.NCTL_SEAL_CFG_PERIOD = 0 →
      exec .periodicSeal s = .next (s.done s.sealCut)) ∧
    (∀ t g l, s.sealStep = t → t.sealState = SL_WRITING → t.epochs.fail = 0 → t.epochs.answered = true → t.epochs.group = some g →
      (List.range t.epochs.count).map t.epochs.written = l →
      exec .sealEnd s = .next (s.done
        (if l.all fun k => k == g.n + 2 then t.sealedOk
         else if l.all fun k => decide (g.n + 1 ≤ k) then t.sealDegraded (l.filter fun k => k != g.n + 2).length
         else t.sealFailed 2))) ∧
    (∀ ring m r u, ring < 8192 → s.headReq ring U_NCTL T_CONTROL = some (m, r) → r.payload.length = 32 → s.popMsg ring m = u →
      (∀ g k v, at_ r.payload 0 1 = 2 → u.rebuildCode r.payload = E_NONE → u.epochs.group = some g →
        (recSlots.find? fun k => !u.recLive k) = some k →
        (((((u.closeRecords (at_ r.payload 4 1) (at_ r.payload 8 4) (at_ r.payload 12 4)).setRecState k RS_RUNNING 0).set
          (F.NCTL_REC_STATE_SRC_POS k) (at_ r.payload 4 1)).set (F.NCTL_REC_CUR_CURSOR k) (at_ r.payload 8 4)).set
          (F.NCTL_REC_CUR_LAST k) (at_ r.payload 12 4)).set (F.NCTL_REC_STATE_LOST k) (addPos (at_ r.payload 16 4) g.pos) = v →
        exec (.controlRebuild ring) s = .next (s.done ((v.setRec k { req := some r, first := at_ r.payload 8 4
                                                                     mask := at_ r.payload 16 4, buf := at_ r.payload 20 6
                                                                     seq := v.seqAfter }).recStep k))) ∧
      (∀ g k v, at_ r.payload 0 1 = 3 → at_ r.payload 2 2 = k → k ≤ 7 → u.epochs.group = some g → u.recState k = RS_HELD →
        (u.setRecState k RS_RUNNING 0).set (F.NCTL_REC_STATE_LOST k) (addPos (u.recSlot k).mask g.pos) = v →
        exec (.controlResume ring) s = .next (s.done
          (((v.setRec k { u.recSlot k with stage := 0, got := [], ask := none, seq := v.seqAfter }).answer U_NCTL r E_NONE).recStep k))) ∧
      (∀ k, at_ r.payload 0 1 = 4 → at_ r.payload 2 2 = k → k ≤ 7 → u.recLive k = true →
        exec (.controlAbandon ring) s = .next (s.done
          (((u.writeCursor k false).2.recEnd k RS_ABANDONED 0).answer U_NCTL r E_NONE))) ∧
      (∀ v, at_ r.payload 0 1 = 5 → u.epochs.released = none →
        { u with epochs := { u.epochs with released := some (at_ r.payload 8 4)
                                           log := u.epochs.log.filter fun x => decide (at_ r.payload 8 4 < x.epoch) } } = v →
        exec (.controlRelease ring) s = .next (s.done
          ((if v.sealState = SL_HELD ∧ v.get F.NCTL_UEPOCH_HELD ≤ at_ r.payload 8 4 then v.freeHalf else v).writeLog.answer
            U_NCTL r E_NONE))) ∧
      (at_ r.payload 0 1 = 6 → u.epochs.group.isNone = false → u.sealState = SL_HELD →
        u.get F.NCTL_UEPOCH_HELD = at_ r.payload 8 4 →
        exec (.controlReseal ring) s = .next (s.done (State.beginSeal { u with epochs := { u.epochs with reseal := some r } })))) ∧
    (∀ k x a b c t, k < 8 → s.recState k = RS_RUNNING → s.recSlot k = x → x.stage = 3 → x.ask = some (a, b) →
      s.askCode a = some (c, t) → exec (.rebuildStripe k) s = .next (s.done (t.recWrote k c))) ∧
    (∀ x g u, s.bit F.NCTL_GROUP_EN = false → s.load (s.get F.NCTL_GROUP_ADDR) 128 = x → x.code = E_NONE →
      s.get F.NCTL_GROUP_ADDR % 128 = 0 → groupOf x.data = g →
      (x.st.groupReason g = 0 →
        ((x.st.setBit F.NCTL_GROUP_EN true).set F.NCTL_GROUP_STATUS_STATE 1).set F.NCTL_GROUP_STATUS_REASON 0 = u →
        u.epochs.lastGid = some g.gid →
        exec .groupEnable s = .next (s.done
          { u with epochs := { u.epochs with group := some g, lastGid := some g.gid } })) ∧
      (∀ why, x.st.groupReason g = why → why ≠ 0 →
        exec .groupEnable s = .next (s.done
          (((x.st.set F.NCTL_GROUP_STATUS_STATE 2).set F.NCTL_GROUP_STATUS_REASON why).raise EV_GROUP_REJECTED 0 []))))

/-- R270, R343, R494 to R499: a rehearsal and a shim window end, a channel is retrained, an inlay is trimmed and a read class calibrated,
and a delayed request and a payload at its deadline go on. -/
def Obligations.WindowCommandsComplete : Prop :=
  ∀ s : State, s.dead = false →
    (∀ n c u, n < 16 → s.script n = some c → ((s.reach c.until_).setScript n none).raise EV_REHEARSAL_END 0 [c.made] = u →
      (u.get (F.EVT_RH_CFG_KIND n) ≠ 4 → exec (.rehearsalEnd n) s = .next (s.done u)) ∧
      (u.get (F.EVT_RH_CFG_KIND n) = 4 → exec (.rehearsalEnd n) s = .next (s.done (u.endSilent n)))) ∧
    (∀ w, s.ctl.shim = some w → beatAfter w.until_ s.beatNow = false →
      exec .shimClose s = .next (s.done
        ((List.range s.nStacks).foldl State.trimSkip { s with ctl := { s.ctl with shim := none } }))) ∧
    (∀ k x u, k < 12 → k < s.nStacks → (s.stkSt k).retrain = some x →
      (s.setStk k { s.stkSt k with retrain := none }).setBit (F.STK_STATUS_RETRAINING k) false = u →
      exec (.channelRetrainDone k true) s = .next (s.done u) ∧
      exec (.channelRetrainDone k false) s = .next (s.done (u.raise EV_STACK_TRAIN_FAIL k []))) ∧
    (∀ k u v, k < 12 → k < s.nStacks → (s.stkSt k).trimming = some u → s.unitState k u = US_TRIM →
      (s.setStk k { s.stkSt k with trimming := none }).resumeUnit k u = v →
      (v.windowFor 1 = true → exec (.inlayTrimDone k true) s = .next (s.done (v.trimNext k))) ∧
      (v.windowFor 1 = false → exec (.inlayTrimDone k true) s = .next (s.done v)) ∧
      ((v.raise EV_INLAY_TRIM_FAIL (k * 256 + u) []).windowFor 1 = false →
        exec (.inlayTrimDone k false) s = .next (s.done (v.raise EV_INLAY_TRIM_FAIL (k * 256 + u) [])))) ∧
    (∀ c cls offsets x, c < 8 → cls < 2048 → s.serving c = true → smGet (fun _ => {}) (s.car c).classes cls = x → x.mark = true →
      s.shimFor 2 = true →
      exec (.classCalibrationDone c cls offsets true) s = .next (s.done ((s.setCar c { s.car c with
        classes := smPut (fun _ => {}) (s.car c).classes cls { x with
          offsets := (List.range 7).map fun i => offsets.getD i 0 % 256, mark := false } }).bump (F.FL_CAR_CNT_EXC_CAL_RUNS c) 1)) ∧
      exec (.classCalibrationDone c cls offsets false) s = .next (s.done (((s.setCar c { s.car c with
        classes := smPut (fun _ => {}) (s.car c).classes cls { x with mark := false } }).bump (F.FL_CAR_CNT_EXC_CAL_RUNS c) 1).raise
          EV_FL_CAL_FAIL c []))) ∧
    (∀ src i h u, (s.sko.delayed.find? fun h => h.src == src && at_ h.msg 8 8 == i) = some h → s.reach h.until_ = u →
      u.landRoom h.cls h.gten h.msg.length h.msg = true →
      exec (.rehearsalDelayLand src i) s = .next (s.done
        (State.landReq { u with sko := { u.sko with delayed := u.sko.delayed.erase h } } { h with until_ := 0 }))) ∧
    (∀ src i j q u, s.payJob src i = some j → s.finalBeat j.r.deadline = true → j.ask = some q → s.dropAsk q = u →
      exec (.payloadDeadline src i) s = .next (s.done (((u.dropJob j).sendJob
        { (List.range (j.entries.length - j.pays.length)).foldl (fun j _ => j.missing) j with
          flags := addFlag j.flags SF_DEADLINE_PARTIAL }).payWake j.area)))

/-- R511 to R515: the phases of startup end, carrier boot looks at its carrier or gives it up, and the active image is saved to a
carrier's boot slot. -/
def Obligations.StartupCommandsComplete : Prop :=
  ∀ s : State, s.dead = false →
    (∀ keys, s.phaseNow = BP_ROM → s.sec.slots = [] →
      exec (.romPhaseDone keys) s = .next (s.done
        ((State.showFuses { s with sec := { s.sec with
          slots := (keys.take 4).map fun k => { key := k.1, mask := k.2 % 4 } } }).extendM0.setPhase BP_IDENTITY))) ∧
    (∀ helper a b rail boot u, s.phaseNow = BP_IDENTITY → s.ctl.boot.idDone = false → (s.identify helper a b).extendM1 = u →
      exec (.identityPhaseDone helper a b rail boot) s = .next (s.done
        (u.setBoot { u.ctl.boot with idDone := true, rails := railsOf rail, record := if bootRecordOk boot then boot else [] }).bootNext)) ∧
    (∀ u, s.phaseNow = BP_IDENTITY ∨ s.phaseNow = BP_MEMORY → s.ctl.boot.memDone = false →
      (List.range s.nStacks).foldl State.stackTrained { s with mem := [], ecc := [] } = u →
      exec .memoryPhaseDone s = .next (s.done (u.setBoot { u.ctl.boot with memDone := true }).bootNext)) ∧
    (∀ c, s.phaseNow = BP_CARRIERS → s.ctl.boot.tried = c →
      (s.carState c = CS_ONLINE ∨ s.carState c = CS_READ_ONLY → exec .bootSlotReadDone s = .next (s.done (s.bootTry c))) ∧
      (s.carState c ≠ CS_ONLINE → s.carState c ≠ CS_READ_ONLY → s.bootable c = false →
        exec .bootSlotReadDone s = .next (s.done (s.bootFrom (c + 1)))) ∧
      (s.carState c = CS_MOUNTING → exec .bootMountBound s = .next (s.done (s.bootFrom (c + 1))))) ∧
    (∀ c i, s.get F.NCTL_BOOT_CTL_CARRIER = c → s.ctl.boot.save = none → s.img.active = some i → s.carState c = CS_ONLINE →
      i.len ≤ 2 ^ 32 → ∀ u, (s.flWrite c bootSlot 1 (zeros 4096)).saveResult 0 = u →
      exec .bootSave s = .next (s.done ((u.setBoot { u.ctl.boot with save := some c }).setBit F.NCTL_BOOT_CTL_SAVE_BUSY true))) ∧
    (∀ c u i, s.ctl.boot.save = some c →
      (s.setBoot { s.ctl.boot with save := none }).setBit F.NCTL_BOOT_CTL_SAVE_BUSY false = u → u.img.active = some i →
      (u.carState c = CS_ONLINE → exec (.bootSaveDone true) s = .next (s.done (u.saveImage c i))) ∧
      exec (.bootSaveDone false) s = .next (s.done (u.saveResult 3)))

/-- R351, R510, R516 to R518: the regulators are polled, the power is evaluated and moves the throttle level, the alert of the sensors is
taken and released, and a carrier's alert ends. -/
def Obligations.PowerCommandsComplete : Prop :=
  ∀ s : State, s.dead = false →
    (∀ readings rd, ((List.range s.ctl.boot.rails.length).map fun i => readings.getD i none) = rd →
      exec (.pmbusPoll readings) s = .next (s.done ((List.range 14).foldl (fun (t : State) r => t.pollRail rd r)
        (rd.zipIdx.foldl (fun (t : State) e => t.pollEntry e.2 e.1.isSome) s))) ∧
      exec (.pmbusAlert readings) s = exec (.pmbusPoll readings) s) ∧
    (∀ watts dies stks t u hot, s.sensors dies stks = t → (s.set F.NCTL_PWR_CAP_PKG_W (min watts 65535)).showTemps t.1 t.2 = u →
      (t.1.any (fun x => decide (u.get F.NCTL_THERM_CFG_THROT_T ≤ x)) ||
        t.2.any (fun x => decide (u.get F.NCTL_THERM_CFG_STK_THROT_T ≤ x))) = hot →
      u.bit F.NCTL_THERM_ALERT = false →
      ((decide (u.get F.NCTL_PWR_CAP_CAP_W < watts) || hot) = true →
        exec (.powerEvaluation watts dies stks) s = .next (s.done ((u.setBoot { u.ctl.boot with calm := 0 }).raiseLevel
          (min 7 (u.get F.NCTL_THROTTLE_LEVEL + 1))
          (decide (u.get F.NCTL_PWR_CAP_CAP_W < watts)) hot))) ∧
      (hot = false → watts ≤ u.get F.NCTL_PWR_CAP_CAP_W →
        watts * 256 < u.get F.NCTL_PWR_CAP_CAP_W * (256 - u.get F.NCTL_PWR_CAP_HYST) →
        t.1.all (fun x => decide (x + 5 ≤ u.get F.NCTL_THERM_CFG_THROT_T)) = true →
        t.2.all (fun x => decide (x + 5 ≤ u.get F.NCTL_THERM_CFG_STK_THROT_T)) = true →
        ∀ v, u.setBoot { u.ctl.boot with calm := min 8 (u.ctl.boot.calm + 1) } = v →
        exec (.powerEvaluation watts dies stks) s = .next (s.done
          (if 8 ≤ v.ctl.boot.calm ∧ 0 < v.get F.NCTL_THROTTLE_LEVEL then v.lowerLevel else v)))) ∧
    (∀ dies stks t u, s.sensors dies stks = t → s.showTemps t.1 t.2 = u →
      (t.1.any (fun x => decide (s.get F.NCTL_THERM_CFG_ALERT_T ≤ x)) ||
        t.2.any fun x => decide (s.get F.NCTL_THERM_CFG_STK_ALERT_T ≤ x)) = true → u.bit F.NCTL_THERM_ALERT = false →
      exec (.thermalAlert dies stks) s = .next (s.done
        (((u.setBit F.NCTL_THERM_ALERT true).raiseLevel 7 false true).raise EV_THERM_ALERT 0 []))) ∧
    (∀ dies stks t u, s.sensors dies stks = t → s.showTemps t.1 t.2 = u →
      (t.1.all (fun x => decide (x + 5 ≤ s.get F.NCTL_THERM_CFG_ALERT_T)) &&
        t.2.all fun x => decide (x + 5 ≤ s.get F.NCTL_THERM_CFG_STK_ALERT_T)) = true →
      exec (.thermalAlertRelease dies stks) s = .next (s.done (u.setBit F.NCTL_THERM_ALERT false))) ∧
    (∀ c, c < 8 → exec (.carrierAlertRelease c) s = .next (s.done ((s.setCar c { s.car c with alert := false }).carCool c)))

/-- A step with a command at the front of the queue runs that command with the rest of the queue. -/
def Obligations.StepRunsTheFrontCommand : Prop :=
  ∀ (c : Instr) (r : List Instr) (s : State), step { s with pending := c :: r } = exec c { s with pending := r }

/-- A step with no command waiting lets one nanosecond pass and does nothing else (the model's choice, log entry 2). -/
def Obligations.IdleStepLetsOneNanosecondPass : Prop :=
  ∀ s : State, s.pending = [] → step s = .next (s.reach (s.now + 1)) ∧ (s.reach (s.now + 1)).now = s.now + 1 ∧
    s.sameBut [.now, .beat] (s.reach (s.now + 1))

/-- A well-formed command ends in a next state, in every state; one that is not and comes from no pin stops at once in a node that runs. -/
def Obligations.WellFormedCommandsAlwaysComplete : Prop :=
  ∀ (c : Instr) (s : State), (c.wf = true → ∃ t, exec c s = .next t) ∧
    (c.wf = false → ofPins c = false → s.dead = false → exec c s = .fault .noSuchUnit)

/-- No command puts another in front of those that wait or drops one: what waits is what waited. -/
def Obligations.CommandsKeepTheQueue : Prop :=
  ∀ (c : Instr) (s t : State), exec c s = .next t → t.pending = s.pending

/-- Commands are taken first in, first out: after n steps that went on, what waits is what stood behind the first n commands. -/
def Obligations.StepsTakeTheQueueInOrder : Prop :=
  ∀ (n : Nat) (s t : State), steps n s = some t → t.pending = s.pending.drop n

/-- A queue of well-formed commands runs to its end: no step of it stops. -/
def Obligations.WellFormedQueuesRunToTheirEnd : Prop :=
  ∀ s : State, s.wellFormed = true → ∀ n, ∃ t, steps n s = some t ∧ t.wellFormed = true

/-- R467 to R471: the events that a command raises are reported when it ends; none is left for a later command to report. -/
def Obligations.EventsAreReportedWithTheirCommand : Prop :=
  ∀ s t : State, s.evt.quiet = true → step s = .next t → t.evt.quiet = true

/-- The state after reset: no command waits, no event is unreported, the node runs, memory and every store of units are empty, every
register holds its reset value and the beat is UNSYNC. -/
def Obligations.ResetStateIsQuietAndEmpty : Prop :=
  State.reset.evt.quiet = true ∧ State.reset.pending = [] ∧ State.reset.dead = false ∧ State.reset.mem = [] ∧
    Memory.wf State.reset.mem ∧ State.reset.rings = [] ∧ State.reset.tiles = [] ∧ State.reset.beat.state = .unsync ∧
    State.reset.beat.valid = false ∧ (∀ o, State.reset.reg o = regReset o) ∧ (∀ n, n < 256 → State.reset.entState n = 0)

/-- R473, R504, R506: while RESET_N or PWR_OK is low, or the clocks have stopped, no command but those of the pins and sockets changes
the node, and time passes without the beat. -/
def Obligations.HeldNodeTakesOnlyPinCommands : Prop :=
  ∀ (c : Instr) (s : State), s.dead = true →
    (ofPins c = false → exec c s = .next s) ∧ (s.reach (s.now + 1)).beat = s.beat

/-- R54, R475: a node reset empties memory, the rings, the tiles and the table of armed events, returns the beat to UNSYNC and every
register to its reset value but for the variant, the power cap of the variant and the straps, and keeps time and the fuses. -/
def Obligations.NodeResetReturnsTheNodeToReset : Prop :=
  ∀ s : State, s.dead = false → ∃ t, exec .nodeReset s = .next t ∧ t.mem = [] ∧ t.rings = [] ∧ t.tiles = [] ∧ t.img = State.reset.img ∧
    t.inl = State.reset.inl ∧ t.tier = State.reset.tier ∧ t.beat = State.reset.beat ∧ t.sko = State.reset.sko ∧ t.ts = State.reset.ts ∧
    t.mov = State.reset.mov ∧ t.now = s.now ∧ t.sec.slots = s.sec.slots ∧ (s.sec.raising = none → t.sec.floor = s.sec.floor) ∧
    (∀ n, n < 256 → t.entState n = 0) ∧ t.reg Reg.NCTL_ID = s.reg Reg.NCTL_ID ∧
    (∀ o, o ≠ Reg.NCTL_ID → o ≠ Reg.NCTL_PWR_CAP → o ≠ Reg.NCTL_BOOT → t.reg o = regReset o)

/-- R31: a tail write that is no multiple of 64, does not move forward, or passes the head by more than the ring's size is discarded: the
ring keeps its tail and its messages, memory stays as it was, and the event names the ring, its tail and the value. -/
def Obligations.InvalidTailWritesAreDiscarded : Prop :=
  ∀ (s : State) (r v : Nat), s.dead = false → r < 8192 → 0 < (s.ring r).size → v < 2 ^ 64 → v ≠ s.tailOf r →
    v % 64 ≠ 0 ∨ v < s.tailOf r ∨ s.headOf r + (s.ring r).size < v →
    ∃ t, exec (.tailWrite r v) s = .next t ∧ t = s.done (s.raise EV_RING_TAIL_INVALID 0 [(s.ring r).base, s.tailOf r, v]) ∧
      t.rings = s.rings ∧ t.mem = s.mem ∧ t.tailOf r = s.tailOf r

/-- R48: the table has 256 entries of four registers at 0xF000_0100_1000 + n × 0x20, and a write to the beat, the action or the argument
of an ARMED one is ignored. -/
def Obligations.ArmedEntriesKeepTheirFields : Prop :=
  ∀ n, n < 256 → (Reg.BEAT_EVT_BEAT n = 0xF00001001000 + n * 0x20 ∧ Reg.BEAT_EVT_ACT n = 0xF00001001008 + n * 0x20 ∧
      Reg.BEAT_EVT_ARG n = 0xF00001001010 + n * 0x20 ∧ Reg.BEAT_EVT_CTL n = 0xF00001001018 + n * 0x20) ∧
    (∀ i, i < 4 → (findReg (0xF00001001000 + n * 0x20 + 8 * i)).isSome = true) ∧
    ∀ (s : State) (o v : Nat), s.dead = false → s.evt.quiet = true → s.entState n = 1 →
      o ∈ [Reg.BEAT_EVT_BEAT n, Reg.BEAT_EVT_ACT n, Reg.BEAT_EVT_ARG n] → exec (.registerWrite o v) s = .next s

/-- R53: a BEAT_EVT_CTL write with both ARM and DISARM does nothing; one with DISARM disarms an entry that is still ARMED and does
nothing to one that has fired. -/
def Obligations.DisarmComesBeforeTheDispatchOrDoesNothing : Prop :=
  ∀ (s : State) (n v : Nat), s.dead = false → s.evt.quiet = true → smWf regReset s.regs = true → n < 256 →
    ∃ t, exec (.registerWrite (Reg.BEAT_EVT_CTL n) v) s = .next t ∧
      (v % 4 = 3 → s.changesOnlyRegs t []) ∧
      (v % 4 = 2 → s.entState n = 1 → t.entState n = 3 ∧ t.beat.due = s.beat.due.filter (·.1 != n)) ∧
      (v % 4 = 2 → s.entState n ≠ 1 → s.changesOnlyRegs t [])

/-- R251: a WLK_CFG write with PREFETCH_CAP above 8, or with INSERT_SLOTS of 0 or above 12, leaves the register unchanged; EN = 1 written
to a slot that is ON is ignored. -/
def Obligations.WalkerSettingsKeepTheirLimits : Prop :=
  ∀ (s : State) (v : Nat), s.dead = false → s.evt.quiet = true →
    (8 < fv (v % 2 ^ 64) F.WLK_CFG_PREFETCH_CAP ∨ fv (v % 2 ^ 64) F.WLK_CFG_INSERT_SLOTS = 0 ∨
        12 < fv (v % 2 ^ 64) F.WLK_CFG_INSERT_SLOTS →
      exec (.registerWrite Reg.WLK_CFG v) s = .next s) ∧
    (∀ n, n < 64 → smWf regReset s.regs = true → s.get (F.WLK_IDX_CTL_STATE n) = 1 → v % 2 = 1 →
      ∃ t, exec (.registerWrite (Reg.WLK_IDX_CTL n) v) s = .next t ∧ s.changesOnlyRegs t [])

/-- R465: a SEC_CTRL write with more than one command bit, and any command while a CLAIM, RAISE_FLOOR or REVOKE_VKEY runs, does nothing
but set LAST_RESULT to BUSY. -/
def Obligations.OneIdentityCommandAtATime : Prop :=
  ∀ s : State, s.dead = false → s.evt.quiet = true → smWf regReset s.regs = true →
    (∀ v, 1 < bitCount (v % 2 ^ 64) [0, 1, 2, 3, 4, 5] →
      ∃ t, exec (.registerWrite Reg.SEC_CTRL v) s = .next t ∧ s.changesOnlyRegs t [Reg.SEC_STATUS] ∧
        t.get F.SEC_STATUS_LAST_RESULT = SR_BUSY) ∧
    (s.secRuns = true → ∀ c, c ∈ ([.claim, .quote, .akCert, .raiseFloor] : List Instr) ∨ (∃ a, a < 8 ∧ (c = .extend a ∨ c = .revokeVkey a)) →
      ∃ t, exec c s = .next t ∧ s.changesOnlyRegs t [Reg.SEC_STATUS] ∧ t.get F.SEC_STATUS_LAST_RESULT = SR_BUSY)

/-- R426: SNAP copies every tenant counter and every COUNT and SUM_NS field at one instant, and while VIEW is 1 they read as copied,
whatever they count by then. -/
def Obligations.SnapIsReadBackWhileViewIsSet : Prop :=
  ∀ s : State, s.dead = false → s.evt.quiet = true → smWf regReset s.regs = true →
    ∃ t, exec .telSnap s = .next t ∧ s.sameBut [.tel] t ∧
      ∀ (u : State) (o : Nat), u.tel = t.tel → snapped o = true →
        (u.bit F.TEL_CTRL_VIEW = false → u.peekTel o = none) ∧
        (u.bit F.TEL_CTRL_VIEW = true → (o < Reg.TEL_SHARD_KEY 0 ∨ (o - Reg.TEL_SHARD_KEY 0) % 0x20 ≠ 8) →
          u.peekTel o = some (s.reg o).toNat) ∧
        (u.bit F.TEL_CTRL_VIEW = true → Reg.TEL_SHARD_KEY 0 ≤ o → (o - Reg.TEL_SHARD_KEY 0) % 0x20 = 8 →
          u.peekTel o = some (setBitsAt (u.reg o).toNat 0 32 (s.reg o).toNat))

/-- R445: a unit set up with the parameters of a row and fed the nine bytes "123456789" after START reads back the row's value. The rows
are WIDTH, POLY, INIT, reflection, XOROUT and the value. -/
def Obligations.CheckUnitsGiveTheCheckValues : Prop :=
  ∀ row ∈ ([(8, 0x07, 0, 0, 0, 0xF4), (16, 0x8005, 0, 1, 0, 0xBB3D), (16, 0x1021, 0xFFFF, 0, 0, 0x29B1), (16, 0x1021, 0, 0, 0, 0x31C3),
      (16, 0x1021, 0, 1, 0, 0x2189), (24, 0x864CFB, 0xB704CE, 0, 0, 0x21CF02),
      (32, 0x04C11DB7, 0xFFFFFFFF, 1, 0xFFFFFFFF, 0xCBF43926), (32, 0x1EDC6F41, 0xFFFFFFFF, 1, 0xFFFFFFFF, 0xE3069283),
      (32, 0x04C11DB7, 0xFFFFFFFF, 0, 0, 0x0376E6E7), (64, 0x42F0E1EBA9EA3693, 0, 0, 0, 0x6C40DF5F0B497347),
      (64, 0x42F0E1EBA9EA3693, 0xFFFFFFFFFFFFFFFF, 1, 0xFFFFFFFFFFFFFFFF, 0x995DC9BBDF1939FA)] : List (Nat × Nat × Nat × Nat × Nat × Nat)),
  ∀ (s : State) (u : Nat), s.dead = false → s.evt.quiet = true → smWf regReset s.regs = true → u < 16 →
    s.get (F.CHK_CTRL_HELD u) = 0 → s.get (F.CHK_CFG_WIDTH u) = row.1 → s.get (F.CHK_POLY_VALUE u) = row.2.1 →
    s.get (F.CHK_INIT_VALUE u) = row.2.2.1 → s.get (F.CHK_CFG_REFIN u) = row.2.2.2.1 → s.get (F.CHK_CFG_REFOUT u) = row.2.2.2.1 →
    s.get (F.CHK_XOROUT_VALUE u) = row.2.2.2.2.1 →
    ∃ a b c, exec (.chkStart u) s = .next a ∧ exec (.chkFeed u 0x3837363534333231) a = .next b ∧
      exec (.chkFeedTail u 0x39 1) b = .next c ∧ c.chkResult u = row.2.2.2.2.2

/-- R528: every register of a tile is reached at its alias too, with the same effect, and nothing but tile registers lies there. -/
def Obligations.TileRegistersHaveAnAlias : Prop :=
  (∀ o d, 0xF000A0000000 ≤ o → o < 0xF000A0000000 + 672 * 0x100000 → findReg o = some d → d ∈ regsTILE) ∧
  ∀ (s : State) (t x v : Nat), t < 672 → x < 0x100000 → findReg (0xF00010000000 + t * 0x100000 + x) = none →
    inControlRange (0xF000A0000000 + t * 0x100000 + x) = true →
    exec (.registerWrite (0xF00010000000 + t * 0x100000 + x) v) s = exec (.registerWrite (0xF000A0000000 + t * 0x100000 + x) v) s ∧
    s.ctlRead (0xF00010000000 + t * 0x100000 + x) = s.ctlRead (0xF000A0000000 + t * 0x100000 + x)

/-- R2, R3, R16, R526: a place in a listed range that names no register reads 0 and ignores writes, and so do the registers of what the
part has not; an offset that is not aligned or is outside every listed range changes nothing. -/
def Obligations.PlacesWithoutARegisterReadZero : Prop :=
  ∀ (s : State) (o v : Nat), s.dead = false → s.evt.quiet = true →
    (findReg (canonOff o) = none ∨ s.absentReg (canonOff o) = true → s.ctlPeek o = 0 ∧ exec (.registerWrite o v) s = .next s) ∧
    (o % 8 ≠ 0 ∨ inControlRange o = false → exec (.registerWrite o v) s = .next s)

/-- R38 to R53, R143, R196, R383, R387, R403, R411, R435, R494: the commands of the beat unit change the beat alone; those that a time
starts change the time that has passed and the beat; all of them leave memory, the rings and every other unit as they were. -/
def Obligations.ClockCommandsChangeOnlyTheBeat : Prop :=
  (∀ c ∈ ([.disarmAll, .rejectStep, .acceptStep, .ppsEdge] : List Instr), changesOnly [.beat] c) ∧
  (∀ n, changesOnly [.beat] (.disarm n) ∧ changesOnly [.beat] (.ptpMeasurement n)) ∧
  changesOnly [.beat, .port] .ptpParentLost ∧
  (∀ c ∈ ([.holdoverEntry, .holdoverDegrade, .gateEntryBoundary, .expressShaperReady] : List Instr), changesOnly [.now, .beat] c) ∧
  (∀ a b, changesOnly [.now, .beat] (.ratePacedRelease a b) ∧ changesOnly [.now, .beat] (.rnrWait a b) ∧
    changesOnly [.now, .beat] (.cancelHoldExpiry a b) ∧ changesOnly [.now, .beat, .freeCtr] (.ackTimer a b)) ∧
  (∀ a b c, changesOnly [.now, .beat] (.pathPenaltyExpiry a b c)) ∧ (∀ a b c, changesOnly [.now, .beat] (.connIdle a b c)) ∧
  (∀ n, changesOnly [.now, .beat] (.migrateStall n) ∧ changesOnly [.now, .beat, .rings] (.tileCreditStall n) ∧
    changesOnly [.now, .beat, .ctl] (.rehearsalEnd n) ∧ changesOnly [.now, .beat, .mov] (.movPaceStall n))

/-- R330 to R350, R359 to R367, R394, R426: the commands of the port, of the ends of connections and of the carriers change their own
unit alone. -/
def Obligations.PortAndCarrierCommandsChangeOnlyTheirUnit : Prop :=
  (∀ c ∈ ([.portEnable, .portDisable] : List Instr), changesOnly [.port] c) ∧
  (∀ a b c, changesOnly [.port] (.linkStateChange a b c)) ∧ (∀ q, changesOnly [.port] (.pfcReceived q)) ∧
  (∀ a b, changesOnly [.port] (.fecWindow a b)) ∧ changesOnly [.now, .beat, .port] .txSlot ∧
  (∀ a, changesOnly [.now, .beat, .port] (.pfcPauseExpiry a)) ∧ (∀ a b, changesOnly [.now, .beat, .port] (.pfcRefresh a b)) ∧
  changesOnly [] .writeFlagRelease ∧ (∀ a b, changesOnly [] (.rateIncrease a b)) ∧ (∀ a b c, changesOnly [] (.cnp a b c)) ∧
  changesOnly [.tel] .telSnap ∧
  (∀ k, changesOnly [.fl] (.format k) ∧ changesOnly [.fl] (.adopt k) ∧ changesOnly [.fl] (.detach k) ∧ changesOnly [.fl] (.detachDone k) ∧
    changesOnly [] (.attach k) ∧ changesOnly [.fl] (.healthMirror k) ∧ changesOnly [.fl] (.carrierAlert k)) ∧
  (∀ k r, changesOnly [.fl] (.sanitiseDone k r)) ∧ (∀ k a b c, changesOnly [.fl] (.classCalibrationDone k a b c)) ∧
  (∀ k a b c d e, changesOnly [.fl] (.carrierInsert k a b c d e))

/-- R147, R155 to R171, R178, R197, R199, R228, R275, R319: the commands of tiles, inlay units, stacks, index slots, tables and grammars
that hold no data of memory change their own unit alone. -/
def Obligations.UnitCommandsChangeOnlyTheirUnit : Prop :=
  (∀ n, changesOnly [] (.tileHalt n) ∧ changesOnly [.tiles] (.tileResume n) ∧ changesOnly [.ls] (.lsIndexDisable n) ∧
    changesOnly [.gw] (.gwIndexDisable n) ∧ changesOnly [.tbl] (.tableDisable n) ∧ changesOnly [.txt] (.grammarDisable n) ∧
    changesOnly [.tier] (.migFree n) ∧ changesOnly [.tier, .fl] (.migAbort n)) ∧
  (∀ k u, changesOnly [.inl] (.fence k u) ∧ changesOnly [.inl] (.inlayParityError k u) ∧ changesOnly [.inl] (.inlayOnline k u) ∧
    changesOnly [.now, .beat, .inl] (.inlayCmdHang k u) ∧ changesOnly [.freeCtr, .inl] (.inlayCopyDone k u)) ∧
  (∀ k a d, changesOnly [.inl] (.loadTslot k a d) ∧ changesOnly [.inl] (.loadFilter k a d)) ∧
  (∀ k o, changesOnly [.ecc] (.scrub k o)) ∧ (∀ k b, changesOnly [.stk] (.channelRetrainDone k b)) ∧
  (∀ k b, changesOnly [.inl, .stk] (.inlayTrimDone k b)) ∧ changesOnly [.tier] .heatHalving ∧
  (∀ k u, changesOnly [.ecc, .inl, .tier, .ctl] (.scorePq k u) ∧ changesOnly [.ecc, .inl, .tier, .ctl] (.dotI8 k u) ∧
    changesOnly [.freeCtr, .ecc, .inl, .tier, .ctl] (.gatherRow k u))

/-- R71 to R75, R435 to R442, R449, R456 to R465, R498, R516 to R518: the commands of movers, check units, identity, images and power
that store nothing change their own unit alone. -/
def Obligations.ControlCommandsChangeOnlyTheirUnit : Prop :=
  (∀ n, changesOnly [.mov] (.movTimerPeriod n) ∧ changesOnly [.mov] (.movStop n) ∧ changesOnly [.mov] (.movKick n) ∧
    changesOnly [] (.movResume n) ∧ changesOnly [] (.chkStart n) ∧ changesOnly [] (.chkCheck n)) ∧ changesOnly [] .parResume ∧
  (∀ n v, changesOnly [] (.chkFeed n v)) ∧ (∀ n v k, changesOnly [] (.chkFeedTail n v k)) ∧
  (∀ c ∈ ([.quote, .akCert, .raiseFloor, .floorRaised] : List Instr), changesOnly [.sec] c) ∧ (∀ d, changesOnly [.sec] (.claimReadback d)) ∧
  (∀ a, changesOnly [.sec] (.extend a) ∧ changesOnly [.sec] (.revokeVkey a)) ∧ (∀ k, changesOnly [.sec] (.romPhaseDone k)) ∧
  changesOnly [.img] .stage ∧ changesOnly [.img] .discard ∧ changesOnly [.img, .sec] .promote ∧
  (∀ a b, changesOnly [.ctl] (.thermalAlert a b) ∧ changesOnly [] (.thermalAlertRelease a b)) ∧
  (∀ a b c, changesOnly [.ctl] (.powerEvaluation a b c)) ∧ changesOnly [.stk, .ctl] .shimClose ∧
  (∀ r, changesOnly [.freeCtr, .ctl] (.pmbusPoll r) ∧ changesOnly [.freeCtr, .ctl] (.pmbusAlert r))

/-- R28 to R33, R430, R439, R448: the commands of ring words store the eight bytes of a tail word or of a head word, or the two words of
a ring that they open, and every other byte of memory reads as before; beside memory they change the rings alone. -/
def Obligations.RingCommandsStoreOnlyTheirWords : Prop :=
  ∀ (s t : State),
    (∀ r v, exec (.tailWrite r v) s = .next t → s.sameBut ([.mem, .rings] ++ reports) t ∧
      ∀ a, a < (s.ring r).tailAddr ∨ (s.ring r).tailAddr + 8 ≤ a → t.byte a = s.byte a) ∧
    (∀ r v, exec (.creditReturn r v) s = .next t → s.sameBut ([.mem, .rings] ++ reports) t ∧
      ∀ a, a < (s.ring r).headAddr ∨ (s.ring r).headAddr + 8 ≤ a → t.byte a = s.byte a) ∧
    (∀ n, exec (.movSkip n) s = .next t → s.sameBut ([.mem, .rings] ++ reports) t ∧
      ∀ a, a < (s.ring (movRing n)).headAddr ∨ (s.ring (movRing n)).headAddr + 8 ≤ a → t.byte a = s.byte a) ∧
    (∀ n w, w = s.get (F.MOV_CH_RING_ADDR n) + 2 ^ s.get (F.MOV_CH_RING_SIZE_LOG2 n) → exec (.movChEnable n) s = .next t →
      s.sameBut ([.mem, .rings] ++ reports) t ∧ ∀ a, a < w ∨ w + 16 ≤ a → t.byte a = s.byte a) ∧
    (∀ w, w = s.get F.PAR_RING_ADDR + 2 ^ s.get F.PAR_RING_SIZE_LOG2 → exec .parEnable s = .next t →
      s.sameBut ([.mem, .rings] ++ reports) t ∧ ∀ a, a < w ∨ w + 16 ≤ a → t.byte a = s.byte a)

/-- R147, R199, R228, R275, R319, R439, R442, R449: the commands that act through registers change the registers named for them and no
other. -/
def Obligations.RegisterCommandsChangeOnlyTheirRegisters : Prop :=
  ∀ (s t : State), s.evt.quiet = true →
    (∀ u c, c ∈ ([.chkStart u] : List Instr) ∨ (∃ v, c = .chkFeed u v) ∨ (∃ v n, c = .chkFeedTail u v n) → exec c s = .next t →
      s.changesOnlyRegs t [Reg.CHK_STATE u, Reg.CHK_BYTES u, Reg.CHK_CTRL u]) ∧
    (∀ n, exec (.tileHalt n) s = .next t → s.changesOnlyRegs t [Reg.TILE_DBG_CTRL n]) ∧
    (∀ n, exec (.movResume n) s = .next t → s.changesOnlyRegs t [Reg.MOV_CH_STATUS n]) ∧
    (exec .parResume s = .next t → s.changesOnlyRegs t [Reg.PAR_STATUS]) ∧
    (∀ n, exec (.lsIndexDisable n) s = .next t → s.sameBut [.regs, .ls] t ∧ ∀ o, o ≠ Reg.LS_IDX_CTL n → t.reg o = s.reg o) ∧
    (∀ n, exec (.gwIndexDisable n) s = .next t → s.sameBut [.regs, .gw] t ∧ ∀ o, o ≠ Reg.WLK_IDX_CTL n → t.reg o = s.reg o) ∧
    (∀ n, exec (.tableDisable n) s = .next t → s.sameBut [.regs, .tbl] t ∧ ∀ o, o ≠ Reg.TBL_CTL n → t.reg o = s.reg o) ∧
    (∀ n, exec (.grammarDisable n) s = .next t → s.sameBut [.regs, .txt] t ∧ ∀ o, o ≠ Reg.TXT_GRAM_CTL n → t.reg o = s.reg o) ∧
    (∀ n, exec (.disarm n) s = .next t → s.sameBut [.regs, .beat] t ∧ ∀ o, o ≠ Reg.BEAT_EVT_CTL n → o ≠ Reg.BEAT_STATUS → t.reg o = s.reg o)
end

