-- ==== Sys2Proof/Laws/Maps.lean ====
section
/-! SUPPORT. Laws of the plain data: sparse maps (a read after a write, the canonical form), bit fields and little-endian numbers. -/

namespace Sys2Proof

/-- A key below every listed one reads as unlisted. -/
theorem smGet_below {α : Type} [DecidableEq α] (d : Nat → α) (m : SMap α) (lo i : Nat) (h : smWfFrom d lo m = true) (hi : i < lo) :
    smGet d m i = d i := by
  induction m generalizing lo with
  | nil => rfl
  | cons e r ih =>
    obtain ⟨k, v⟩ := e
    simp only [smWfFrom, Bool.and_eq_true, decide_eq_true_eq] at h
    rw [smGet, if_neg (by omega), ih (k + 1) h.2 (by omega)]

/-- The canonical form from a bound holds from any lower bound. -/
theorem smWfFrom_mono {α : Type} [DecidableEq α] (d : Nat → α) (m : SMap α) (a b : Nat) (h : smWfFrom d b m = true) (hab : a ≤ b) :
    smWfFrom d a m = true := by
  cases m with
  | nil => rfl
  | cons e r =>
    obtain ⟨k, v⟩ := e
    simp only [smWfFrom, Bool.and_eq_true, decide_eq_true_eq] at h ⊢
    exact ⟨⟨by omega, h.1.2⟩, h.2⟩

/-- A write leaves every other key as it was. -/
theorem smGet_smPut_other {α : Type} [DecidableEq α] (d : Nat → α) (m : SMap α) (i j : Nat) (v : α) (h : j ≠ i) :
    smGet d (smPut d m i v) j = smGet d m j := by
  induction m with
  | nil => rw [smPut]; split <;> simp [smGet, Ne.symm h]
  | cons e r ih =>
    obtain ⟨k, w⟩ := e
    rw [smPut]
    split
    · split <;> simp [smGet, Ne.symm h]
    · split
      · rename_i _ e; subst e; split <;> simp [smGet, Ne.symm h]
      · simp [smGet, ih]

/-- A read after a write gives the value written. -/
theorem smGet_smPut_same {α : Type} [DecidableEq α] (d : Nat → α) (m : SMap α) (lo i : Nat) (v : α) (h : smWfFrom d lo m = true) :
    smGet d (smPut d m i v) i = v := by
  induction m generalizing lo with
  | nil => rw [smPut]; split <;> simp_all [smGet]
  | cons e r ih =>
    obtain ⟨k, w⟩ := e
    simp only [smWfFrom, Bool.and_eq_true, decide_eq_true_eq] at h
    rw [smPut]
    split
    · rename_i hk
      split
      · rename_i hv
        rw [smGet, if_neg (by omega), smGet_below d r (k + 1) i h.2 (by omega), hv]
      · simp [smGet]
    · split
      · rename_i _ e; subst e
        split
        · rename_i hv; rw [smGet_below d r (i + 1) i h.2 (by omega), hv]
        · simp [smGet]
      · rw [smGet, if_neg (by omega), ih (k + 1) h.2]

/-- A write keeps the canonical form. -/
theorem smWfFrom_smPut {α : Type} [DecidableEq α] (d : Nat → α) (m : SMap α) (lo i : Nat) (v : α) (h : smWfFrom d lo m = true)
    (hi : lo ≤ i) : smWfFrom d lo (smPut d m i v) = true := by
  induction m generalizing lo with
  | nil => rw [smPut]; split <;> simp_all [smWfFrom]
  | cons e r ih =>
    obtain ⟨k, w⟩ := e
    have h' := h
    simp only [smWfFrom, Bool.and_eq_true, decide_eq_true_eq] at h
    rw [smPut]
    split
    · split
      · exact h'
      · rename_i hk hv
        simp only [smWfFrom, Bool.and_eq_true, decide_eq_true_eq]
        exact ⟨⟨hi, hv⟩, ⟨by omega, h.1.2⟩, h.2⟩
    · split
      · rename_i _ e; subst e
        split
        · exact smWfFrom_mono d r lo (i + 1) h.2 (by omega)
        · rename_i hv
          simp only [smWfFrom, Bool.and_eq_true, decide_eq_true_eq]
          exact ⟨⟨hi, hv⟩, h.2⟩
      · simp only [smWfFrom, Bool.and_eq_true, decide_eq_true_eq]
        exact ⟨h.1, ih (k + 1) h.2 (by omega)⟩

/-- A write keeps the canonical form of a whole map. -/
theorem smWf_smPut {α : Type} [DecidableEq α] (d : Nat → α) (m : SMap α) (i : Nat) (v : α) (h : smWf d m = true) :
    smWf d (smPut d m i v) = true := smWfFrom_smPut d m 0 i v h (Nat.zero_le i)

/-- Entries taken out by their keys keep the canonical form. -/
theorem smWfFrom_filter {α : Type} [DecidableEq α] (d : Nat → α) (m : SMap α) (p : Nat × α → Bool) (lo : Nat)
    (h : smWfFrom d lo m = true) : smWfFrom d lo (m.filter p) = true := by
  induction m generalizing lo with
  | nil => rfl
  | cons e r ih =>
    obtain ⟨k, w⟩ := e
    simp only [smWfFrom, Bool.and_eq_true, decide_eq_true_eq] at h
    rw [List.filter_cons]
    split
    · simp only [smWfFrom, Bool.and_eq_true, decide_eq_true_eq]
      exact ⟨h.1, ih (k + 1) h.2⟩
    · exact smWfFrom_mono d _ lo (k + 1) (ih (k + 1) h.2) (by omega)

/-- A number takes as many bytes as it is given. -/
@[simp] theorem length_leBytes (n v : Nat) : (leBytes n v).length = n := by
  induction n generalizing v with
  | zero => rfl
  | succ n ih => simp [leBytes, ih]

/-- The number that the bytes of a number spell, modulo its width (R12). -/
theorem leNat_leBytes (n v : Nat) : leNat (leBytes n v) = v % 256 ^ n := by
  induction n generalizing v with
  | zero => simp [leBytes, leNat, Nat.mod_one]
  | succ n ih =>
    have : v % 256 ^ (n + 1) = v % 256 + 256 * (v / 256 % 256 ^ n) := by
      rw [Nat.pow_succ, Nat.mul_comm, Nat.mod_mul]
    simp [leBytes, leNat, ih, this]

/-- A field of bits is below its width. -/
theorem bitsAt_lt (v lo w : Nat) : bitsAt v lo w < 2 ^ w := Nat.mod_lt _ (Nat.two_pow_pos w)

/-- A number with a field replaced, by its quotient and remainder at the field's place. -/
theorem setBitsAt_eq (v lo w x : Nat) :
    setBitsAt v lo w x = (2 ^ w * (v / 2 ^ lo / 2 ^ w) + x % 2 ^ w) * 2 ^ lo + v % 2 ^ lo := by
  have h1 := Nat.div_add_mod v (2 ^ lo)
  have h2 := Nat.div_add_mod (v / 2 ^ lo) (2 ^ w)
  simp only [setBitsAt, bitsAt, Nat.shiftRight_eq_div_pow]
  generalize v / 2 ^ lo = q at *
  generalize q / 2 ^ w = a at *
  generalize q % 2 ^ w = b at *
  generalize x % 2 ^ w = c
  generalize v % 2 ^ lo = l at *
  have : v = 2 ^ w * a * 2 ^ lo + b * 2 ^ lo + l := by rw [← h1, ← h2]; ring
  rw [this, Nat.add_mul]
  omega

/-- A field reads as it was set, modulo its width. -/
theorem bitsAt_setBitsAt (v lo w x : Nat) : bitsAt (setBitsAt v lo w x) lo w = x % 2 ^ w := by
  rw [setBitsAt_eq, bitsAt, Nat.shiftRight_eq_div_pow, Nat.add_comm, Nat.add_mul_div_right _ _ (Nat.two_pow_pos lo),
    Nat.div_eq_of_lt (Nat.mod_lt _ (Nat.two_pow_pos lo)), Nat.zero_add, Nat.mul_add_mod, Nat.mod_mod]

/-- A field above one that is set reads as before. -/
theorem bitsAt_setBitsAt_above (v lo w x l k : Nat) (h : lo + w ≤ l) : bitsAt (setBitsAt v lo w x) l k = bitsAt v l k := by
  obtain ⟨d, rfl⟩ := Nat.exists_eq_add_of_le h
  have e : setBitsAt v lo w x / 2 ^ (lo + w) = v / 2 ^ (lo + w) := by
    rw [setBitsAt_eq, Nat.pow_add, ← Nat.div_div_eq_div_mul, Nat.add_comm, Nat.add_mul_div_right _ _ (Nat.two_pow_pos lo),
      Nat.div_eq_of_lt (Nat.mod_lt _ (Nat.two_pow_pos lo)), Nat.zero_add, Nat.mul_add_div (Nat.two_pow_pos w),
      Nat.div_eq_of_lt (Nat.mod_lt _ (Nat.two_pow_pos w)), Nat.add_zero, Nat.div_div_eq_div_mul]
  simp only [bitsAt, Nat.shiftRight_eq_div_pow]
  rw [Nat.pow_add, ← Nat.div_div_eq_div_mul, ← Nat.div_div_eq_div_mul, e]

/-- A field below one that is set reads as before. -/
theorem bitsAt_setBitsAt_below (v lo w x l k : Nat) (h : l + k ≤ lo) : bitsAt (setBitsAt v lo w x) l k = bitsAt v l k := by
  have e : ∀ y : Nat, y / 2 ^ l % 2 ^ k = y % 2 ^ (l + k) / 2 ^ l := by
    intro y; rw [Nat.pow_add, Nat.mod_mul_right_div_self]
  obtain ⟨d, rfl⟩ := Nat.exists_eq_add_of_le h
  have g : setBitsAt v (l + k + d) w x % 2 ^ (l + k) = v % 2 ^ (l + k) := by
    rw [setBitsAt_eq, Nat.pow_add 2 (l + k) d, Nat.mul_left_comm, Nat.mul_add_mod, Nat.mod_mul_right_mod]
  simp only [bitsAt, Nat.shiftRight_eq_div_pow]
  rw [e, e, g]

end Sys2Proof
end

