-- ==== Sys2Proof/Laws/State.lean ====
section
/-! SUPPORT. Laws of the state's named updates: what each leaves alone, one lemma a field, and what a register reads as after a write. -/

namespace Sys2Proof.Machine

/-! `setReg`. -/

@[simp] theorem State.setReg_pending (s : State) (o : Nat) (v : Word) : (s.setReg o v).pending = s.pending := rfl
@[simp] theorem State.setReg_now (s : State) (o : Nat) (v : Word) : (s.setReg o v).now = s.now := rfl
@[simp] theorem State.setReg_freeCtr (s : State) (o : Nat) (v : Word) : (s.setReg o v).freeCtr = s.freeCtr := rfl
@[simp] theorem State.setReg_mem (s : State) (o : Nat) (v : Word) : (s.setReg o v).mem = s.mem := rfl
@[simp] theorem State.setReg_ecc (s : State) (o : Nat) (v : Word) : (s.setReg o v).ecc = s.ecc := rfl
@[simp] theorem State.setReg_evt (s : State) (o : Nat) (v : Word) : (s.setReg o v).evt = s.evt := rfl
@[simp] theorem State.setReg_beat (s : State) (o : Nat) (v : Word) : (s.setReg o v).beat = s.beat := rfl
@[simp] theorem State.setReg_sko (s : State) (o : Nat) (v : Word) : (s.setReg o v).sko = s.sko := rfl
@[simp] theorem State.setReg_ts (s : State) (o : Nat) (v : Word) : (s.setReg o v).ts = s.ts := rfl
@[simp] theorem State.setReg_tel (s : State) (o : Nat) (v : Word) : (s.setReg o v).tel = s.tel := rfl
@[simp] theorem State.setReg_port (s : State) (o : Nat) (v : Word) : (s.setReg o v).port = s.port := rfl
@[simp] theorem State.setReg_rings (s : State) (o : Nat) (v : Word) : (s.setReg o v).rings = s.rings := rfl
@[simp] theorem State.setReg_tiles (s : State) (o : Nat) (v : Word) : (s.setReg o v).tiles = s.tiles := rfl
@[simp] theorem State.setReg_img (s : State) (o : Nat) (v : Word) : (s.setReg o v).img = s.img := rfl
@[simp] theorem State.setReg_inl (s : State) (o : Nat) (v : Word) : (s.setReg o v).inl = s.inl := rfl
@[simp] theorem State.setReg_stk (s : State) (o : Nat) (v : Word) : (s.setReg o v).stk = s.stk := rfl
@[simp] theorem State.setReg_tier (s : State) (o : Nat) (v : Word) : (s.setReg o v).tier = s.tier := rfl
@[simp] theorem State.setReg_fl (s : State) (o : Nat) (v : Word) : (s.setReg o v).fl = s.fl := rfl
@[simp] theorem State.setReg_work (s : State) (o : Nat) (v : Word) : (s.setReg o v).work = s.work := rfl
@[simp] theorem State.setReg_fails (s : State) (o : Nat) (v : Word) : (s.setReg o v).fails = s.fails := rfl
@[simp] theorem State.setReg_sel (s : State) (o : Nat) (v : Word) : (s.setReg o v).sel = s.sel := rfl
@[simp] theorem State.setReg_ls (s : State) (o : Nat) (v : Word) : (s.setReg o v).ls = s.ls := rfl
@[simp] theorem State.setReg_gw (s : State) (o : Nat) (v : Word) : (s.setReg o v).gw = s.gw := rfl
@[simp] theorem State.setReg_tbl (s : State) (o : Nat) (v : Word) : (s.setReg o v).tbl = s.tbl := rfl
@[simp] theorem State.setReg_txt (s : State) (o : Nat) (v : Word) : (s.setReg o v).txt = s.txt := rfl
@[simp] theorem State.setReg_sec (s : State) (o : Nat) (v : Word) : (s.setReg o v).sec = s.sec := rfl
@[simp] theorem State.setReg_mov (s : State) (o : Nat) (v : Word) : (s.setReg o v).mov = s.mov := rfl
@[simp] theorem State.setReg_epochs (s : State) (o : Nat) (v : Word) : (s.setReg o v).epochs = s.epochs := rfl
@[simp] theorem State.setReg_ctl (s : State) (o : Nat) (v : Word) : (s.setReg o v).ctl = s.ctl := rfl

/-! `set`. -/

@[simp] theorem State.set_pending (s : State) (f : RegField) (v : Nat) : (s.set f v).pending = s.pending := rfl
@[simp] theorem State.set_now (s : State) (f : RegField) (v : Nat) : (s.set f v).now = s.now := rfl
@[simp] theorem State.set_freeCtr (s : State) (f : RegField) (v : Nat) : (s.set f v).freeCtr = s.freeCtr := rfl
@[simp] theorem State.set_mem (s : State) (f : RegField) (v : Nat) : (s.set f v).mem = s.mem := rfl
@[simp] theorem State.set_ecc (s : State) (f : RegField) (v : Nat) : (s.set f v).ecc = s.ecc := rfl
@[simp] theorem State.set_evt (s : State) (f : RegField) (v : Nat) : (s.set f v).evt = s.evt := rfl
@[simp] theorem State.set_beat (s : State) (f : RegField) (v : Nat) : (s.set f v).beat = s.beat := rfl
@[simp] theorem State.set_sko (s : State) (f : RegField) (v : Nat) : (s.set f v).sko = s.sko := rfl
@[simp] theorem State.set_ts (s : State) (f : RegField) (v : Nat) : (s.set f v).ts = s.ts := rfl
@[simp] theorem State.set_tel (s : State) (f : RegField) (v : Nat) : (s.set f v).tel = s.tel := rfl
@[simp] theorem State.set_port (s : State) (f : RegField) (v : Nat) : (s.set f v).port = s.port := rfl
@[simp] theorem State.set_rings (s : State) (f : RegField) (v : Nat) : (s.set f v).rings = s.rings := rfl
@[simp] theorem State.set_tiles (s : State) (f : RegField) (v : Nat) : (s.set f v).tiles = s.tiles := rfl
@[simp] theorem State.set_img (s : State) (f : RegField) (v : Nat) : (s.set f v).img = s.img := rfl
@[simp] theorem State.set_inl (s : State) (f : RegField) (v : Nat) : (s.set f v).inl = s.inl := rfl
@[simp] theorem State.set_stk (s : State) (f : RegField) (v : Nat) : (s.set f v).stk = s.stk := rfl
@[simp] theorem State.set_tier (s : State) (f : RegField) (v : Nat) : (s.set f v).tier = s.tier := rfl
@[simp] theorem State.set_fl (s : State) (f : RegField) (v : Nat) : (s.set f v).fl = s.fl := rfl
@[simp] theorem State.set_work (s : State) (f : RegField) (v : Nat) : (s.set f v).work = s.work := rfl
@[simp] theorem State.set_fails (s : State) (f : RegField) (v : Nat) : (s.set f v).fails = s.fails := rfl
@[simp] theorem State.set_sel (s : State) (f : RegField) (v : Nat) : (s.set f v).sel = s.sel := rfl
@[simp] theorem State.set_ls (s : State) (f : RegField) (v : Nat) : (s.set f v).ls = s.ls := rfl
@[simp] theorem State.set_gw (s : State) (f : RegField) (v : Nat) : (s.set f v).gw = s.gw := rfl
@[simp] theorem State.set_tbl (s : State) (f : RegField) (v : Nat) : (s.set f v).tbl = s.tbl := rfl
@[simp] theorem State.set_txt (s : State) (f : RegField) (v : Nat) : (s.set f v).txt = s.txt := rfl
@[simp] theorem State.set_sec (s : State) (f : RegField) (v : Nat) : (s.set f v).sec = s.sec := rfl
@[simp] theorem State.set_mov (s : State) (f : RegField) (v : Nat) : (s.set f v).mov = s.mov := rfl
@[simp] theorem State.set_epochs (s : State) (f : RegField) (v : Nat) : (s.set f v).epochs = s.epochs := rfl
@[simp] theorem State.set_ctl (s : State) (f : RegField) (v : Nat) : (s.set f v).ctl = s.ctl := rfl

/-! `setBit`. -/

@[simp] theorem State.setBit_pending (s : State) (f : RegField) (b : Bool) : (s.setBit f b).pending = s.pending := rfl
@[simp] theorem State.setBit_now (s : State) (f : RegField) (b : Bool) : (s.setBit f b).now = s.now := rfl
@[simp] theorem State.setBit_freeCtr (s : State) (f : RegField) (b : Bool) : (s.setBit f b).freeCtr = s.freeCtr := rfl
@[simp] theorem State.setBit_mem (s : State) (f : RegField) (b : Bool) : (s.setBit f b).mem = s.mem := rfl
@[simp] theorem State.setBit_ecc (s : State) (f : RegField) (b : Bool) : (s.setBit f b).ecc = s.ecc := rfl
@[simp] theorem State.setBit_evt (s : State) (f : RegField) (b : Bool) : (s.setBit f b).evt = s.evt := rfl
@[simp] theorem State.setBit_beat (s : State) (f : RegField) (b : Bool) : (s.setBit f b).beat = s.beat := rfl
@[simp] theorem State.setBit_sko (s : State) (f : RegField) (b : Bool) : (s.setBit f b).sko = s.sko := rfl
@[simp] theorem State.setBit_ts (s : State) (f : RegField) (b : Bool) : (s.setBit f b).ts = s.ts := rfl
@[simp] theorem State.setBit_tel (s : State) (f : RegField) (b : Bool) : (s.setBit f b).tel = s.tel := rfl
@[simp] theorem State.setBit_port (s : State) (f : RegField) (b : Bool) : (s.setBit f b).port = s.port := rfl
@[simp] theorem State.setBit_rings (s : State) (f : RegField) (b : Bool) : (s.setBit f b).rings = s.rings := rfl
@[simp] theorem State.setBit_tiles (s : State) (f : RegField) (b : Bool) : (s.setBit f b).tiles = s.tiles := rfl
@[simp] theorem State.setBit_img (s : State) (f : RegField) (b : Bool) : (s.setBit f b).img = s.img := rfl
@[simp] theorem State.setBit_inl (s : State) (f : RegField) (b : Bool) : (s.setBit f b).inl = s.inl := rfl
@[simp] theorem State.setBit_stk (s : State) (f : RegField) (b : Bool) : (s.setBit f b).stk = s.stk := rfl
@[simp] theorem State.setBit_tier (s : State) (f : RegField) (b : Bool) : (s.setBit f b).tier = s.tier := rfl
@[simp] theorem State.setBit_fl (s : State) (f : RegField) (b : Bool) : (s.setBit f b).fl = s.fl := rfl
@[simp] theorem State.setBit_work (s : State) (f : RegField) (b : Bool) : (s.setBit f b).work = s.work := rfl
@[simp] theorem State.setBit_fails (s : State) (f : RegField) (b : Bool) : (s.setBit f b).fails = s.fails := rfl
@[simp] theorem State.setBit_sel (s : State) (f : RegField) (b : Bool) : (s.setBit f b).sel = s.sel := rfl
@[simp] theorem State.setBit_ls (s : State) (f : RegField) (b : Bool) : (s.setBit f b).ls = s.ls := rfl
@[simp] theorem State.setBit_gw (s : State) (f : RegField) (b : Bool) : (s.setBit f b).gw = s.gw := rfl
@[simp] theorem State.setBit_tbl (s : State) (f : RegField) (b : Bool) : (s.setBit f b).tbl = s.tbl := rfl
@[simp] theorem State.setBit_txt (s : State) (f : RegField) (b : Bool) : (s.setBit f b).txt = s.txt := rfl
@[simp] theorem State.setBit_sec (s : State) (f : RegField) (b : Bool) : (s.setBit f b).sec = s.sec := rfl
@[simp] theorem State.setBit_mov (s : State) (f : RegField) (b : Bool) : (s.setBit f b).mov = s.mov := rfl
@[simp] theorem State.setBit_epochs (s : State) (f : RegField) (b : Bool) : (s.setBit f b).epochs = s.epochs := rfl
@[simp] theorem State.setBit_ctl (s : State) (f : RegField) (b : Bool) : (s.setBit f b).ctl = s.ctl := rfl

/-! `bump`. -/

@[simp] theorem State.bump_pending (s : State) (f : RegField) (n : Nat) : (s.bump f n).pending = s.pending := rfl
@[simp] theorem State.bump_now (s : State) (f : RegField) (n : Nat) : (s.bump f n).now = s.now := rfl
@[simp] theorem State.bump_freeCtr (s : State) (f : RegField) (n : Nat) : (s.bump f n).freeCtr = s.freeCtr := rfl
@[simp] theorem State.bump_mem (s : State) (f : RegField) (n : Nat) : (s.bump f n).mem = s.mem := rfl
@[simp] theorem State.bump_ecc (s : State) (f : RegField) (n : Nat) : (s.bump f n).ecc = s.ecc := rfl
@[simp] theorem State.bump_evt (s : State) (f : RegField) (n : Nat) : (s.bump f n).evt = s.evt := rfl
@[simp] theorem State.bump_beat (s : State) (f : RegField) (n : Nat) : (s.bump f n).beat = s.beat := rfl
@[simp] theorem State.bump_sko (s : State) (f : RegField) (n : Nat) : (s.bump f n).sko = s.sko := rfl
@[simp] theorem State.bump_ts (s : State) (f : RegField) (n : Nat) : (s.bump f n).ts = s.ts := rfl
@[simp] theorem State.bump_tel (s : State) (f : RegField) (n : Nat) : (s.bump f n).tel = s.tel := rfl
@[simp] theorem State.bump_port (s : State) (f : RegField) (n : Nat) : (s.bump f n).port = s.port := rfl
@[simp] theorem State.bump_rings (s : State) (f : RegField) (n : Nat) : (s.bump f n).rings = s.rings := rfl
@[simp] theorem State.bump_tiles (s : State) (f : RegField) (n : Nat) : (s.bump f n).tiles = s.tiles := rfl
@[simp] theorem State.bump_img (s : State) (f : RegField) (n : Nat) : (s.bump f n).img = s.img := rfl
@[simp] theorem State.bump_inl (s : State) (f : RegField) (n : Nat) : (s.bump f n).inl = s.inl := rfl
@[simp] theorem State.bump_stk (s : State) (f : RegField) (n : Nat) : (s.bump f n).stk = s.stk := rfl
@[simp] theorem State.bump_tier (s : State) (f : RegField) (n : Nat) : (s.bump f n).tier = s.tier := rfl
@[simp] theorem State.bump_fl (s : State) (f : RegField) (n : Nat) : (s.bump f n).fl = s.fl := rfl
@[simp] theorem State.bump_work (s : State) (f : RegField) (n : Nat) : (s.bump f n).work = s.work := rfl
@[simp] theorem State.bump_fails (s : State) (f : RegField) (n : Nat) : (s.bump f n).fails = s.fails := rfl
@[simp] theorem State.bump_sel (s : State) (f : RegField) (n : Nat) : (s.bump f n).sel = s.sel := rfl
@[simp] theorem State.bump_ls (s : State) (f : RegField) (n : Nat) : (s.bump f n).ls = s.ls := rfl
@[simp] theorem State.bump_gw (s : State) (f : RegField) (n : Nat) : (s.bump f n).gw = s.gw := rfl
@[simp] theorem State.bump_tbl (s : State) (f : RegField) (n : Nat) : (s.bump f n).tbl = s.tbl := rfl
@[simp] theorem State.bump_txt (s : State) (f : RegField) (n : Nat) : (s.bump f n).txt = s.txt := rfl
@[simp] theorem State.bump_sec (s : State) (f : RegField) (n : Nat) : (s.bump f n).sec = s.sec := rfl
@[simp] theorem State.bump_mov (s : State) (f : RegField) (n : Nat) : (s.bump f n).mov = s.mov := rfl
@[simp] theorem State.bump_epochs (s : State) (f : RegField) (n : Nat) : (s.bump f n).epochs = s.epochs := rfl
@[simp] theorem State.bump_ctl (s : State) (f : RegField) (n : Nat) : (s.bump f n).ctl = s.ctl := rfl

/-! `putByte`. -/

@[simp] theorem State.putByte_pending (s : State) (a : Nat) (b : Byte) : (s.putByte a b).pending = s.pending := rfl
@[simp] theorem State.putByte_now (s : State) (a : Nat) (b : Byte) : (s.putByte a b).now = s.now := rfl
@[simp] theorem State.putByte_freeCtr (s : State) (a : Nat) (b : Byte) : (s.putByte a b).freeCtr = s.freeCtr := rfl
@[simp] theorem State.putByte_regs (s : State) (a : Nat) (b : Byte) : (s.putByte a b).regs = s.regs := rfl
@[simp] theorem State.putByte_ecc (s : State) (a : Nat) (b : Byte) : (s.putByte a b).ecc = s.ecc := rfl
@[simp] theorem State.putByte_evt (s : State) (a : Nat) (b : Byte) : (s.putByte a b).evt = s.evt := rfl
@[simp] theorem State.putByte_beat (s : State) (a : Nat) (b : Byte) : (s.putByte a b).beat = s.beat := rfl
@[simp] theorem State.putByte_sko (s : State) (a : Nat) (b : Byte) : (s.putByte a b).sko = s.sko := rfl
@[simp] theorem State.putByte_ts (s : State) (a : Nat) (b : Byte) : (s.putByte a b).ts = s.ts := rfl
@[simp] theorem State.putByte_tel (s : State) (a : Nat) (b : Byte) : (s.putByte a b).tel = s.tel := rfl
@[simp] theorem State.putByte_port (s : State) (a : Nat) (b : Byte) : (s.putByte a b).port = s.port := rfl
@[simp] theorem State.putByte_rings (s : State) (a : Nat) (b : Byte) : (s.putByte a b).rings = s.rings := rfl
@[simp] theorem State.putByte_tiles (s : State) (a : Nat) (b : Byte) : (s.putByte a b).tiles = s.tiles := rfl
@[simp] theorem State.putByte_img (s : State) (a : Nat) (b : Byte) : (s.putByte a b).img = s.img := rfl
@[simp] theorem State.putByte_inl (s : State) (a : Nat) (b : Byte) : (s.putByte a b).inl = s.inl := rfl
@[simp] theorem State.putByte_stk (s : State) (a : Nat) (b : Byte) : (s.putByte a b).stk = s.stk := rfl
@[simp] theorem State.putByte_tier (s : State) (a : Nat) (b : Byte) : (s.putByte a b).tier = s.tier := rfl
@[simp] theorem State.putByte_fl (s : State) (a : Nat) (b : Byte) : (s.putByte a b).fl = s.fl := rfl
@[simp] theorem State.putByte_work (s : State) (a : Nat) (b : Byte) : (s.putByte a b).work = s.work := rfl
@[simp] theorem State.putByte_fails (s : State) (a : Nat) (b : Byte) : (s.putByte a b).fails = s.fails := rfl
@[simp] theorem State.putByte_sel (s : State) (a : Nat) (b : Byte) : (s.putByte a b).sel = s.sel := rfl
@[simp] theorem State.putByte_ls (s : State) (a : Nat) (b : Byte) : (s.putByte a b).ls = s.ls := rfl
@[simp] theorem State.putByte_gw (s : State) (a : Nat) (b : Byte) : (s.putByte a b).gw = s.gw := rfl
@[simp] theorem State.putByte_tbl (s : State) (a : Nat) (b : Byte) : (s.putByte a b).tbl = s.tbl := rfl
@[simp] theorem State.putByte_txt (s : State) (a : Nat) (b : Byte) : (s.putByte a b).txt = s.txt := rfl
@[simp] theorem State.putByte_sec (s : State) (a : Nat) (b : Byte) : (s.putByte a b).sec = s.sec := rfl
@[simp] theorem State.putByte_mov (s : State) (a : Nat) (b : Byte) : (s.putByte a b).mov = s.mov := rfl
@[simp] theorem State.putByte_epochs (s : State) (a : Nat) (b : Byte) : (s.putByte a b).epochs = s.epochs := rfl
@[simp] theorem State.putByte_ctl (s : State) (a : Nat) (b : Byte) : (s.putByte a b).ctl = s.ctl := rfl

/-! `zeroBytes`. -/

@[simp] theorem State.zeroBytes_pending (s : State) (a n : Nat) : (s.zeroBytes a n).pending = s.pending := rfl
@[simp] theorem State.zeroBytes_now (s : State) (a n : Nat) : (s.zeroBytes a n).now = s.now := rfl
@[simp] theorem State.zeroBytes_freeCtr (s : State) (a n : Nat) : (s.zeroBytes a n).freeCtr = s.freeCtr := rfl
@[simp] theorem State.zeroBytes_regs (s : State) (a n : Nat) : (s.zeroBytes a n).regs = s.regs := rfl
@[simp] theorem State.zeroBytes_ecc (s : State) (a n : Nat) : (s.zeroBytes a n).ecc = s.ecc := rfl
@[simp] theorem State.zeroBytes_evt (s : State) (a n : Nat) : (s.zeroBytes a n).evt = s.evt := rfl
@[simp] theorem State.zeroBytes_beat (s : State) (a n : Nat) : (s.zeroBytes a n).beat = s.beat := rfl
@[simp] theorem State.zeroBytes_sko (s : State) (a n : Nat) : (s.zeroBytes a n).sko = s.sko := rfl
@[simp] theorem State.zeroBytes_ts (s : State) (a n : Nat) : (s.zeroBytes a n).ts = s.ts := rfl
@[simp] theorem State.zeroBytes_tel (s : State) (a n : Nat) : (s.zeroBytes a n).tel = s.tel := rfl
@[simp] theorem State.zeroBytes_port (s : State) (a n : Nat) : (s.zeroBytes a n).port = s.port := rfl
@[simp] theorem State.zeroBytes_rings (s : State) (a n : Nat) : (s.zeroBytes a n).rings = s.rings := rfl
@[simp] theorem State.zeroBytes_tiles (s : State) (a n : Nat) : (s.zeroBytes a n).tiles = s.tiles := rfl
@[simp] theorem State.zeroBytes_img (s : State) (a n : Nat) : (s.zeroBytes a n).img = s.img := rfl
@[simp] theorem State.zeroBytes_inl (s : State) (a n : Nat) : (s.zeroBytes a n).inl = s.inl := rfl
@[simp] theorem State.zeroBytes_stk (s : State) (a n : Nat) : (s.zeroBytes a n).stk = s.stk := rfl
@[simp] theorem State.zeroBytes_tier (s : State) (a n : Nat) : (s.zeroBytes a n).tier = s.tier := rfl
@[simp] theorem State.zeroBytes_fl (s : State) (a n : Nat) : (s.zeroBytes a n).fl = s.fl := rfl
@[simp] theorem State.zeroBytes_work (s : State) (a n : Nat) : (s.zeroBytes a n).work = s.work := rfl
@[simp] theorem State.zeroBytes_fails (s : State) (a n : Nat) : (s.zeroBytes a n).fails = s.fails := rfl
@[simp] theorem State.zeroBytes_sel (s : State) (a n : Nat) : (s.zeroBytes a n).sel = s.sel := rfl
@[simp] theorem State.zeroBytes_ls (s : State) (a n : Nat) : (s.zeroBytes a n).ls = s.ls := rfl
@[simp] theorem State.zeroBytes_gw (s : State) (a n : Nat) : (s.zeroBytes a n).gw = s.gw := rfl
@[simp] theorem State.zeroBytes_tbl (s : State) (a n : Nat) : (s.zeroBytes a n).tbl = s.tbl := rfl
@[simp] theorem State.zeroBytes_txt (s : State) (a n : Nat) : (s.zeroBytes a n).txt = s.txt := rfl
@[simp] theorem State.zeroBytes_sec (s : State) (a n : Nat) : (s.zeroBytes a n).sec = s.sec := rfl
@[simp] theorem State.zeroBytes_mov (s : State) (a n : Nat) : (s.zeroBytes a n).mov = s.mov := rfl
@[simp] theorem State.zeroBytes_epochs (s : State) (a n : Nat) : (s.zeroBytes a n).epochs = s.epochs := rfl
@[simp] theorem State.zeroBytes_ctl (s : State) (a n : Nat) : (s.zeroBytes a n).ctl = s.ctl := rfl

/-! `nextFree`. -/

@[simp] theorem State.nextFree_pending (s : State) : (s.nextFree).pending = s.pending := rfl
@[simp] theorem State.nextFree_now (s : State) : (s.nextFree).now = s.now := rfl
@[simp] theorem State.nextFree_mem (s : State) : (s.nextFree).mem = s.mem := rfl
@[simp] theorem State.nextFree_regs (s : State) : (s.nextFree).regs = s.regs := rfl
@[simp] theorem State.nextFree_ecc (s : State) : (s.nextFree).ecc = s.ecc := rfl
@[simp] theorem State.nextFree_evt (s : State) : (s.nextFree).evt = s.evt := rfl
@[simp] theorem State.nextFree_beat (s : State) : (s.nextFree).beat = s.beat := rfl
@[simp] theorem State.nextFree_sko (s : State) : (s.nextFree).sko = s.sko := rfl
@[simp] theorem State.nextFree_ts (s : State) : (s.nextFree).ts = s.ts := rfl
@[simp] theorem State.nextFree_tel (s : State) : (s.nextFree).tel = s.tel := rfl
@[simp] theorem State.nextFree_port (s : State) : (s.nextFree).port = s.port := rfl
@[simp] theorem State.nextFree_rings (s : State) : (s.nextFree).rings = s.rings := rfl
@[simp] theorem State.nextFree_tiles (s : State) : (s.nextFree).tiles = s.tiles := rfl
@[simp] theorem State.nextFree_img (s : State) : (s.nextFree).img = s.img := rfl
@[simp] theorem State.nextFree_inl (s : State) : (s.nextFree).inl = s.inl := rfl
@[simp] theorem State.nextFree_stk (s : State) : (s.nextFree).stk = s.stk := rfl
@[simp] theorem State.nextFree_tier (s : State) : (s.nextFree).tier = s.tier := rfl
@[simp] theorem State.nextFree_fl (s : State) : (s.nextFree).fl = s.fl := rfl
@[simp] theorem State.nextFree_work (s : State) : (s.nextFree).work = s.work := rfl
@[simp] theorem State.nextFree_fails (s : State) : (s.nextFree).fails = s.fails := rfl
@[simp] theorem State.nextFree_sel (s : State) : (s.nextFree).sel = s.sel := rfl
@[simp] theorem State.nextFree_ls (s : State) : (s.nextFree).ls = s.ls := rfl
@[simp] theorem State.nextFree_gw (s : State) : (s.nextFree).gw = s.gw := rfl
@[simp] theorem State.nextFree_tbl (s : State) : (s.nextFree).tbl = s.tbl := rfl
@[simp] theorem State.nextFree_txt (s : State) : (s.nextFree).txt = s.txt := rfl
@[simp] theorem State.nextFree_sec (s : State) : (s.nextFree).sec = s.sec := rfl
@[simp] theorem State.nextFree_mov (s : State) : (s.nextFree).mov = s.mov := rfl
@[simp] theorem State.nextFree_epochs (s : State) : (s.nextFree).epochs = s.epochs := rfl
@[simp] theorem State.nextFree_ctl (s : State) : (s.nextFree).ctl = s.ctl := rfl

/-! `setRing`. -/

@[simp] theorem State.setRing_pending (s : State) (r : Nat) (v : RingSt) : (s.setRing r v).pending = s.pending := rfl
@[simp] theorem State.setRing_now (s : State) (r : Nat) (v : RingSt) : (s.setRing r v).now = s.now := rfl
@[simp] theorem State.setRing_freeCtr (s : State) (r : Nat) (v : RingSt) : (s.setRing r v).freeCtr = s.freeCtr := rfl
@[simp] theorem State.setRing_mem (s : State) (r : Nat) (v : RingSt) : (s.setRing r v).mem = s.mem := rfl
@[simp] theorem State.setRing_regs (s : State) (r : Nat) (v : RingSt) : (s.setRing r v).regs = s.regs := rfl
@[simp] theorem State.setRing_ecc (s : State) (r : Nat) (v : RingSt) : (s.setRing r v).ecc = s.ecc := rfl
@[simp] theorem State.setRing_evt (s : State) (r : Nat) (v : RingSt) : (s.setRing r v).evt = s.evt := rfl
@[simp] theorem State.setRing_beat (s : State) (r : Nat) (v : RingSt) : (s.setRing r v).beat = s.beat := rfl
@[simp] theorem State.setRing_sko (s : State) (r : Nat) (v : RingSt) : (s.setRing r v).sko = s.sko := rfl
@[simp] theorem State.setRing_ts (s : State) (r : Nat) (v : RingSt) : (s.setRing r v).ts = s.ts := rfl
@[simp] theorem State.setRing_tel (s : State) (r : Nat) (v : RingSt) : (s.setRing r v).tel = s.tel := rfl
@[simp] theorem State.setRing_port (s : State) (r : Nat) (v : RingSt) : (s.setRing r v).port = s.port := rfl
@[simp] theorem State.setRing_tiles (s : State) (r : Nat) (v : RingSt) : (s.setRing r v).tiles = s.tiles := rfl
@[simp] theorem State.setRing_img (s : State) (r : Nat) (v : RingSt) : (s.setRing r v).img = s.img := rfl
@[simp] theorem State.setRing_inl (s : State) (r : Nat) (v : RingSt) : (s.setRing r v).inl = s.inl := rfl
@[simp] theorem State.setRing_stk (s : State) (r : Nat) (v : RingSt) : (s.setRing r v).stk = s.stk := rfl
@[simp] theorem State.setRing_tier (s : State) (r : Nat) (v : RingSt) : (s.setRing r v).tier = s.tier := rfl
@[simp] theorem State.setRing_fl (s : State) (r : Nat) (v : RingSt) : (s.setRing r v).fl = s.fl := rfl
@[simp] theorem State.setRing_work (s : State) (r : Nat) (v : RingSt) : (s.setRing r v).work = s.work := rfl
@[simp] theorem State.setRing_fails (s : State) (r : Nat) (v : RingSt) : (s.setRing r v).fails = s.fails := rfl
@[simp] theorem State.setRing_sel (s : State) (r : Nat) (v : RingSt) : (s.setRing r v).sel = s.sel := rfl
@[simp] theorem State.setRing_ls (s : State) (r : Nat) (v : RingSt) : (s.setRing r v).ls = s.ls := rfl
@[simp] theorem State.setRing_gw (s : State) (r : Nat) (v : RingSt) : (s.setRing r v).gw = s.gw := rfl
@[simp] theorem State.setRing_tbl (s : State) (r : Nat) (v : RingSt) : (s.setRing r v).tbl = s.tbl := rfl
@[simp] theorem State.setRing_txt (s : State) (r : Nat) (v : RingSt) : (s.setRing r v).txt = s.txt := rfl
@[simp] theorem State.setRing_sec (s : State) (r : Nat) (v : RingSt) : (s.setRing r v).sec = s.sec := rfl
@[simp] theorem State.setRing_mov (s : State) (r : Nat) (v : RingSt) : (s.setRing r v).mov = s.mov := rfl
@[simp] theorem State.setRing_epochs (s : State) (r : Nat) (v : RingSt) : (s.setRing r v).epochs = s.epochs := rfl
@[simp] theorem State.setRing_ctl (s : State) (r : Nat) (v : RingSt) : (s.setRing r v).ctl = s.ctl := rfl

/-! `raise`. -/

@[simp] theorem State.raise_pending (s : State) (c o : Nat) (d : List Nat) : (s.raise c o d).pending = s.pending := rfl
@[simp] theorem State.raise_now (s : State) (c o : Nat) (d : List Nat) : (s.raise c o d).now = s.now := rfl
@[simp] theorem State.raise_freeCtr (s : State) (c o : Nat) (d : List Nat) : (s.raise c o d).freeCtr = s.freeCtr := rfl
@[simp] theorem State.raise_mem (s : State) (c o : Nat) (d : List Nat) : (s.raise c o d).mem = s.mem := rfl
@[simp] theorem State.raise_regs (s : State) (c o : Nat) (d : List Nat) : (s.raise c o d).regs = s.regs := rfl
@[simp] theorem State.raise_ecc (s : State) (c o : Nat) (d : List Nat) : (s.raise c o d).ecc = s.ecc := rfl
@[simp] theorem State.raise_beat (s : State) (c o : Nat) (d : List Nat) : (s.raise c o d).beat = s.beat := rfl
@[simp] theorem State.raise_sko (s : State) (c o : Nat) (d : List Nat) : (s.raise c o d).sko = s.sko := rfl
@[simp] theorem State.raise_ts (s : State) (c o : Nat) (d : List Nat) : (s.raise c o d).ts = s.ts := rfl
@[simp] theorem State.raise_tel (s : State) (c o : Nat) (d : List Nat) : (s.raise c o d).tel = s.tel := rfl
@[simp] theorem State.raise_port (s : State) (c o : Nat) (d : List Nat) : (s.raise c o d).port = s.port := rfl
@[simp] theorem State.raise_rings (s : State) (c o : Nat) (d : List Nat) : (s.raise c o d).rings = s.rings := rfl
@[simp] theorem State.raise_tiles (s : State) (c o : Nat) (d : List Nat) : (s.raise c o d).tiles = s.tiles := rfl
@[simp] theorem State.raise_img (s : State) (c o : Nat) (d : List Nat) : (s.raise c o d).img = s.img := rfl
@[simp] theorem State.raise_inl (s : State) (c o : Nat) (d : List Nat) : (s.raise c o d).inl = s.inl := rfl
@[simp] theorem State.raise_stk (s : State) (c o : Nat) (d : List Nat) : (s.raise c o d).stk = s.stk := rfl
@[simp] theorem State.raise_tier (s : State) (c o : Nat) (d : List Nat) : (s.raise c o d).tier = s.tier := rfl
@[simp] theorem State.raise_fl (s : State) (c o : Nat) (d : List Nat) : (s.raise c o d).fl = s.fl := rfl
@[simp] theorem State.raise_work (s : State) (c o : Nat) (d : List Nat) : (s.raise c o d).work = s.work := rfl
@[simp] theorem State.raise_fails (s : State) (c o : Nat) (d : List Nat) : (s.raise c o d).fails = s.fails := rfl
@[simp] theorem State.raise_sel (s : State) (c o : Nat) (d : List Nat) : (s.raise c o d).sel = s.sel := rfl
@[simp] theorem State.raise_ls (s : State) (c o : Nat) (d : List Nat) : (s.raise c o d).ls = s.ls := rfl
@[simp] theorem State.raise_gw (s : State) (c o : Nat) (d : List Nat) : (s.raise c o d).gw = s.gw := rfl
@[simp] theorem State.raise_tbl (s : State) (c o : Nat) (d : List Nat) : (s.raise c o d).tbl = s.tbl := rfl
@[simp] theorem State.raise_txt (s : State) (c o : Nat) (d : List Nat) : (s.raise c o d).txt = s.txt := rfl
@[simp] theorem State.raise_sec (s : State) (c o : Nat) (d : List Nat) : (s.raise c o d).sec = s.sec := rfl
@[simp] theorem State.raise_mov (s : State) (c o : Nat) (d : List Nat) : (s.raise c o d).mov = s.mov := rfl
@[simp] theorem State.raise_epochs (s : State) (c o : Nat) (d : List Nat) : (s.raise c o d).epochs = s.epochs := rfl
@[simp] theorem State.raise_ctl (s : State) (c o : Nat) (d : List Nat) : (s.raise c o d).ctl = s.ctl := rfl

/-! `raiseReq`. -/

@[simp] theorem State.raiseReq_pending (s : State) (c o : Nat) (d : List Nat) (t i : Nat) : (s.raiseReq c o d t i).pending = s.pending := rfl
@[simp] theorem State.raiseReq_now (s : State) (c o : Nat) (d : List Nat) (t i : Nat) : (s.raiseReq c o d t i).now = s.now := rfl
@[simp] theorem State.raiseReq_freeCtr (s : State) (c o : Nat) (d : List Nat) (t i : Nat) : (s.raiseReq c o d t i).freeCtr = s.freeCtr := rfl
@[simp] theorem State.raiseReq_mem (s : State) (c o : Nat) (d : List Nat) (t i : Nat) : (s.raiseReq c o d t i).mem = s.mem := rfl
@[simp] theorem State.raiseReq_regs (s : State) (c o : Nat) (d : List Nat) (t i : Nat) : (s.raiseReq c o d t i).regs = s.regs := rfl
@[simp] theorem State.raiseReq_ecc (s : State) (c o : Nat) (d : List Nat) (t i : Nat) : (s.raiseReq c o d t i).ecc = s.ecc := rfl
@[simp] theorem State.raiseReq_beat (s : State) (c o : Nat) (d : List Nat) (t i : Nat) : (s.raiseReq c o d t i).beat = s.beat := rfl
@[simp] theorem State.raiseReq_sko (s : State) (c o : Nat) (d : List Nat) (t i : Nat) : (s.raiseReq c o d t i).sko = s.sko := rfl
@[simp] theorem State.raiseReq_ts (s : State) (c o : Nat) (d : List Nat) (t i : Nat) : (s.raiseReq c o d t i).ts = s.ts := rfl
@[simp] theorem State.raiseReq_tel (s : State) (c o : Nat) (d : List Nat) (t i : Nat) : (s.raiseReq c o d t i).tel = s.tel := rfl
@[simp] theorem State.raiseReq_port (s : State) (c o : Nat) (d : List Nat) (t i : Nat) : (s.raiseReq c o d t i).port = s.port := rfl
@[simp] theorem State.raiseReq_rings (s : State) (c o : Nat) (d : List Nat) (t i : Nat) : (s.raiseReq c o d t i).rings = s.rings := rfl
@[simp] theorem State.raiseReq_tiles (s : State) (c o : Nat) (d : List Nat) (t i : Nat) : (s.raiseReq c o d t i).tiles = s.tiles := rfl
@[simp] theorem State.raiseReq_img (s : State) (c o : Nat) (d : List Nat) (t i : Nat) : (s.raiseReq c o d t i).img = s.img := rfl
@[simp] theorem State.raiseReq_inl (s : State) (c o : Nat) (d : List Nat) (t i : Nat) : (s.raiseReq c o d t i).inl = s.inl := rfl
@[simp] theorem State.raiseReq_stk (s : State) (c o : Nat) (d : List Nat) (t i : Nat) : (s.raiseReq c o d t i).stk = s.stk := rfl
@[simp] theorem State.raiseReq_tier (s : State) (c o : Nat) (d : List Nat) (t i : Nat) : (s.raiseReq c o d t i).tier = s.tier := rfl
@[simp] theorem State.raiseReq_fl (s : State) (c o : Nat) (d : List Nat) (t i : Nat) : (s.raiseReq c o d t i).fl = s.fl := rfl
@[simp] theorem State.raiseReq_work (s : State) (c o : Nat) (d : List Nat) (t i : Nat) : (s.raiseReq c o d t i).work = s.work := rfl
@[simp] theorem State.raiseReq_fails (s : State) (c o : Nat) (d : List Nat) (t i : Nat) : (s.raiseReq c o d t i).fails = s.fails := rfl
@[simp] theorem State.raiseReq_sel (s : State) (c o : Nat) (d : List Nat) (t i : Nat) : (s.raiseReq c o d t i).sel = s.sel := rfl
@[simp] theorem State.raiseReq_ls (s : State) (c o : Nat) (d : List Nat) (t i : Nat) : (s.raiseReq c o d t i).ls = s.ls := rfl
@[simp] theorem State.raiseReq_gw (s : State) (c o : Nat) (d : List Nat) (t i : Nat) : (s.raiseReq c o d t i).gw = s.gw := rfl
@[simp] theorem State.raiseReq_tbl (s : State) (c o : Nat) (d : List Nat) (t i : Nat) : (s.raiseReq c o d t i).tbl = s.tbl := rfl
@[simp] theorem State.raiseReq_txt (s : State) (c o : Nat) (d : List Nat) (t i : Nat) : (s.raiseReq c o d t i).txt = s.txt := rfl
@[simp] theorem State.raiseReq_sec (s : State) (c o : Nat) (d : List Nat) (t i : Nat) : (s.raiseReq c o d t i).sec = s.sec := rfl
@[simp] theorem State.raiseReq_mov (s : State) (c o : Nat) (d : List Nat) (t i : Nat) : (s.raiseReq c o d t i).mov = s.mov := rfl
@[simp] theorem State.raiseReq_epochs (s : State) (c o : Nat) (d : List Nat) (t i : Nat) : (s.raiseReq c o d t i).epochs = s.epochs := rfl
@[simp] theorem State.raiseReq_ctl (s : State) (c o : Nat) (d : List Nat) (t i : Nat) : (s.raiseReq c o d t i).ctl = s.ctl := rfl

/-! `setBoot`. -/

@[simp] theorem State.setBoot_pending (s : State) (b : BootSt) : (s.setBoot b).pending = s.pending := rfl
@[simp] theorem State.setBoot_now (s : State) (b : BootSt) : (s.setBoot b).now = s.now := rfl
@[simp] theorem State.setBoot_freeCtr (s : State) (b : BootSt) : (s.setBoot b).freeCtr = s.freeCtr := rfl
@[simp] theorem State.setBoot_mem (s : State) (b : BootSt) : (s.setBoot b).mem = s.mem := rfl
@[simp] theorem State.setBoot_regs (s : State) (b : BootSt) : (s.setBoot b).regs = s.regs := rfl
@[simp] theorem State.setBoot_ecc (s : State) (b : BootSt) : (s.setBoot b).ecc = s.ecc := rfl
@[simp] theorem State.setBoot_evt (s : State) (b : BootSt) : (s.setBoot b).evt = s.evt := rfl
@[simp] theorem State.setBoot_beat (s : State) (b : BootSt) : (s.setBoot b).beat = s.beat := rfl
@[simp] theorem State.setBoot_sko (s : State) (b : BootSt) : (s.setBoot b).sko = s.sko := rfl
@[simp] theorem State.setBoot_ts (s : State) (b : BootSt) : (s.setBoot b).ts = s.ts := rfl
@[simp] theorem State.setBoot_tel (s : State) (b : BootSt) : (s.setBoot b).tel = s.tel := rfl
@[simp] theorem State.setBoot_port (s : State) (b : BootSt) : (s.setBoot b).port = s.port := rfl
@[simp] theorem State.setBoot_rings (s : State) (b : BootSt) : (s.setBoot b).rings = s.rings := rfl
@[simp] theorem State.setBoot_tiles (s : State) (b : BootSt) : (s.setBoot b).tiles = s.tiles := rfl
@[simp] theorem State.setBoot_img (s : State) (b : BootSt) : (s.setBoot b).img = s.img := rfl
@[simp] theorem State.setBoot_inl (s : State) (b : BootSt) : (s.setBoot b).inl = s.inl := rfl
@[simp] theorem State.setBoot_stk (s : State) (b : BootSt) : (s.setBoot b).stk = s.stk := rfl
@[simp] theorem State.setBoot_tier (s : State) (b : BootSt) : (s.setBoot b).tier = s.tier := rfl
@[simp] theorem State.setBoot_fl (s : State) (b : BootSt) : (s.setBoot b).fl = s.fl := rfl
@[simp] theorem State.setBoot_work (s : State) (b : BootSt) : (s.setBoot b).work = s.work := rfl
@[simp] theorem State.setBoot_fails (s : State) (b : BootSt) : (s.setBoot b).fails = s.fails := rfl
@[simp] theorem State.setBoot_sel (s : State) (b : BootSt) : (s.setBoot b).sel = s.sel := rfl
@[simp] theorem State.setBoot_ls (s : State) (b : BootSt) : (s.setBoot b).ls = s.ls := rfl
@[simp] theorem State.setBoot_gw (s : State) (b : BootSt) : (s.setBoot b).gw = s.gw := rfl
@[simp] theorem State.setBoot_tbl (s : State) (b : BootSt) : (s.setBoot b).tbl = s.tbl := rfl
@[simp] theorem State.setBoot_txt (s : State) (b : BootSt) : (s.setBoot b).txt = s.txt := rfl
@[simp] theorem State.setBoot_sec (s : State) (b : BootSt) : (s.setBoot b).sec = s.sec := rfl
@[simp] theorem State.setBoot_mov (s : State) (b : BootSt) : (s.setBoot b).mov = s.mov := rfl
@[simp] theorem State.setBoot_epochs (s : State) (b : BootSt) : (s.setBoot b).epochs = s.epochs := rfl

/-! `putBytes` and `putNum`. -/

@[simp] theorem State.putBytes_pending (s : State) (a : Nat) (b : List Byte) : (s.putBytes a b).pending = s.pending := by
  induction b generalizing s a with
  | nil => rfl
  | cons x r ih => rw [State.putBytes, ih]; rfl
@[simp] theorem State.putBytes_now (s : State) (a : Nat) (b : List Byte) : (s.putBytes a b).now = s.now := by
  induction b generalizing s a with
  | nil => rfl
  | cons x r ih => rw [State.putBytes, ih]; rfl
@[simp] theorem State.putBytes_freeCtr (s : State) (a : Nat) (b : List Byte) : (s.putBytes a b).freeCtr = s.freeCtr := by
  induction b generalizing s a with
  | nil => rfl
  | cons x r ih => rw [State.putBytes, ih]; rfl
@[simp] theorem State.putBytes_regs (s : State) (a : Nat) (b : List Byte) : (s.putBytes a b).regs = s.regs := by
  induction b generalizing s a with
  | nil => rfl
  | cons x r ih => rw [State.putBytes, ih]; rfl
@[simp] theorem State.putBytes_ecc (s : State) (a : Nat) (b : List Byte) : (s.putBytes a b).ecc = s.ecc := by
  induction b generalizing s a with
  | nil => rfl
  | cons x r ih => rw [State.putBytes, ih]; rfl
@[simp] theorem State.putBytes_evt (s : State) (a : Nat) (b : List Byte) : (s.putBytes a b).evt = s.evt := by
  induction b generalizing s a with
  | nil => rfl
  | cons x r ih => rw [State.putBytes, ih]; rfl
@[simp] theorem State.putBytes_beat (s : State) (a : Nat) (b : List Byte) : (s.putBytes a b).beat = s.beat := by
  induction b generalizing s a with
  | nil => rfl
  | cons x r ih => rw [State.putBytes, ih]; rfl
@[simp] theorem State.putBytes_sko (s : State) (a : Nat) (b : List Byte) : (s.putBytes a b).sko = s.sko := by
  induction b generalizing s a with
  | nil => rfl
  | cons x r ih => rw [State.putBytes, ih]; rfl
@[simp] theorem State.putBytes_ts (s : State) (a : Nat) (b : List Byte) : (s.putBytes a b).ts = s.ts := by
  induction b generalizing s a with
  | nil => rfl
  | cons x r ih => rw [State.putBytes, ih]; rfl
@[simp] theorem State.putBytes_tel (s : State) (a : Nat) (b : List Byte) : (s.putBytes a b).tel = s.tel := by
  induction b generalizing s a with
  | nil => rfl
  | cons x r ih => rw [State.putBytes, ih]; rfl
@[simp] theorem State.putBytes_port (s : State) (a : Nat) (b : List Byte) : (s.putBytes a b).port = s.port := by
  induction b generalizing s a with
  | nil => rfl
  | cons x r ih => rw [State.putBytes, ih]; rfl
@[simp] theorem State.putBytes_rings (s : State) (a : Nat) (b : List Byte) : (s.putBytes a b).rings = s.rings := by
  induction b generalizing s a with
  | nil => rfl
  | cons x r ih => rw [State.putBytes, ih]; rfl
@[simp] theorem State.putBytes_tiles (s : State) (a : Nat) (b : List Byte) : (s.putBytes a b).tiles = s.tiles := by
  induction b generalizing s a with
  | nil => rfl
  | cons x r ih => rw [State.putBytes, ih]; rfl
@[simp] theorem State.putBytes_img (s : State) (a : Nat) (b : List Byte) : (s.putBytes a b).img = s.img := by
  induction b generalizing s a with
  | nil => rfl
  | cons x r ih => rw [State.putBytes, ih]; rfl
@[simp] theorem State.putBytes_inl (s : State) (a : Nat) (b : List Byte) : (s.putBytes a b).inl = s.inl := by
  induction b generalizing s a with
  | nil => rfl
  | cons x r ih => rw [State.putBytes, ih]; rfl
@[simp] theorem State.putBytes_stk (s : State) (a : Nat) (b : List Byte) : (s.putBytes a b).stk = s.stk := by
  induction b generalizing s a with
  | nil => rfl
  | cons x r ih => rw [State.putBytes, ih]; rfl
@[simp] theorem State.putBytes_tier (s : State) (a : Nat) (b : List Byte) : (s.putBytes a b).tier = s.tier := by
  induction b generalizing s a with
  | nil => rfl
  | cons x r ih => rw [State.putBytes, ih]; rfl
@[simp] theorem State.putBytes_fl (s : State) (a : Nat) (b : List Byte) : (s.putBytes a b).fl = s.fl := by
  induction b generalizing s a with
  | nil => rfl
  | cons x r ih => rw [State.putBytes, ih]; rfl
@[simp] theorem State.putBytes_work (s : State) (a : Nat) (b : List Byte) : (s.putBytes a b).work = s.work := by
  induction b generalizing s a with
  | nil => rfl
  | cons x r ih => rw [State.putBytes, ih]; rfl
@[simp] theorem State.putBytes_fails (s : State) (a : Nat) (b : List Byte) : (s.putBytes a b).fails = s.fails := by
  induction b generalizing s a with
  | nil => rfl
  | cons x r ih => rw [State.putBytes, ih]; rfl
@[simp] theorem State.putBytes_sel (s : State) (a : Nat) (b : List Byte) : (s.putBytes a b).sel = s.sel := by
  induction b generalizing s a with
  | nil => rfl
  | cons x r ih => rw [State.putBytes, ih]; rfl
@[simp] theorem State.putBytes_ls (s : State) (a : Nat) (b : List Byte) : (s.putBytes a b).ls = s.ls := by
  induction b generalizing s a with
  | nil => rfl
  | cons x r ih => rw [State.putBytes, ih]; rfl
@[simp] theorem State.putBytes_gw (s : State) (a : Nat) (b : List Byte) : (s.putBytes a b).gw = s.gw := by
  induction b generalizing s a with
  | nil => rfl
  | cons x r ih => rw [State.putBytes, ih]; rfl
@[simp] theorem State.putBytes_tbl (s : State) (a : Nat) (b : List Byte) : (s.putBytes a b).tbl = s.tbl := by
  induction b generalizing s a with
  | nil => rfl
  | cons x r ih => rw [State.putBytes, ih]; rfl
@[simp] theorem State.putBytes_txt (s : State) (a : Nat) (b : List Byte) : (s.putBytes a b).txt = s.txt := by
  induction b generalizing s a with
  | nil => rfl
  | cons x r ih => rw [State.putBytes, ih]; rfl
@[simp] theorem State.putBytes_sec (s : State) (a : Nat) (b : List Byte) : (s.putBytes a b).sec = s.sec := by
  induction b generalizing s a with
  | nil => rfl
  | cons x r ih => rw [State.putBytes, ih]; rfl
@[simp] theorem State.putBytes_mov (s : State) (a : Nat) (b : List Byte) : (s.putBytes a b).mov = s.mov := by
  induction b generalizing s a with
  | nil => rfl
  | cons x r ih => rw [State.putBytes, ih]; rfl
@[simp] theorem State.putBytes_epochs (s : State) (a : Nat) (b : List Byte) : (s.putBytes a b).epochs = s.epochs := by
  induction b generalizing s a with
  | nil => rfl
  | cons x r ih => rw [State.putBytes, ih]; rfl
@[simp] theorem State.putBytes_ctl (s : State) (a : Nat) (b : List Byte) : (s.putBytes a b).ctl = s.ctl := by
  induction b generalizing s a with
  | nil => rfl
  | cons x r ih => rw [State.putBytes, ih]; rfl
@[simp] theorem State.putNum_pending (s : State) (a n v : Nat) : (s.putNum a n v).pending = s.pending := by rw [State.putNum, State.putBytes_pending]
@[simp] theorem State.putNum_now (s : State) (a n v : Nat) : (s.putNum a n v).now = s.now := by rw [State.putNum, State.putBytes_now]
@[simp] theorem State.putNum_freeCtr (s : State) (a n v : Nat) : (s.putNum a n v).freeCtr = s.freeCtr := by rw [State.putNum, State.putBytes_freeCtr]
@[simp] theorem State.putNum_regs (s : State) (a n v : Nat) : (s.putNum a n v).regs = s.regs := by rw [State.putNum, State.putBytes_regs]
@[simp] theorem State.putNum_ecc (s : State) (a n v : Nat) : (s.putNum a n v).ecc = s.ecc := by rw [State.putNum, State.putBytes_ecc]
@[simp] theorem State.putNum_evt (s : State) (a n v : Nat) : (s.putNum a n v).evt = s.evt := by rw [State.putNum, State.putBytes_evt]
@[simp] theorem State.putNum_beat (s : State) (a n v : Nat) : (s.putNum a n v).beat = s.beat := by rw [State.putNum, State.putBytes_beat]
@[simp] theorem State.putNum_sko (s : State) (a n v : Nat) : (s.putNum a n v).sko = s.sko := by rw [State.putNum, State.putBytes_sko]
@[simp] theorem State.putNum_ts (s : State) (a n v : Nat) : (s.putNum a n v).ts = s.ts := by rw [State.putNum, State.putBytes_ts]
@[simp] theorem State.putNum_tel (s : State) (a n v : Nat) : (s.putNum a n v).tel = s.tel := by rw [State.putNum, State.putBytes_tel]
@[simp] theorem State.putNum_port (s : State) (a n v : Nat) : (s.putNum a n v).port = s.port := by rw [State.putNum, State.putBytes_port]
@[simp] theorem State.putNum_rings (s : State) (a n v : Nat) : (s.putNum a n v).rings = s.rings := by rw [State.putNum, State.putBytes_rings]
@[simp] theorem State.putNum_tiles (s : State) (a n v : Nat) : (s.putNum a n v).tiles = s.tiles := by rw [State.putNum, State.putBytes_tiles]
@[simp] theorem State.putNum_img (s : State) (a n v : Nat) : (s.putNum a n v).img = s.img := by rw [State.putNum, State.putBytes_img]
@[simp] theorem State.putNum_inl (s : State) (a n v : Nat) : (s.putNum a n v).inl = s.inl := by rw [State.putNum, State.putBytes_inl]
@[simp] theorem State.putNum_stk (s : State) (a n v : Nat) : (s.putNum a n v).stk = s.stk := by rw [State.putNum, State.putBytes_stk]
@[simp] theorem State.putNum_tier (s : State) (a n v : Nat) : (s.putNum a n v).tier = s.tier := by rw [State.putNum, State.putBytes_tier]
@[simp] theorem State.putNum_fl (s : State) (a n v : Nat) : (s.putNum a n v).fl = s.fl := by rw [State.putNum, State.putBytes_fl]
@[simp] theorem State.putNum_work (s : State) (a n v : Nat) : (s.putNum a n v).work = s.work := by rw [State.putNum, State.putBytes_work]
@[simp] theorem State.putNum_fails (s : State) (a n v : Nat) : (s.putNum a n v).fails = s.fails := by rw [State.putNum, State.putBytes_fails]
@[simp] theorem State.putNum_sel (s : State) (a n v : Nat) : (s.putNum a n v).sel = s.sel := by rw [State.putNum, State.putBytes_sel]
@[simp] theorem State.putNum_ls (s : State) (a n v : Nat) : (s.putNum a n v).ls = s.ls := by rw [State.putNum, State.putBytes_ls]
@[simp] theorem State.putNum_gw (s : State) (a n v : Nat) : (s.putNum a n v).gw = s.gw := by rw [State.putNum, State.putBytes_gw]
@[simp] theorem State.putNum_tbl (s : State) (a n v : Nat) : (s.putNum a n v).tbl = s.tbl := by rw [State.putNum, State.putBytes_tbl]
@[simp] theorem State.putNum_txt (s : State) (a n v : Nat) : (s.putNum a n v).txt = s.txt := by rw [State.putNum, State.putBytes_txt]
@[simp] theorem State.putNum_sec (s : State) (a n v : Nat) : (s.putNum a n v).sec = s.sec := by rw [State.putNum, State.putBytes_sec]
@[simp] theorem State.putNum_mov (s : State) (a n v : Nat) : (s.putNum a n v).mov = s.mov := by rw [State.putNum, State.putBytes_mov]
@[simp] theorem State.putNum_epochs (s : State) (a n v : Nat) : (s.putNum a n v).epochs = s.epochs := by rw [State.putNum, State.putBytes_epochs]
@[simp] theorem State.putNum_ctl (s : State) (a n v : Nat) : (s.putNum a n v).ctl = s.ctl := by rw [State.putNum, State.putBytes_ctl]

/-! `reach`. -/

@[simp] theorem State.reach_pending (s : State) (t : Nat) : (s.reach t).pending = s.pending := by rw [State.reach]; split <;> rfl
@[simp] theorem State.reach_freeCtr (s : State) (t : Nat) : (s.reach t).freeCtr = s.freeCtr := by rw [State.reach]; split <;> rfl
@[simp] theorem State.reach_mem (s : State) (t : Nat) : (s.reach t).mem = s.mem := by rw [State.reach]; split <;> rfl
@[simp] theorem State.reach_regs (s : State) (t : Nat) : (s.reach t).regs = s.regs := by rw [State.reach]; split <;> rfl
@[simp] theorem State.reach_ecc (s : State) (t : Nat) : (s.reach t).ecc = s.ecc := by rw [State.reach]; split <;> rfl
@[simp] theorem State.reach_evt (s : State) (t : Nat) : (s.reach t).evt = s.evt := by rw [State.reach]; split <;> rfl
@[simp] theorem State.reach_sko (s : State) (t : Nat) : (s.reach t).sko = s.sko := by rw [State.reach]; split <;> rfl
@[simp] theorem State.reach_ts (s : State) (t : Nat) : (s.reach t).ts = s.ts := by rw [State.reach]; split <;> rfl
@[simp] theorem State.reach_tel (s : State) (t : Nat) : (s.reach t).tel = s.tel := by rw [State.reach]; split <;> rfl
@[simp] theorem State.reach_port (s : State) (t : Nat) : (s.reach t).port = s.port := by rw [State.reach]; split <;> rfl
@[simp] theorem State.reach_rings (s : State) (t : Nat) : (s.reach t).rings = s.rings := by rw [State.reach]; split <;> rfl
@[simp] theorem State.reach_tiles (s : State) (t : Nat) : (s.reach t).tiles = s.tiles := by rw [State.reach]; split <;> rfl
@[simp] theorem State.reach_img (s : State) (t : Nat) : (s.reach t).img = s.img := by rw [State.reach]; split <;> rfl
@[simp] theorem State.reach_inl (s : State) (t : Nat) : (s.reach t).inl = s.inl := by rw [State.reach]; split <;> rfl
@[simp] theorem State.reach_stk (s : State) (t : Nat) : (s.reach t).stk = s.stk := by rw [State.reach]; split <;> rfl
@[simp] theorem State.reach_tier (s : State) (t : Nat) : (s.reach t).tier = s.tier := by rw [State.reach]; split <;> rfl
@[simp] theorem State.reach_fl (s : State) (t : Nat) : (s.reach t).fl = s.fl := by rw [State.reach]; split <;> rfl
@[simp] theorem State.reach_work (s : State) (t : Nat) : (s.reach t).work = s.work := by rw [State.reach]; split <;> rfl
@[simp] theorem State.reach_fails (s : State) (t : Nat) : (s.reach t).fails = s.fails := by rw [State.reach]; split <;> rfl
@[simp] theorem State.reach_sel (s : State) (t : Nat) : (s.reach t).sel = s.sel := by rw [State.reach]; split <;> rfl
@[simp] theorem State.reach_ls (s : State) (t : Nat) : (s.reach t).ls = s.ls := by rw [State.reach]; split <;> rfl
@[simp] theorem State.reach_gw (s : State) (t : Nat) : (s.reach t).gw = s.gw := by rw [State.reach]; split <;> rfl
@[simp] theorem State.reach_tbl (s : State) (t : Nat) : (s.reach t).tbl = s.tbl := by rw [State.reach]; split <;> rfl
@[simp] theorem State.reach_txt (s : State) (t : Nat) : (s.reach t).txt = s.txt := by rw [State.reach]; split <;> rfl
@[simp] theorem State.reach_sec (s : State) (t : Nat) : (s.reach t).sec = s.sec := by rw [State.reach]; split <;> rfl
@[simp] theorem State.reach_mov (s : State) (t : Nat) : (s.reach t).mov = s.mov := by rw [State.reach]; split <;> rfl
@[simp] theorem State.reach_epochs (s : State) (t : Nat) : (s.reach t).epochs = s.epochs := by rw [State.reach]; split <;> rfl
@[simp] theorem State.reach_ctl (s : State) (t : Nat) : (s.reach t).ctl = s.ctl := by rw [State.reach]; split <;> rfl

/-- Real time never goes back. -/
theorem State.now_le_reach (s : State) (t : Nat) : s.now ≤ (s.reach t).now := by
  rw [State.reach]; split
  · omega
  · show s.now ≤ t; omega

/-- Real time is the instant that has been reached, if it was not past. -/
theorem State.reach_now (s : State) (t : Nat) : (s.reach t).now = max s.now t := by
  rw [State.reach]; split
  · omega
  · show t = max s.now t; omega

/-! Registers. -/

/-- A write of a register leaves every other register as it was. -/
theorem State.reg_setReg_other (s : State) (o p : Nat) (v : Word) (h : p ≠ o) : (s.setReg o v).reg p = s.reg p :=
  smGet_smPut_other regReset s.regs o p v h

/-- A register reads as it was written, in a state whose register store is in its canonical form. -/
theorem State.reg_setReg_same (s : State) (o : Nat) (v : Word) (h : smWf regReset s.regs = true) : (s.setReg o v).reg o = v :=
  smGet_smPut_same regReset s.regs 0 o v h

/-- A field set in a register leaves every other register as it was. -/
theorem State.reg_set_other (s : State) (f : RegField) (v p : Nat) (h : p ≠ f.off) : (s.set f v).reg p = s.reg p :=
  State.reg_setReg_other s f.off p _ h

/-- A field set in a register leaves the fields of every other register as they were. -/
theorem State.get_set_other (s : State) (f g : RegField) (v : Nat) (h : g.off ≠ f.off) : (s.set f v).get g = s.get g := by
  rw [State.get, State.get, State.reg_set_other s f v g.off h]

/-- A write of a register keeps the canonical form of the register store. -/
theorem State.regs_wf_setReg (s : State) (o : Nat) (v : Word) (h : smWf regReset s.regs = true) :
    smWf regReset (s.setReg o v).regs = true := smWf_smPut regReset s.regs o v h

/-- A field reads as it was set, modulo its width. -/
theorem State.get_set_same (s : State) (f : RegField) (v : Nat) (h : smWf regReset s.regs = true) (hf : f.lo + f.w ≤ 64) :
    (s.set f v).get f = v % 2 ^ f.w := by
  rw [State.get, State.set, State.reg_setReg_same s f.off _ h, BitVec.toNat_ofNat, bitsAt, Nat.shiftRight_eq_div_pow]
  have e : ∀ y : Nat, y / 2 ^ f.lo % 2 ^ f.w = y % 2 ^ (f.lo + f.w) / 2 ^ f.lo := by
    intro y; rw [Nat.pow_add, Nat.mod_mul_right_div_self]
  rw [e, Nat.mod_mod_of_dvd _ (Nat.pow_dvd_pow 2 hf), ← e]
  have := bitsAt_setBitsAt (s.reg f.off).toNat f.lo f.w v
  rwa [bitsAt, Nat.shiftRight_eq_div_pow] at this

/-! What a command answers. -/

/-- The end of a command in a state that has nothing to report. -/
theorem State.done_quiet (s t : State) (h : t.evt.quiet = true) : s.done t = { t with pending := s.pending } := by
  rw [State.done, State.postAll, if_pos h]

/-- The end of a command that leaves the state as it was, with nothing to report. -/
theorem State.done_self (s : State) (h : s.evt.quiet = true) : s.done s = s := State.done_quiet s s h

/-- A command on a unit that the part has. -/
theorem onUnit_true (s : State) : onUnit true s = .next s := rfl

/-- A command on a unit that the part has not. -/
theorem onUnit_false (s : State) : onUnit false s = .fault .noSuchUnit := rfl

/-- A node that runs does what the command says, and its events are reported. -/
theorem State.live_next (s t : State) (h : s.dead = false) : s.live (.next t) = .next (s.done t) := by
  rw [State.live, h]; rfl

/-- A held node does nothing. -/
theorem State.live_dead (s : State) (r : Res) (h : s.dead = true) : s.live r = .next s := by rw [State.live, h]; rfl

end Sys2Proof.Machine
end

