-- ==== Sys2Proof/Laws/Events.lean ====
section
/-! SUPPORT. Laws of agreement in all parts but some, and what the end of a command, which reports its events, may change. -/

namespace Sys2Proof.Machine

/-! Agreement in all parts but some. -/

theorem State.sameBut_refl (xs : List Part) (s : State) : s.sameBut xs s := by
  intro p _; cases p <;> rfl

theorem State.agree_trans {s t u : State} {p : Part} (h : s.agree t p) (g : t.agree u p) : s.agree u p := by
  cases p <;> exact Eq.trans h g

theorem State.sameBut_trans {xs : List Part} {s t u : State} (h : s.sameBut xs t) (g : t.sameBut xs u) : s.sameBut xs u :=
  fun p hp => State.agree_trans (h p hp) (g p hp)

theorem State.sameBut_mono {xs ys : List Part} {s t : State} (h : s.sameBut xs t) (hs : ∀ p, p ∈ xs → p ∈ ys) : s.sameBut ys t :=
  fun p hp => h p fun hx => hp (hs p hx)

theorem State.sameBut_foldl {α : Type} {xs : List Part} (f : State → α → State) (h : ∀ (s : State) (a : α), s.sameBut xs (f s a)) (l : List α) :
    ∀ s : State, s.sameBut xs (l.foldl f s) := by
  induction l with
  | nil => exact fun s => State.sameBut_refl xs s
  | cons a r ih => exact fun s => State.sameBut_trans (h s a) (ih (f s a))

/-! Updates of one part. -/

theorem State.sameBut_setReg (s : State) (o : Nat) (v : Word) : s.sameBut [.regs] (s.setReg o v) := by
  intro p hp; cases p <;> first | rfl | simp at hp

theorem State.sameBut_set (s : State) (f : RegField) (v : Nat) : s.sameBut [.regs] (s.set f v) :=
  State.sameBut_setReg s _ _

theorem State.sameBut_bump (s : State) (f : RegField) (n : Nat) : s.sameBut [.regs] (s.bump f n) :=
  State.sameBut_setReg s _ _

theorem State.sameBut_setBit (s : State) (f : RegField) (b : Bool) : s.sameBut [.regs] (s.setBit f b) :=
  State.sameBut_setReg s _ _

theorem State.sameBut_evt (s : State) (x : EvtSt) : s.sameBut [.evt] { s with evt := x } := by
  intro p hp; cases p <;> first | rfl | simp at hp

theorem State.sameBut_sko (s : State) (x : SkoSt) : s.sameBut [.sko] { s with sko := x } := by
  intro p hp; cases p <;> first | rfl | simp at hp

theorem State.sameBut_ts (s : State) (x : TsSt) : s.sameBut [.ts] { s with ts := x } := by
  intro p hp; cases p <;> first | rfl | simp at hp

theorem State.sameBut_pending (s : State) (x : List Instr) : s.sameBut [.pending] { s with pending := x } := by
  intro p hp; cases p <;> first | rfl | simp at hp

theorem State.sameBut_reach (s : State) (t : Nat) : s.sameBut [.now, .beat] (s.reach t) := by
  intro p hp; cases p <;> first | (simp [State.agree]; done) | simp at hp

/-- What raising an event changes: the event unit alone. -/
theorem State.sameBut_raise (s : State) (code source : Nat) (items : List Nat) : s.sameBut [.evt] (s.raise code source items) := by
  intro p hp; cases p <;> first | (simp [State.agree]; done) | simp at hp

/-! What the report of an event changes (R470, R472): only the parts of `reports`. -/

theorem reports_of {xs : List Part} {s t : State} (h : s.sameBut xs t) (hs : ∀ p, p ∈ xs → p ∈ reports := by decide) :
    s.sameBut reports t := State.sameBut_mono h hs

theorem State.enqueue_frame (s : State) (c : Nat) (b : TxBody) (w : Nat) : s.sameBut reports (s.enqueue c b w) :=
  reports_of (State.sameBut_ts s _)

theorem State.releaseOne_frame (s : State) (k : Nat) (c : TxConn) (p : Packet) (r : List Packet) :
    s.sameBut reports (s.releaseOne k c p r) := by
  have key : ∀ u : State, s.sameBut reports u → ∀ b : Bool,
      s.sameBut reports (if b then (u.bump F.SKO_CNT_TX_PACKETS 1).bump F.SKO_CNT_REL_RETX 1 else u.bump F.SKO_CNT_TX_PACKETS 1) := by
    intro u hu b
    have h1 := State.sameBut_trans hu (reports_of (State.sameBut_bump u F.SKO_CNT_TX_PACKETS 1))
    cases b
    · exact h1
    · exact State.sameBut_trans h1 (reports_of (State.sameBut_bump _ F.SKO_CNT_REL_RETX 1))
  exact key _ (State.sameBut_trans (reports_of (State.sameBut_sko s _)) (State.enqueue_frame _ _ _ _)) p.retx

theorem State.pump_frame (s : State) (k : Nat) : s.sameBut reports (s.pump k) := by
  unfold State.pump
  dsimp only
  split
  · exact State.sameBut_refl _ _
  · split
    · exact State.releaseOne_frame _ _ _ _ _
    · exact State.sameBut_refl _ _

theorem State.sendTo_frame (s : State) (o : OutOp) (d : Nat) : s.sameBut reports (s.sendTo o d) :=
  State.sameBut_trans (State.sameBut_trans (reports_of (State.sameBut_sko s _)) (State.pump_frame _ _))
    (reports_of (State.sameBut_set _ _ _))

theorem State.launch_frame (s : State) (o : OutOp) : s.sameBut reports (s.launch o) := by
  unfold State.launch
  split
  · exact State.sendTo_frame _ _ _
  · exact State.sameBut_trans (reports_of (State.sameBut_sko s _)) (State.sendTo_frame _ _ _)

theorem State.launchList_frame (l : List OutOp) : ∀ (s : State) (k : List OutOp), s.sameBut reports (s.launchList k l).1 := by
  induction l with
  | nil => exact fun s _ => State.sameBut_refl _ s
  | cons o r ih =>
    intro s k
    unfold State.launchList
    split
    · exact ih _ _
    · exact State.sameBut_trans (State.launch_frame _ _) (ih _ _)

theorem State.settleFlags_frame (s : State) : s.sameBut reports s.settleFlags := by
  unfold State.settleFlags
  split
  · exact State.sameBut_refl _ _
  · exact State.sameBut_trans (State.launchList_frame _ _ _) (reports_of (State.sameBut_sko _ _))

theorem State.tellIssuer_frame (s : State) (o : OutOp) (code : Nat) (data : List Byte) :
    s.sameBut reports (s.tellIssuer o code data) := by
  unfold State.tellIssuer
  split
  · dsimp only
    split
    · exact reports_of (State.sameBut_evt s _)
    · exact State.sameBut_trans (reports_of (State.sameBut_evt s _)) (reports_of (State.sameBut_bump _ _ _))
  · split
    · exact State.sameBut_refl _ _
    · exact reports_of (State.sameBut_sko s _)

theorem State.opDone_frame (s : State) (o : OutOp) (code : Nat) (data : List Byte) : s.sameBut reports (s.opDone o code data) :=
  State.sameBut_trans (State.sameBut_trans (reports_of (State.sameBut_sko s _)) (State.tellIssuer_frame _ _ _ _))
    (State.settleFlags_frame _)

theorem State.issueTo_frame (s : State) (o : OutOp) : s.sameBut reports (s.issueTo o) := by
  unfold State.issueTo
  split
  · exact reports_of (State.sameBut_sko s _)
  · split
    · exact reports_of (State.sameBut_sko s _)
    · exact State.launch_frame _ _

theorem State.issueOp_frame (s : State) (o : OutOp) : s.sameBut reports (s.issueOp o) := by
  have h : s.sameBut reports (s.numbered o).2 := reports_of (State.sameBut_sko s _)
  unfold State.issueOp
  dsimp only
  split
  · exact State.sameBut_trans h (State.opDone_frame _ _ _ _)
  · exact State.sameBut_trans h (State.issueTo_frame _ _)

theorem State.sendEvent_frame (s : State) (e : EventRec) (d : Nat) : s.sameBut reports (s.sendEvent e d) := by
  unfold State.sendEvent
  split
  · dsimp only
    split
    · exact reports_of (State.sameBut_bump _ _ _)
    · exact State.sameBut_trans (reports_of (State.sameBut_evt s _)) (State.issueOp_frame _ _)
  · exact State.sameBut_refl _ _

theorem State.post_frame (s : State) (x : Fresh) : s.sameBut reports (s.post x) :=
  State.sameBut_trans (State.sameBut_trans (reports_of (State.sameBut_evt s _)) (reports_of (State.sameBut_set _ _ _)))
    (State.sameBut_foldl _ (fun t d => State.sendEvent_frame t _ d) _ _)

/-- The report of what has been raised changes only the parts of `reports`. -/
theorem State.postAll_frame (s : State) : s.sameBut reports s.postAll := by
  unfold State.postAll
  split
  · exact State.sameBut_refl _ _
  · exact State.sameBut_trans (State.sameBut_foldl _ (fun t x => State.post_frame t x) _ s) (reports_of (State.sameBut_evt _ _))

/-- The end of a command: what it did, and the report of its events. -/
theorem State.done_frame {xs : List Part} {s t : State} (h : s.sameBut xs t) : s.sameBut (xs ++ reports) (s.done t) := by
  intro p hp
  rw [List.mem_append, not_or] at hp
  by_cases e : p = .pending
  · subst e; exact rfl
  · refine State.agree_trans (State.agree_trans (h p hp.1) (State.postAll_frame t p hp.2)) ?_
    exact State.sameBut_pending _ _ p (by simpa using e)

/-- After a command nothing is left to report. -/
theorem State.done_reports (s t : State) : (s.done t).evt.quiet = true := by
  unfold State.done State.postAll
  split
  · assumption
  · rfl

/-- A frame of what a command does is a frame of the command, in a node that runs and in one that is held. -/
theorem State.live_frame {xs : List Part} {s t u : State} (h : s.sameBut xs u) (e : s.live (.next u) = .next t) :
    s.sameBut (xs ++ reports) t := by
  unfold State.live at e
  split at e
  · cases e; exact State.sameBut_refl _ _
  · cases e; exact State.done_frame h

end Sys2Proof.Machine
end

