-- ==== Sys2Proof/Laws/Extent.lean ====
section
/-! SUPPORT. Laws of byte strings with fields at offsets, and of extents: an extent reads back as the page it was written from (R185 to R187). -/

namespace Sys2Proof.Machine

/-- A field of a byte string lies in its front part, if the part is long enough. -/
theorem at_append_left (a b : List Byte) (o n : Nat) (h : o + n ≤ a.length) : at_ (a ++ b) o n = at_ a o n := by
  rw [at_, at_, List.drop_append_of_le_length (by omega), List.take_append_of_le_length (by rw [List.length_drop]; omega)]

/-- A field of a byte string lies in its rear part, if it stands behind the front part. -/
theorem at_append_right (a b : List Byte) (o n : Nat) (h : a.length ≤ o) : at_ (a ++ b) o n = at_ b (o - a.length) n := by
  rw [at_, at_, List.drop_append, List.drop_eq_nil_of_le h, List.nil_append]

/-- A number at the front of a byte string reads as it was written (R12). -/
theorem at_leBytes (n v : Nat) (b : List Byte) : at_ (leBytes n v ++ b) 0 n = v % 256 ^ n := by
  rw [at_, List.drop_zero, List.take_append_of_le_length (by rw [length_leBytes]), List.take_of_length_le (by rw [length_leBytes]),
    leNat_leBytes]

/-- A byte string padded to a length that it has not passed keeps its own bytes in front. -/
theorem padTo_eq (n : Nat) (b : List Byte) (h : b.length ≤ n) : padTo n b = b ++ zeros (n - b.length) := by
  rw [padTo, List.take_of_length_le]; rw [List.length_append, zeros, List.length_replicate]; omega

/-- A CRC of 32 bits is below 2^32. -/
theorem crc32c_lt (b : List Byte) : crc32c b < 2 ^ 32 := by
  rw [crc32c, crcResult]; exact Nat.mod_lt _ (by decide)

/-- The header of an extent before its own check value (R185). -/
def extentHead (page epoch seq fmt n c : Nat) : List Byte :=
  pageMagic ++ leBytes 1 fmt ++ zeros 1 ++ leBytes 2 (extentBlocks n) ++ leBytes 4 page ++ leBytes 4 n ++ leBytes 4 epoch ++ zeros 4 ++
    leBytes 8 seq ++ leBytes 4 c ++ zeros 24

theorem extentHead_length (page epoch seq fmt n c : Nat) : (extentHead page epoch seq fmt n c).length = 60 := by
  simp [extentHead, pageMagic, zeros]

theorem extentHead_magic (page epoch seq fmt n c : Nat) : (extentHead page epoch seq fmt n c).take 4 = pageMagic := by
  simp [extentHead, pageMagic, zeros]

theorem extentHead_fmt (page epoch seq fmt n c : Nat) : at_ (extentHead page epoch seq fmt n c) 4 1 = fmt % 256 := by
  have := at_leBytes 1 fmt (zeros 1 ++ leBytes 2 (extentBlocks n) ++ leBytes 4 page ++ leBytes 4 n ++ leBytes 4 epoch ++ zeros 4 ++
    leBytes 8 seq ++ leBytes 4 c ++ zeros 24)
  rw [show fmt % 256 = fmt % 256 ^ 1 by norm_num, ← this, extentHead]; simp only [List.append_assoc]
  exact at_append_right pageMagic _ 4 1 (by decide)

theorem extentHead_page (page epoch seq fmt n c : Nat) : at_ (extentHead page epoch seq fmt n c) 8 4 = page % 2 ^ 32 := by
  have e : extentHead page epoch seq fmt n c = (pageMagic ++ leBytes 1 fmt ++ zeros 1 ++ leBytes 2 (extentBlocks n)) ++
    (leBytes 4 page ++ (leBytes 4 n ++ leBytes 4 epoch ++ zeros 4 ++ leBytes 8 seq ++ leBytes 4 c ++ zeros 24)) := by
    simp only [extentHead, List.append_assoc]
  rw [e, at_append_right _ _ _ _ (by simp [pageMagic, zeros])]
  have : 8 - (pageMagic ++ leBytes 1 fmt ++ zeros 1 ++ leBytes 2 (extentBlocks n)).length = 0 := by simp [pageMagic, zeros]
  rw [this, at_leBytes]; norm_num

theorem extentHead_len (page epoch seq fmt n c : Nat) : at_ (extentHead page epoch seq fmt n c) 12 4 = n % 2 ^ 32 := by
  have e : extentHead page epoch seq fmt n c = (pageMagic ++ leBytes 1 fmt ++ zeros 1 ++ leBytes 2 (extentBlocks n) ++ leBytes 4 page) ++
    (leBytes 4 n ++ (leBytes 4 epoch ++ zeros 4 ++ leBytes 8 seq ++ leBytes 4 c ++ zeros 24)) := by
    simp only [extentHead, List.append_assoc]
  rw [e, at_append_right _ _ _ _ (by simp [pageMagic, zeros])]
  have : 12 - (pageMagic ++ leBytes 1 fmt ++ zeros 1 ++ leBytes 2 (extentBlocks n) ++ leBytes 4 page).length = 0 := by
    simp [pageMagic, zeros]
  rw [this, at_leBytes]; norm_num

theorem extentHead_crc (page epoch seq fmt n c : Nat) : at_ (extentHead page epoch seq fmt n c) 32 4 = c % 2 ^ 32 := by
  have e : extentHead page epoch seq fmt n c = (pageMagic ++ leBytes 1 fmt ++ zeros 1 ++ leBytes 2 (extentBlocks n) ++ leBytes 4 page ++
    leBytes 4 n ++ leBytes 4 epoch ++ zeros 4 ++ leBytes 8 seq) ++ (leBytes 4 c ++ zeros 24) := by
    simp only [extentHead, List.append_assoc]
  rw [e, at_append_right _ _ _ _ (by simp [pageMagic, zeros])]
  have : 32 - (pageMagic ++ leBytes 1 fmt ++ zeros 1 ++ leBytes 2 (extentBlocks n) ++ leBytes 4 page ++
    leBytes 4 n ++ leBytes 4 epoch ++ zeros 4 ++ leBytes 8 seq).length = 0 := by simp [pageMagic, zeros]
  rw [this, at_leBytes]; norm_num

/-- An extent reads back as the page that it was written from: its header is well formed and its payload decodes to the page. -/
theorem decodeExtent_extentBytes (page epoch seq fmt : Nat) (d p : List Byte) (hp : page < 2 ^ 32) (hf : fmt < 256)
    (hn : p.length < 2 ^ 32) (hd : d.length = 65536) (h : decodePayload fmt p.length p = some d) :
    decodeExtent page (extentBytes page epoch seq fmt d p) = some d := by
  have hc := crc32c_lt d
  generalize hC : crc32c d = c at hc
  have hH := crc32c_lt (extentHead page epoch seq fmt p.length c)
  generalize hh : crc32c (extentHead page epoch seq fmt p.length c) = x at hH
  have e : extentBytes page epoch seq fmt d p = padTo (4096 * extentBlocks p.length) (extentHead page epoch seq fmt p.length c ++
      leBytes 4 x ++ p) := by
    rw [← hh, extentBytes, hC]; rfl
  have hl := extentHead_length page epoch seq fmt p.length c
  have hb : 64 + p.length ≤ 4096 * extentBlocks p.length := by rw [extentBlocks]; omega
  have hlen : (extentHead page epoch seq fmt p.length c ++ leBytes 4 x ++ p).length = 64 + p.length := by
    rw [List.length_append, List.length_append, hl, length_leBytes]
  rw [padTo_eq _ _ (by omega)] at e
  have e2 : extentBytes page epoch seq fmt d p = extentHead page epoch seq fmt p.length c ++ (leBytes 4 x ++ (p ++
      zeros (4096 * extentBlocks p.length - (extentHead page epoch seq fmt p.length c ++ leBytes 4 x ++ p).length))) := by
    rw [e]; simp only [List.append_assoc]
  generalize hz : zeros (4096 * extentBlocks p.length - (extentHead page epoch seq fmt p.length c ++ leBytes 4 x ++ p).length) = z at e2
  rw [decodeExtent, e2]
  have f1 : ∀ o n, o + n ≤ 60 → at_ (extentHead page epoch seq fmt p.length c ++ (leBytes 4 x ++ (p ++ z))) o n =
      at_ (extentHead page epoch seq fmt p.length c) o n := fun o n ho => at_append_left _ _ _ _ (by omega)
  have t4 : (extentHead page epoch seq fmt p.length c ++ (leBytes 4 x ++ (p ++ z))).take 4 = pageMagic := by
    rw [List.take_append_of_le_length (by omega), extentHead_magic]
  have t60 : (extentHead page epoch seq fmt p.length c ++ (leBytes 4 x ++ (p ++ z))).take 60 = extentHead page epoch seq fmt p.length c := by
    rw [List.take_append_of_le_length (by omega), List.take_of_length_le (by omega)]
  have a60 : at_ (extentHead page epoch seq fmt p.length c ++ (leBytes 4 x ++ (p ++ z))) 60 4 = x := by
    rw [at_append_right _ _ _ _ (by omega), hl, at_leBytes]; omega
  have body : ((extentHead page epoch seq fmt p.length c ++ (leBytes 4 x ++ (p ++ z))).drop 64).take p.length = p := by
    rw [List.drop_append, List.drop_eq_nil_of_le (by omega), hl, List.nil_append, List.drop_append, length_leBytes,
      List.drop_eq_nil_of_le (by rw [length_leBytes]), List.nil_append, List.drop_zero, List.take_append_of_le_length (by omega),
      List.take_of_length_le (by omega)]
  rw [f1 8 4 (by omega), f1 4 1 (by omega), f1 12 4 (by omega), f1 32 4 (by omega), t4, t60, a60, extentHead_page, extentHead_fmt,
    extentHead_len, extentHead_crc, Nat.mod_eq_of_lt hp, Nat.mod_eq_of_lt hf, Nat.mod_eq_of_lt hn, body, h, if_pos ⟨rfl, hh.symm, rfl⟩]
  dsimp only
  rw [if_pos ⟨hd, by rw [hC]; omega⟩]

/-- The payload of a page of zeros under ZSEG (R186). -/
theorem zsegFill_zeros (n i : Nat) : zsegFill (zeros 32) [] n i = zeros (256 * n) := by
  induction n generalizing i with
  | zero => rfl
  | succ n ih =>
    have : at_ (zeros 32) (i / 8) 1 / 2 ^ (i % 8) % 2 = 0 := by
      have z : ∀ k, at_ (zeros 32) k 1 = 0 := by
        intro k
        by_cases hk : k < 32
        · revert k; decide
        · rw [at_, List.drop_eq_nil_of_le (by simp [zeros]; omega)]; rfl
      rw [z]; simp
    rw [zsegFill, this, if_neg (by decide), ih, zeros, zeros, zeros, List.replicate_append_replicate]
    congr 1; omega

end Sys2Proof.Machine
end

