-- ==== Sys2Proof/Laws/Memory.lean ====
section
/-! SUPPORT. Laws of memory: every operation keeps its canonical form, and what a byte reads as after a write. -/

namespace Sys2Proof.Machine

/-- Memory is in its canonical form at reset. -/
theorem State.reset_mem_wf : Memory.wf State.reset.mem := rfl

/-- A byte written keeps the canonical form. -/
theorem State.putByte_wf (s : State) (a : Nat) (b : Byte) (h : Memory.wf s.mem) : Memory.wf (s.putByte a b).mem :=
  smWf_smPut memDefault s.mem a b h

/-- Bytes written keep the canonical form. -/
theorem State.putBytes_wf (s : State) (a : Nat) (b : List Byte) (h : Memory.wf s.mem) : Memory.wf (s.putBytes a b).mem := by
  induction b generalizing s a with
  | nil => exact h
  | cons x r ih => exact ih _ _ (State.putByte_wf s a x h)

/-- A number written keeps the canonical form. -/
theorem State.putNum_wf (s : State) (a n v : Nat) (h : Memory.wf s.mem) : Memory.wf (s.putNum a n v).mem :=
  State.putBytes_wf s a _ h

/-- Bytes zeroed keep the canonical form. -/
theorem State.zeroBytes_wf (s : State) (a n : Nat) (h : Memory.wf s.mem) : Memory.wf (s.zeroBytes a n).mem :=
  smWfFrom_filter memDefault s.mem _ 0 h

/-- A byte reads as it was written. -/
theorem State.byte_putByte_same (s : State) (a : Nat) (b : Byte) (h : Memory.wf s.mem) : (s.putByte a b).byte a = b :=
  smGet_smPut_same memDefault s.mem 0 a b h

/-- A byte written leaves every other byte as it was. -/
theorem State.byte_putByte_other (s : State) (a c : Nat) (b : Byte) (h : c ≠ a) : (s.putByte a b).byte c = s.byte c :=
  smGet_smPut_other memDefault s.mem a c b h

/-- Bytes written leave every byte outside them as it was. -/
theorem State.byte_putBytes_other (s : State) (a c : Nat) (b : List Byte) (h : c < a ∨ a + b.length ≤ c) :
    (s.putBytes a b).byte c = s.byte c := by
  induction b generalizing s a with
  | nil => rfl
  | cons x r ih =>
    rw [List.length_cons] at h
    rw [State.putBytes, ih _ _ (by omega), State.byte_putByte_other _ _ _ _ (by omega)]

/-- A number written leaves every byte outside it as it was. -/
theorem State.byte_putNum_other (s : State) (a n v c : Nat) (h : c < a ∨ a + n ≤ c) : (s.putNum a n v).byte c = s.byte c :=
  State.byte_putBytes_other s a c _ (by rwa [length_leBytes])

/-- Bytes read from a place are those written there. -/
theorem State.bytes_putBytes_same (s : State) (a : Nat) (b : List Byte) (h : Memory.wf s.mem) :
    (s.putBytes a b).bytes a b.length = b := by
  induction b generalizing s a with
  | nil => rfl
  | cons x r ih =>
    have g : ((s.putByte a x).putBytes (a + 1) r).byte a = x := by
      rw [State.byte_putBytes_other _ _ _ _ (by omega), State.byte_putByte_same s a x h]
    rw [List.length_cons, State.bytes, State.putBytes, g, ih _ _ (State.putByte_wf s a x h)]

/-- A number reads as it was written, modulo its width (R12). -/
theorem State.num_putNum_same (s : State) (a n v : Nat) (h : Memory.wf s.mem) : (s.putNum a n v).num a n = v % 256 ^ n := by
  have := State.bytes_putBytes_same s a (leBytes n v) h
  rw [length_leBytes] at this
  rw [State.num, State.putNum, this, leNat_leBytes]

/-- States with one memory read the same bytes. -/
theorem State.bytes_congr (s t : State) (h : t.mem = s.mem) (a n : Nat) : t.bytes a n = s.bytes a n := by
  induction n generalizing a with
  | zero => rfl
  | succ n ih => rw [State.bytes, State.bytes, ih, State.byte, State.byte, h]

/-- States with one memory read the same numbers. -/
theorem State.num_congr (s t : State) (h : t.mem = s.mem) (a n : Nat) : t.num a n = s.num a n := by
  rw [State.num, State.num, State.bytes_congr s t h]

end Sys2Proof.Machine
end

