-- ==== Sys2Proof/Tests/Slice0.lean ====
section
/-! SUPPORT. Tests of the model, on small states: what each check of WellFormed refuses, single commands against the spec's own words and
numbers, and, for every statement with hypotheses, states and operands that meet them. -/

open Sys2Proof Sys2Proof.Machine

-- one theorem at a time: each evaluates a state in the kernel
set_option Elab.async false

/-- A state with its beat unit as given. -/
def withBeat (b : BeatSt) : State := { State.reset with beat := b }

/-- A ring of 4 KiB of bench memory at offset 0, with its words at 4096 and 4104. -/
def oneRing (r : RingSt) (tail head : Nat) : State :=
  ((State.reset.setRing 5 r).putNum r.tailAddr 8 tail).putNum r.headAddr 8 head

/-- A plain ring. -/
def plainRing : RingSt := { base := 0, size := 4096 }

/-- An operand slot of a descriptor. -/
def slotB (addr fmt mode sc kind : Nat) : List Byte :=
  leBytes 6 addr ++ leBytes 1 fmt ++ leBytes 1 mode ++ leBytes 6 sc ++ leBytes 1 kind ++ [0]

/-- A descriptor with LAST set and one output credit. -/
def descB (op subop : Nat) (slots : List (List Byte)) (pars : List Nat) : List Byte :=
  leBytes 1 op ++ [1, 0, 0, 0, 0, 1, 0] ++ leBytes 4 subop ++ [0, 0, 0, 0] ++ slots.flatten ++ pars.flatMap (leBytes 4)

/-- FP32 operands in bench memory; slot 3 is used where `v` is 1. -/
def slotsB (v : Nat) : List (List Byte) :=
  [slotB 0x1000 0x0C 1 0 0, slotB 0x2000 0x0C 1 0 0, slotB 0x3000 0x0C 1 0x3800 1, slotB 0x4000 0x0C (if v = 1 then 1 else 3) 0x4800 0]

/-- A chain on ring 5 of tile 0, at its first descriptor. -/
def chain0 : Chain := { ring := 5, pos := 0, len := 0x200, ty := 0x80, reqId := 1, src := 2, cls := 1, tenant := 1 }

/-- Tile 0 runs a chain whose first descriptor is given. -/
def tileRun (d : List Byte) : State :=
  ({ State.reset with tiles := [(0, { chain := some chain0 })] }.setRing 5 { base := 0, size := 4096, ownerKind := 1 }).putBytes 0x3C0040 d

/-- Unit 255 of stack 0, BUSY with a packet at its head. -/
def busyUnit (b : List Byte) : State :=
  ({ State.reset with inl := [(255, { cmds := [.packet { bytes := b }] })] }).set (F.INL_UNIT_STATUS_STATE 0 255) US_BUSY

/-- A scoring packet of one query and one slot (R158). -/
def scoreB (op sub m : Nat) : List Byte :=
  leBytes 1 op ++ leBytes 1 sub ++ leBytes 2 2 ++ leBytes 4 7 ++ leBytes 4 0 ++ leBytes 4 1 ++ leBytes 1 m ++ [0, 1, 0, 0, 0, 0, 0] ++
    leBytes 4 0 ++ leBytes 4 0xFFFFFFFF ++ zeros 96

/-- A row command on a U8 row of 32 elements (R281). -/
def rowB (op sub len count form : Nat) (rest : List Byte) : List Byte :=
  padTo (64 * len) (leBytes 1 op ++ leBytes 1 sub ++ leBytes 2 len ++ leBytes 4 7 ++ leBytes 4 0 ++ leBytes 4 count ++ leBytes 2 32 ++
    leBytes 1 1 ++ leBytes 1 form ++ leBytes 4 0 ++ rest)

/-- A message of request 9 of node 3 (R398). -/
def msgB (ty : Nat) (payload : List Byte) : List Byte :=
  [0] ++ leBytes 1 ty ++ [1, 1, 0, 0, 0, 0] ++ leBytes 8 9 ++ zeros 6 ++ leBytes 2 3 ++ leBytes 4 payload.length ++ zeros 4 ++ payload

/-- A message stands at the head of ring 8191, which an engine of the node owns. -/
def withMsg (s : State) (unit : Nat) (m : List Byte) : State :=
  let r : RingSt := { base := 0, size := 4096, ownerKind := 2, owner := unit }
  ((s.setRing 8191 r).putNum r.tailAddr 8 (roundUp m.length 64)).putBytes 0 m

/-- The ring has a request of a TYPE at its head, and this is the request. -/
def reqAt (s : State) (unit ty : Nat) (m : List Byte) (p : Req → Bool) : Bool :=
  match s.headReq 8191 unit ty with
  | some (m', r) => m' == m && p r
  | none => false

/-! Registers, rings and the beat. -/

theorem wit_RegisterWriteTakesEffect : State.reset.dead = false ∧ Reg.BEAT_CFG % 8 = 0 ∧ inControlRange Reg.BEAT_CFG = true ∧
    (findReg (canonOff Reg.BEAT_CFG)).isSome = true ∧ State.reset.absentReg (canonOff Reg.BEAT_CFG) = false ∧
    (State.reset.vet (canonOff Reg.BEAT_CFG) (State.reset.reg Reg.BEAT_CFG).toNat (State.reset.reg Reg.BEAT_CFG).toNat).isSome = true := by
  decide +kernel

theorem wit_RingWordsMoveTokensAndCredits : (oneRing plainRing 128 64).dead = false ∧ 0 < ((oneRing plainRing 128 64).ring 5).size ∧
    (oneRing plainRing 128 64).tailValid 5 (64 + 4096) = true ∧
    (192 + 4096 ≠ (oneRing plainRing 128 64).tailOf 5 ∧ (oneRing plainRing 128 64).tailValid 5 (192 + 4096) = false) ∧
    ((oneRing plainRing 128 64).headOf 5 < 128 ∧ 128 ≤ (oneRing plainRing 128 64).tailOf 5) := by decide +kernel

theorem wit_PtpMeasurementDisciplinesTime : State.reset.bit F.BEAT_CFG2_SRC = false ∧ State.reset.beat.state = .unsync ∧
    ((withBeat { state := .locked }).beat.state ≠ .unsync ∧
      ((1000 : Int) - (withBeat { state := .locked }).beat.t).natAbs ≤ (withBeat { state := .locked }).get F.BEAT_CFG_STEP_NS) ∧
    (withBeat { state := .locked }).get F.BEAT_CFG_STEP_NS < ((1001 : Int) - (withBeat { state := .locked }).beat.t).natAbs := by
  decide +kernel

theorem wit_PpsEdgeSetsTimeOnlyWithSrcOne : (State.reset.dead = false ∧ State.reset.evt.quiet = true) ∧
    State.reset.bit F.BEAT_CFG2_SRC = false ∧
    ((State.reset.setBit F.BEAT_CFG2_SRC true).bit F.BEAT_CFG2_SRC = true ∧
      (State.reset.setBit F.BEAT_CFG2_SRC true).beat.state = .unsync) := by decide +kernel

theorem wit_SyncStateCommandsComplete : (withBeat { state := .acquiring }).beat.state = .acquiring ∧
    (withBeat { state := .locked }).beat.state = .locked ∧ (withBeat { state := .holdover }).beat.state = .holdover ∧
    ((withBeat { state := .stepHeld, held := true }).beat.state = .stepHeld ∧ (withBeat { state := .stepHeld, held := true }).beat.held = true) := by
  decide +kernel

/-- The beat is 100, and entry 255 is a SEAL at beat 101. -/
def armable : State :=
  ((withBeat { state := .locked, valid := true, beat := 100, t := 819200 }).set (F.BEAT_EVT_ACT_ACTION 255) 2).set (F.BEAT_EVT_BEAT_BEAT 255) 101

theorem wit_ArmedEventCommandsComplete : (armable.dead = false ∧ armable.entState 255 ≠ 1 ∧ armable.get (F.BEAT_EVT_ACT_ACTION 255) ≠ 0 ∧
      armable.beat.valid = true ∧ armable.beyondHorizon (armable.get (F.BEAT_EVT_BEAT_BEAT 255)) = false ∧
      beatAfter (armable.get (F.BEAT_EVT_BEAT_BEAT 255)) armable.beat.beat = true ∧ armable.beat.due = []) ∧
    (armable.setEnt 255 1).entState 255 = 1 ∧
    (let s := { armable with beat := { armable.beat with due := [(255, false)] } }
     s.beat.due = [(255, false)] ∧ s.entSkips 255 = false ∧ s.entDrops (255, false) = false) := by decide +kernel

/-! Images, panels and tiles. -/

/-- What a tile fetches and what its operator answers. -/
def opMeets (s : State) (op : Nat) (f : State → Nat → Chain → Desc → OpAcc) : Bool :=
  let x := s.fetchDesc 0 chain0
  (s.tile 0).chain == some chain0 && !(s.tile 0).halted && x.fault == .none && (descOf x.data).op == op &&
    (f x.st 0 chain0 (descOf x.data)).fault == .none

theorem wit_operators_vector : opMeets (tileRun (descB 0x01 0 (slotsB 0) [1, 1, 16, 16, 16])) 0x01 opMatmul ∧
    opMeets (tileRun (descB 0x02 0 (slotsB 0) [1, 1])) 0x02 opReduce ∧
    opMeets (tileRun (descB 0x03 0 (slotsB 0) [1, 16, 16])) 0x03 opRotate ∧
    opMeets (tileRun (descB 0x04 0 (slotsB 0) [1, 16, 16])) 0x04 opQuantise ∧
    opMeets (tileRun (descB 0x05 0 (slotsB 0) [1, 16, 16])) 0x05 opDequantise ∧
    opMeets (tileRun (descB 0x06 0 (slotsB 0) [1, 1])) 0x06 opElemwise ∧
    opMeets (tileRun (descB 0x07 0 (slotsB 0) [1, 1])) 0x07 opActivate ∧
    opMeets (tileRun (descB 0x08 0 (slotsB 0) [1, 1])) 0x08 opNormalise ∧
    opMeets (tileRun (descB 0x09 0 (slotsB 1) [16, 1, 1])) 0x09 opAttend := by decide +kernel

/-- A dense scan of one query of list 0, whose snapshot is empty. -/
def denseState : State :=
  { (tileRun (descB 0x0B 0 (slotsB 0) [])).putBytes 32 [0, 0, 1, 0] with ls := { copies := [(0, some {})] } }

theorem wit_operators_search : opMeets (tileRun (descB 0x0A 0 (slotsB 0) [8, 0, 64])) 0x0A opPqTable ∧
    opMeets denseState 0x0B opDenseScan ∧
    opMeets (tileRun (descB 0x0C 0 (slotsB 0) [1, 1, 1, 64])) 0x0C opCoarse ∧
    opMeets (tileRun (descB 0x0D 0 (slotsB 1) [1, 16])) 0x0D opRerank ∧
    opMeets (tileRun (descB 0x0E 0 (slotsB 0) [1, 1, 0xFFFFFFFF, 0xFFFF])) 0x0E opTopk := by decide +kernel

theorem wit_operators_tokens : opMeets (tileRun (descB 0x0F 0 (slotsB 0) [0, 8])) 0x0F opMask ∧
    opMeets (tileRun (descB 0x10 0 (slotsB 0) [1, 8])) 0x10 opSample ∧
    opMeets (tileRun (descB 0x11 0 (slotsB 0) [0, 1])) 0x11 opGradAccum ∧
    opMeets (tileRun (descB 0x12 0 (slotsB 1) [1])) 0x12 opOptStep ∧
    opMeets (tileRun (descB 0x13 0 (slotsB 1) [5, 32, 0x81])) 0x13 opSend := by decide +kernel

/-- An image with no sections, staged. -/
def stagedState : State := { State.reset with img := { staged := some {} } }

/-- A full load of an image with no sections in its second phase. -/
def fullState : State := { State.reset with img := { staged := some {}, full := 2 } }

/-- A dovetail window that is to close at beat 0. -/
def openWindow : State := State.reset.setBit F.IMG_DOVE_OPEN true

theorem wit_ImageLoaderCommandsComplete : (State.reset.img.verifying = none ∧ State.reset.img.staged = none ∧ State.reset.img.full = 0) ∧
    (stagedState.imgBusy = false ∧ stagedState.img.used = false) ∧
    (stagedState.imgBusy = false ∧ stagedState.nodeChanged = false ∧ stagedState.img.staged = some {}) ∧
    (fullState.img.full = 2 ∧ fullState.img.staged = some {} ∧ (fullState.readBodies 0 []).1.isSome = true) ∧
    (openWindow.windowOpen = true ∧ beatAfter (openWindow.get F.IMG_DOVE_CLOSE_BEAT) openWindow.beatNow = false) := by decide +kernel

/-- Panel 63 in a state, with a reload under way. -/
def panelState (st : Nat) (j : Option Reload) : State :=
  { State.reset with img := { panels := [(63, { tiles := [0], job := j })] } }.setPanState 63 st

theorem wit_PanelReloadPhasesComplete :
    (let s := panelState PS_DRAINING (some { seq := 0, staged := false, defn := some { tiles := [0] } })
     s.panState 63 = PS_DRAINING ∧ s.panelBusy 63 = false ∧ (s.panel 63).job = some { seq := 0, staged := false, defn := some { tiles := [0] } }) ∧
    (let s := panelState PS_DRAINING (some { seq := 0, staged := false, defn := none })
     s.panState 63 = PS_DRAINING ∧ s.panelBusy 63 = false ∧ (s.panel 63).job = some { seq := 0, staged := false, defn := none }) ∧
    (let s := { panelState PS_DRAINING none with tiles := [(0, { chain := some chain0 })] }
     s.panState 63 = PS_DRAINING ∧ s.panelBusy 63 = true) ∧
    (let s := panelState PS_WAITING (some { seq := 0, staged := false, defn := some { tiles := [0] } })
     s.panState 63 = PS_WAITING ∧ s.img.loading = none ∧ s.img.full = 0 ∧ s.loadAhead 0 = false ∧
       (s.loadDef 63 { seq := 0, staged := false, defn := some { tiles := [0] } } { tiles := [0] }).1 = true) ∧
    (let s := panelState PS_LOADING (some { seq := 0, staged := false, defn := none, loading := some { tiles := [0] } })
     (s.panel 63).job = some { seq := 0, staged := false, defn := none, loading := some { tiles := [0] } } ∧ s.panState 63 = PS_LOADING) ∧
    (panelState PS_ACTIVATING none).panState 63 = PS_ACTIVATING := by decide +kernel

/-- Tile 0 halted at a boundary. -/
def haltedTile (d : List Byte) : State :=
  let s := tileRun d
  s.setTile 0 { s.tile 0 with halted := true }

/-- Tile 0, IDLE in an ACTIVE panel, whose first queue holds a message of TYPE 0 that a chain with a SEND of one credit serves. -/
def queuedTile : State :=
  let s := { State.reset with tiles := [(0, { watches := [5] })] }.setRing 5
    { base := 0, size := 4096, ownerKind := 1, tokens := [⟨0, 64, 0, false⟩] }
  let s := (((s.putNum 4096 8 64).setTileState 0 TS_IDLE).set (F.IMG_PANEL_STATE_STATE 0) 1).putBytes 0x3C0002 [1]
  s.putBytes 0x3C0040 (descB 0x13 0 (slotsB 1) [5, 32, 0x81])

theorem wit_TileControlCommandsComplete :
    (let s := queuedTile.set (F.TILE_CREDIT_AVAIL 0 0) 1
     s.takesTokens 0 = true ∧ s.ready 0 = some 0 ∧ (s.tile 0).queue 0 = some 5) ∧
    (queuedTile.stalledQueue 0 = some 0 ∧ (queuedTile.tile 0).queue 0 = some 5 ∧
      (queuedTile.ring 5).tokens = [⟨0, 64, 0, false⟩] ∧ (queuedTile.headNeeds 0 5).2.find?
        (fun e => decide (queuedTile.get (F.TILE_CREDIT_AVAIL 0 e.1) < e.2)) = some (0, 1)) ∧
    (((tileRun []).tile 0).chain = some chain0 ∧ ((tileRun []).tile 0).halted = false) ∧
    (let s := haltedTile (descB 0x02 0 (slotsB 0) [1, 1])
     (s.tile 0).chain = some chain0 ∧ (s.tile 0).halted = true ∧ (s.fetchDesc 0 chain0).fault = .none ∧
       (descOf (s.fetchDesc 0 chain0).data).op = (s.graphDesc 0 chain0.desc).op) := by decide +kernel

/-! Inlay units. -/

/-- The head packet of unit 255 of stack 0 and what R154 and R172 ask of it. -/
def unitMeets (b : List Byte) (op : Nat) : Bool :=
  let s := busyUnit b
  (s.hasUnit 0 255) && s.unitState 0 255 == US_BUSY && (packetsOf (s.unit 0 255).cmds).head? == some { bytes := b } &&
    decide (granulesOf (s.unit 0 255).results + ({ bytes := b } : InlPkt).resultRoom ≤ 256) && ({ bytes := b } : InlPkt).op == op

/-- A scoring packet runs on its slots and meets no poisoned word. -/
def scoreMeets (b : List Byte) : Bool :=
  let s := busyUnit b
  let c := scoreOf b
  c.ok (at_ b 2 2) b.length && !(c.run 0 255 ((s.unit 0 255).filterSlot c.fslot) ((List.range c.batch).map (c.table (s.unit 0 255))) c.count 0
    { lists := List.replicate c.batch {}, st := s.heatUnit 0 255 c.addr (c.stride * c.count) }).bad

/-- A row command whose header is readable and not ABSENT. -/
def rowMeets (b : List Byte) : Bool :=
  let c := rowCmdOf b
  let x := ((busyUnit b).heatUnit 0 255 c.addr (64 * c.count)).unitLoad 0 255 c.addr 64
  c.ok b.length && x.code == E_NONE && at_ x.data 28 1 % 2 == 0

theorem wit_scores : (unitMeets (scoreB 0x10 1 8) 0x10 ∧ scoreMeets (scoreB 0x10 1 8)) ∧
    (unitMeets (scoreB 0x11 1 1) 0x11 ∧ scoreMeets (scoreB 0x11 1 1)) := by decide +kernel

/-- A GATHER_ROW of one granule. -/
def gatherB : List Byte := rowB 0x20 0 1 2 0 (leBytes 2 0 ++ leBytes 2 1)

theorem wit_gather : unitMeets gatherB 0x20 ∧ rowMeets gatherB ∧ (rowCmdOf gatherB).len = 1 ∧ (rowCmdOf gatherB).dg = 1 ∧
    at_ gatherB 24 2 = 0 ∧ at_ gatherB 26 2 = 1 ∧
    (((busyUnit gatherB).heatUnit 0 255 0 128).unitLoad 0 255 64 64).code = E_NONE := by decide +kernel

/-- A REPLACE_ROW, an RMW_ROW that replaces the state too, and one that applies a gradient. -/
def replaceB : List Byte := rowB 0x21 0 3 2 0 []
def rmwB : List Byte := rowB 0x22 4 3 2 0 []
def applyB : List Byte := rowB 0x22 0 2 2 0 (leBytes 4 0x00800000)

theorem wit_rows : (unitMeets replaceB 0x21 ∧ rowMeets replaceB ∧ (rowCmdOf replaceB).len = (rowCmdOf replaceB).dg + 2) ∧
    (unitMeets rmwB 0x22 ∧ rowMeets rmwB ∧ (rowCmdOf rmwB).sub % 16 = 4 ∧ (rowCmdOf rmwB).len = (rowCmdOf rmwB).dg + 2) ∧
    (unitMeets applyB 0x22 ∧ rowMeets applyB ∧ (rowCmdOf applyB).sub % 16 < 4 ∧ (rowCmdOf applyB).len = 1 + (32 + 32 / 16 + 63) / 64 ∧
      modeFits 0 (rowCmdOf applyB).form = true ∧ 0x00800000 ≤ (rowCmdOf applyB).wclamp ∧ (rowCmdOf applyB).wclamp ≤ 0x7E800000) := by
  decide +kernel

/-- A FENCE. -/
def fenceB : List Byte := padTo 64 [0x30, 0, 1, 0]

theorem wit_fence : unitMeets fenceB 0x30 ∧ at_ fenceB 2 2 = 1 ∧ fenceB.length = 64 := by decide +kernel

theorem wit_StackAndUnitEventsComplete : (State.reset.dead = false ∧ State.reset.hasUnit 11 255 = true) ∧
    ((zeros 65536).length % 1024 = 0 ∧ 1 ≤ (zeros 65536).length / 1024 ∧ 0 + (zeros 65536).length / 1024 ≤ 64) ∧
    ((7 : Nat) < 8 ∧ filterOk (zeros 64) = true) ∧
    (({ State.reset with ecc := [(stackBase 0, 1)] } : State).ecc.find? (fun e => e.1 == stackBase 0 + 31 / 32 * 32) = some (stackBase 0, 1)) ∧
    (({ State.reset with ecc := [(stackBase 0, 2)] } : State).ecc.find? (fun e => e.1 == stackBase 0 + 0 / 32 * 32) = some (stackBase 0, 2)) ∧
    State.reset.unitState 0 255 ≠ US_OFFLINE ∧ (busyUnit []).unitState 0 255 = US_BUSY ∧
    (State.reset.setUnitState 0 255 US_OFFLINE).unitState 0 255 = US_OFFLINE ∧
    ((State.reset.setUnitState 0 255 US_COPYING).unitState 0 255 = US_COPYING ∧
      ((List.range 256).find? fun v => (State.reset.setUnitState 0 255 US_COPYING).unitState 0 v == US_IDLE ||
        (State.reset.setUnitState 0 255 US_COPYING).unitState 0 v == US_BUSY) = some 0) := by decide +kernel

/-! The tier manager and migration. -/

theorem wit_heatHalving : (withBeat { valid := true, beat := 0 }).beat.valid = true ∧
    (withBeat { valid := true, beat := 0 }).beat.beat % (withBeat { valid := true, beat := 0 }).get F.TIER_CFG_HEAT_PERIOD = 0 ∧
    (withBeat { valid := true, beat := 0 }).tier.halved ≠ some 0 := by decide +kernel

/-- No frame is free, and LOW_WATER is 1; two pages of zeros lie in frames, and one move is allowed. -/
def sweepState : State :=
  (({ State.reset with tier := { pages := [(0, { st := 1 }), (1, { st := 1, frame := 1 })] } }.set F.TIER_CFG2_LOW_WATER 1).set
    F.TIER_CFG2_HIGH_WATER 2).set F.TIER_CFG2_MOVES_MAX 1

theorem wit_demotionSweep_none : (let s := State.reset.set F.TIER_CFG2_LOW_WATER 1
    s.checkFlashFull.freeFrames < s.checkFlashFull.get F.TIER_CFG2_LOW_WATER ∧ s.checkFlashFull.bit F.TIER_STATUS_FLASH_FULL = false ∧
      (s.checkFlashFull.sweep (s.checkFlashFull.get F.TIER_CFG_DEMOTE_T) false s.checkFlashFull.sweepOrder).2 = (false, none) ∧
      max (s.checkFlashFull.get F.TIER_STATUS_DEMOTE_LEVEL) (s.checkFlashFull.get F.TIER_CFG_DEMOTE_T) < 255) := by decide +kernel

theorem wit_demotionSweep_some : sweepState.checkFlashFull.freeFrames < sweepState.checkFlashFull.get F.TIER_CFG2_LOW_WATER ∧
    (sweepState.checkFlashFull.sweep (max (sweepState.checkFlashFull.get F.TIER_STATUS_DEMOTE_LEVEL)
      (sweepState.checkFlashFull.get F.TIER_CFG_DEMOTE_T)) false sweepState.checkFlashFull.sweepOrder).2 = (true, some 1) := by
  decide +kernel

/-- Page 0 is being promoted from an extent on carrier 0, which is ONLINE; stack 0 has one frame. -/
def promoState (ext : List Byte) : State :=
  (({ State.reset with
      tier := { pages := [(0, { st := 3, blocks := 1, fmt := 2 })], promos := [(0, false)] }
      fl := [(0, { present := true, model := 1, tierBlocks := 64, blk := [(sysBlocks, ext)] })] }).set (F.FL_CAR_STATUS_STATE 0) 7).set
    (F.TIER_POOL_COUNT 0) 1

/-- The extent of a page of zeros. -/
def zeroExtent : List Byte := extentBytes 0 0 1 2 (zeros 65536) (zeros 32)

theorem zeroExtent_reads : decodeExtent 0 zeroExtent = some (zeros 65536) := by
  refine decodeExtent_extentBytes 0 0 1 2 (zeros 65536) (zeros 32) (by decide) (by decide) (by decide) (List.length_replicate ..) ?_
  have h : zsegFill ((zeros 32).take 32) ((zeros 32).drop 32) 256 0 = zeros 65536 := zsegFill_zeros 256 0
  rw [decodePayload, if_neg (by decide), if_pos rfl, h, if_pos ⟨List.length_replicate .., (List.length_replicate (n := 32) (a := (0 : Byte))).ge⟩]

theorem zeroExtent_length : zeroExtent.length = 4096 := by
  have h : ∀ (n : Nat) (b : List Byte), (padTo n b).length = n := fun n b => by
    rw [padTo, List.length_take, List.length_append, zeros, List.length_replicate]; omega
  have e : extentBlocks (zeros 32).length = 1 := by decide
  rw [zeroExtent, extentBytes, h, e]

/-- The extent of page 0 reads as a page of zeros. -/
theorem promoState_reads (s : State) (hs : s.serving 0 = true) (hp : s.page 0 = { st := 2, blocks := 1, fmt := 2 })
    (hc : s.car 0 = { present := true, model := 1, tierBlocks := 64, blk := [(sysBlocks, zeroExtent)] }) :
    s.readExtent 0 = (E_NONE, zeros 65536) := by
  have hb : (s.car 0).blockBytes (sysBlocks + 0) 1 = zeroExtent := by
    rw [CarrierSt.blockBytes, CarrierSt.blockBytes, List.append_nil, CarrierSt.block, hc]
    show padTo 4096 zeroExtent = zeroExtent
    rw [padTo_eq _ _ (by rw [zeroExtent_length]), zeroExtent_length, Nat.sub_self]; exact List.append_nil _
  have hd : (s.car 0).anyBad (sysBlocks + 0) 1 = false := by rw [hc]; rfl
  rw [State.readExtent, hp]; dsimp only
  rw [hs, hb, hd, zeroExtent_reads]; rfl

theorem wit_promotionDone : ((promoState zeroExtent).page 0).st = 3 ∧
    (((promoState zeroExtent).setPage 0 { (promoState zeroExtent).page 0 with st := 2 }).promoteNow 0).1 = E_NONE := by
  refine ⟨rfl, ?_⟩
  have hr := promoState_reads ((promoState zeroExtent).setPage 0 { (promoState zeroExtent).page 0 with st := 2 }) (by decide +kernel) rfl rfl
  have ht : ((promoState zeroExtent).setPage 0 { (promoState zeroExtent).page 0 with st := 2 }).takeFrame.isSome = true := by decide +kernel
  obtain ⟨x, hx⟩ := Option.isSome_iff_exists.1 ht
  rw [State.promoteNow, hr]; dsimp only
  rw [if_neg (by decide), if_neg (by decide), hx]

theorem wit_promotionDone_media : ((promoState []).page 0).st = 3 ∧
    (((promoState []).setPage 0 { (promoState []).page 0 with st := 2 }).promoteNow 0).1 = E_MEDIA := by decide +kernel

/-- A demotion of page 0 to carrier 0 is in flight. -/
def demoState (zero : Bool) : State :=
  { promoState [] with tier := { pages := [(0, { st := 4 })], demos := [⟨0, 0, 0, 1, 2, [], zero, false⟩] } }

theorem wit_demotionDone : (((demoState true).tier.demos.find? fun d => d.page == 0) = some ⟨0, 0, 0, 1, 2, [], true, false⟩ ∧
      (demoState true).thinOn 0 = false) ∧
    ((demoState false).tier.demos.find? fun d => d.page == 0) = some ⟨0, 0, 0, 1, 2, [], false, false⟩ ∧
    (demoState false).thinOn 0 = false ∧ (false || (demoState false).carState 0 != CS_ONLINE) = false ∧
    (demoState false).flHeld 0 = false ∧ ((demoState false).flAdmit 0 1).isSome = true := by decide +kernel

theorem wit_tierFlashReadDone :
    ((({ State.reset with tier := { waits := [⟨7, 0, 0⟩] } } : State).waitsOn 7).filter fun w => w.kind == 0) ≠ [] := by decide +kernel

/-- A request with a deadline beat and the request ID 9 of node 3. -/
def reqD (deadline : Nat) : Req :=
  { ty := 0x02, cls := 1, tenant := 1, gten := 1, epoch := 0, reqId := 9, deadline := deadline, src := 3, rehearsal := false, payload := [] }

/-- A list-scan query of that request. -/
def lsQ (stage : LsStage) : LsQuery :=
  { r := reqD 10, slot := 0, desc := { centOff := tierBase }, k := 1, nprobe := 1, expand := 0, cand := 1, rerank := 0, late := 0, fen := false,
    fany := false, filter := [], noShadow := true, qfmt := 0, qscale := 0, query := [], merge := {}, old := false, stage := stage }

/-- A walk of that request that scores a record of page 0. -/
def walkD : GwWalk :=
  { r := reqD 10, msg := [], slot := 0, desc := { recOff := tierBase }, die := 0, k := 1, beam := 1, nentry := 1, qfmt := 0, qscale := 0, query := [],
    late := 0, batch := [⟨0, true, false⟩] }

/-- The beat is 10 and page 0 is homed in flash. -/
def lateState : State := { withBeat { valid := true, beat := 10, state := .locked } with tier := { pages := [(0, { st := 2 })] } }

theorem wit_latePoint : (({ lateState with ls := { queries := [lsQ .coarse] } } : State).lsQuery 3 9 = some (lsQ .coarse) ∧
      lateState.pastLate 0 (reqD 10) = true ∧ lateState.lsOnFlash (lsQ .coarse) = true) ∧
    (({ lateState with gw := { walks := [(0, some walkD)] } } : State).lsQuery 3 9 = none ∧
      ({ lateState with gw := { walks := [(0, some walkD)] } } : State).walkOf 3 9 = some (0, walkD) ∧
      lateState.pastLate walkD.late walkD.r = true ∧ lateState.gwOnFlash walkD = true) := by decide +kernel

/-- An extent page is asked for, and page 0 is in a given state. -/
def extentAt (st : Nat) : State := { State.reset with tier := { pages := [(0, { st := st })] } }.set F.TIER_CFG_EXTENT 1

theorem wit_zeroPage : ((extentAt 1).get F.TIER_PAGE_SEL_PAGE = 0 ∧ 0 < (extentAt 1).get F.TIER_CFG_EXTENT ∧ ((extentAt 1).page 0).st = 1) ∧
    ((extentAt 5).get F.TIER_PAGE_SEL_PAGE = 0 ∧ 0 < (extentAt 5).get F.TIER_CFG_EXTENT ∧ ((extentAt 5).page 0).st = 5) := by decide +kernel

/-- Migration slot 15 in a state, for an object of a kind. -/
def migAt (st kind : Nat) (m : MigSt) : State :=
  ({ State.reset with tier := { mig := [(15, m)] }, tbl := { copies := [(0, some { rowOff := stackBase 0 })] } }.set
    (F.TIER_MIG_OBJ_KIND 15) kind).setMigState 15 st

theorem wit_migration_start : ((migAt MS_FREE 1 {}).migState 15 = MS_FREE ∧ (migAt MS_FREE 1 {}).get (F.TIER_MIG_OBJ_KIND 15) = 1) ∧
    ((migAt MS_FREE 2 {}).migState 15 = MS_FREE ∧ (migAt MS_FREE 2 {}).get (F.TIER_MIG_OBJ_KIND 15) = 2) ∧
    ((migAt MS_COPYING 1 {}).migState 15 = MS_COPYING ∧ ((migAt MS_COPYING 1 {}).pageBytes 0).1.isSome = true ∧
      ((migAt MS_COPYING 1 {}).pageBytes 0).2.get (F.TIER_MIG_DEST_STACK 15) ≠ 15) ∧
    ((migAt MS_COPYING 2 {}).migState 15 = MS_COPYING ∧ (migAt MS_COPYING 2 {}).get (F.TIER_MIG_OBJ_KIND 15) = 2 ∧
      ((migAt MS_COPYING 2 {}).rowImage 15).code = E_NONE) := by decide +kernel

theorem wit_migration_end : (migAt MS_READY 1 {}).migState 15 = MS_READY ∧ (migAt MS_DONE 1 {}).migState 15 = MS_DONE ∧
    (migAt MS_FAILED 1 {}).migState 15 = MS_FAILED ∧ (migAt MS_STALLED 2 {}).migState 15 = MS_STALLED ∧
    ((migAt MS_CUTTING 1 {}).migState 15 = MS_CUTTING ∧ (migAt MS_CUTTING 1 {}).get (F.TIER_MIG_OBJ_KIND 15) = 1 ∧
      (migAt MS_CUTTING 1 {}).thinOn ((migAt MS_CUTTING 1 {}).get (F.TIER_MIG_OBJ_ID 15)) = false) ∧
    ((migAt MS_CUTTING 2 {}).migState 15 = MS_CUTTING ∧ ((migAt MS_CUTTING 2 {}).migSt 15).sent = false ∧
      (migAt MS_CUTTING 2 {}).rowBusy 0 0 = false ∧ ((migAt MS_CUTTING 2 {}).rowImage 15).code = E_NONE) ∧
    ((migAt MS_CUTTING 2 { sent := true }).migState 15 = MS_CUTTING ∧ ((migAt MS_CUTTING 2 { sent := true }).migSt 15).sent = true) := by
  decide +kernel

theorem wit_rowInstall : (let s := migAt MS_FREE 0 {}
    smGet (fun _ => none) s.tbl.copies 0 = some { rowOff := stackBase 0 } ∧ (zeros 128).length = 64 * ({ rowOff := stackBase 0 } : TblDesc).x ∧
      ((s.installPlace { rowOff := stackBase 0 } 0).map RowPlace.guest) = some false) := by decide +kernel

/-! The list scanner, the walker and selection. -/

/-- A list-scan descriptor of one list with a BF16 centroid. -/
def lsD : LsDesc := { metric := 1, dim := 32, centFmt := 0x0B, centOff := stackBase 0, vecFmt := 0x0B, vecOff := stackBase 0 + 4096 }

/-- Slot 63 of the list scanner holds that descriptor. -/
def lsState : State := { State.reset with ls := { copies := [(63, some lsD)] } }.setBit (F.LS_IDX_CTL_EN 63) true

/-- A QUERY_LS with K 16,384, NPROBE 1,024 and EXPAND 4, the widest that R222 takes. -/
def queryLsB : List Byte :=
  msgB T_QUERY_LS ([0, 0, 0, 0] ++ leBytes 2 16384 ++ leBytes 2 1024 ++ [4, 0x0B] ++ leBytes 2 32 ++ leBytes 2 16384 ++ zeros 6 ++
    leBytes 2 0xFFFF ++ zeros 2 ++ leBytes 2 1 ++ zeros 6 ++ zeros 64 ++ zeros 64)

theorem wit_queryLs : reqAt (withMsg lsState U_SEARCH queryLsB) U_SEARCH T_QUERY_LS queryLsB (fun r =>
    let u := (withMsg lsState U_SEARCH queryLsB).popMsg 8191 queryLsB
    u.lsSlot (at_ r.payload 0 1) (at_ r.payload 2 2) == some (63, lsD) && (lsQueryOf r 63 lsD (u.oldCopy r.src r.reqId)).ok &&
      !u.deadlinePassed r.deadline && !u.cancelled r.src r.reqId) = true := by decide +kernel

/-- One query in a stage. -/
def lsAt (q : LsQuery) : State := { State.reset with ls := { queries := [q] } }

/-- A query of that descriptor in a stage. -/
def lsQD (stage : LsStage) : LsQuery :=
  { lsQ stage with desc := lsD, qfmt := 0x0B, query := (List.replicate 32 (leBytes 2 0x3F80)).flatten, cands := [{ vid := 0, key := 5 }] }

theorem wit_lsCoarse : (lsAt (lsQD .coarse)).lsQuery 3 9 = some (lsQD .coarse) ∧ (lsQD .coarse).stage = .coarse ∧
    (lsAt (lsQD .coarse)).unsent T_LS_COARSE 3 9 = false ∧ (lsAt (lsQD .coarse)).workFail T_LS_COARSE 3 9 = none ∧
    ((lsAt (lsQD .coarse)).lsOnFlash (lsQD .coarse) && (lsAt (lsQD .coarse)).heldLate 0 (lsQD .coarse).r) = false ∧
    (((lsAt (lsQD .coarse)).serveFor (lsQD .coarse).r).coarseAll lsD (coarseQuery lsD.centFmt (lsQD .coarse).values) 1 0).code = E_NONE := by
  decide +kernel

theorem wit_lsTable : (lsAt (lsQD .tables)).lsQuery 3 9 = some (lsQD .tables) ∧ (lsAt (lsQD .tables)).unsent T_LS_TABLE 3 9 = false ∧
    (lsAt (lsQD .tables)).workFail T_LS_TABLE 3 9 = none ∧
    ((lsAt (lsQD .tables)).lsOnFlash (lsQD .tables) && (lsAt (lsQD .tables)).heldLate 0 (lsQD .tables).r) = false ∧
    (((lsAt (lsQD .tables)).serveFor (lsQD .tables).r).lsTables lsD (lsQD .tables).values (lsQD .tables).group).1 = E_NONE := by
  decide +kernel

theorem wit_gatherWindow : (withBeat { valid := true, beat := 0 }).beat.valid = true ∧
    (withBeat { valid := true, beat := 0 }).beat.beat % (withBeat { valid := true, beat := 0 }).get F.LS_CFG_GATHER = 0 ∧
    (withBeat { valid := true, beat := 0 }).ls.closed ≠ some 0 := by decide +kernel

/-- A dense scan of list 0 that is out. -/
def lsRun1 : LsRun := { tag := 1, slot := 63, desc := lsD, list := 0, len := 1, npages := 1, runs := [⟨0x10000, 0, 1⟩], members := [(3, 9)] }

theorem wit_lsDense : (let s : State := { State.reset with ls := { queries := [lsQD .scan], runs := [lsRun1] } }
    (s.ls.runs.find? fun x => x.tag == 1) = some lsRun1 ∧ s.unsent T_LS_DENSE s.node 1 = false ∧ s.workFail T_LS_DENSE s.node 1 = none ∧
      (lsRun1.runs.any fun p => s.onFlash (pageAddr p.page) 65536) = false) := by decide +kernel

/-- A thin scan by unit 255 of stack 0, whose result is there. -/
def thinState : State :=
  { State.reset with
    ls := { thins := [{ tag := 1, stack := 0, unit := 255, slot := 63, desc := lsD, list := 0, run := ⟨0, 0, 1⟩, members := [] }] }
    inl := [(255, { results := [{ bytes := [], dest := U_SEARCH, tag := 1 }] })] }

theorem wit_thinResult : thinState.hasUnit 0 255 = true ∧
    ((thinState.resultFor 0 255 U_SEARCH).map fun x => (x.2.ls.thins.find? fun c => c.tag == x.1.tag).isSome) = some true := by
  decide +kernel

theorem wit_lsRerank : (lsAt (lsQD .rerank)).lsQuery 3 9 = some (lsQD .rerank) ∧ (lsAt (lsQD .rerank)).unsent T_LS_RERANK 3 9 = false ∧
    (lsAt (lsQD .rerank)).workFail T_LS_RERANK 3 9 = none ∧ (lsQD .rerank).rerank ≠ 2 ∧
    ((lsAt (lsQD .rerank)).lsOnFlash (lsQD .rerank) && (lsAt (lsQD .rerank)).heldLate 0 (lsQD .rerank).r) = false ∧
    (((lsAt (lsQD .rerank)).serveFor (lsQD .rerank).r).rerankAll lsD (lsQD .rerank).values (lsQD .rerank).cands).code = E_NONE := by
  decide +kernel

theorem wit_lsRerank_model : (let q := { lsQD .rerank with rerank := 2 }
    (lsAt q).lsQuery 3 9 = some q ∧ (lsAt q).unsent T_LS_RERANK 3 9 = false ∧ (lsAt q).workFail T_LS_RERANK 3 9 = none ∧
      ((lsAt q).lsOnFlash q && (lsAt q).heldLate 0 q.r) = false ∧ (((lsAt q).serveFor q.r).rerankAll lsD q.values q.cands).code = E_NONE) := by
  decide +kernel

theorem wit_lsModel : (lsAt (lsQD .model)).lsQuery 3 9 = some (lsQD .model) ∧ (lsAt (lsQD .model)).unsent T_LS_MODEL 3 9 = false ∧
    (lsAt (lsQD .model)).workFail T_LS_MODEL 3 9 = none := by decide +kernel

/-- An UPDATE_VEC with an opcode, for index 0 and shard 0. -/
def updB (op : Nat) (rest : List Byte) : List Byte := msgB T_UPDATE_VEC (leBytes 1 op ++ [0, 0, 0, 0, 0, 0, 0] ++ rest)

theorem wit_lsUpdate : (∀ op ∈ [1, 2], reqAt (withMsg lsState U_SEARCH (updB op (zeros 24))) U_SEARCH T_UPDATE_VEC (updB op (zeros 24)) (fun r =>
    at_ r.payload 0 1 == op && ((withMsg lsState U_SEARCH (updB op (zeros 24))).gwSlot (at_ r.payload 1 1) (at_ r.payload 2 2)).isNone) = true) := by
  decide +kernel

/-- A list-scan descriptor that the checks of R200 accept, in stack 0. -/
def lsDescB : List Byte :=
  padTo 256 ([0, 1, 0, 8, 0, 0, 0, 0] ++ leBytes 4 1 ++ leBytes 2 64 ++ [0x0B, 0x0B] ++ leBytes 8 (stackBase 0 + 65536) ++ zeros 8 ++ zeros 8 ++
    leBytes 8 (stackBase 0 + 131072) ++ leBytes 8 (stackBase 0 + 262144) ++ leBytes 8 (stackBase 0 + 327680) ++ zeros 24 ++
    leBytes 4 1)

theorem wit_lsIndex : (let s := (State.reset.putBytes (stackBase 0) lsDescB).set (F.LS_IDX_BASE_ADDR 63) (stackBase 0)
    s.get (F.LS_IDX_CTL_STATE 63) ≠ 1 ∧ (s.load (stackBase 0) 256).code = E_NONE ∧
      (s.load (stackBase 0) 256).st.lsReason (s.load (stackBase 0) 256).data = 0) ∧
    (let s := State.reset.set (F.LS_IDX_BASE_ADDR 63) (stackBase 0)
    s.get (F.LS_IDX_CTL_STATE 63) ≠ 1 ∧ (s.load (stackBase 0) 256).code = E_NONE ∧
      (s.load (stackBase 0) 256).st.lsReason (s.load (stackBase 0) 256).data ≠ 0) := by decide +kernel

theorem wit_shadowDone : (let q := { lsQD .scan with nprobe := 0 }
    let s : State := { State.reset with ctl := { shim := some { target := 16, from_ := 0, until_ := 1 } }, ls := { shadows := [⟨q, [0]⟩] } }
    (s.ctl.shim.map fun w => w.target / 16 % 2) = some 1 ∧ s.ls.shadows = [⟨q, [0]⟩] ∧
      ((State.countLs { s with ls := { s.ls with shadows := [] } }).shadowRun q).1 = E_NONE) := by decide +kernel

/-! The walker. -/

/-- A graph descriptor with BF16 vectors of 32 elements. -/
def gwD : GwDesc :=
  { vecFmt := 0x0B, dim := 32, metric := 1, recOff := stackBase 0, genOff := stackBase 0 + 4096, entryOff := stackBase 0 + 8192,
    stateOff := stackBase 0 + 12288, alpha := 0x3F800000 }

/-- Slot 63 of the walker holds that descriptor. -/
def gwState : State := { State.reset with gw := { copies := [(63, some gwD)] } }.setBit (F.WLK_IDX_CTL_EN 63) true |>.set F.NCTL_SEAL_BUF_HALF_MIB 16

/-- A QUERY_GW with K and BEAM 512 and 16 entry points, the widest that R250 takes. -/
def queryGwB : List Byte :=
  msgB T_QUERY_GW ([0, 0, 0, 0] ++ leBytes 2 512 ++ leBytes 2 512 ++ [16, 0x0B] ++ leBytes 2 32 ++ [8] ++ zeros 7 ++
    leBytes 2 0xFFFF ++ zeros 2 ++ leBytes 2 1 ++ zeros 6 ++ zeros 64 ++ zeros 64)

theorem wit_queryGw : reqAt (withMsg gwState U_SEARCH queryGwB) U_SEARCH T_QUERY_GW queryGwB (fun r =>
    let s := withMsg gwState U_SEARCH queryGwB
    let w := gwWalkOf r queryGwB 63 (s.ringDie 8191) (s.get F.WLK_CFG_PREFETCH_CAP) gwD (s.oldCopy r.src r.reqId)
    s.gwSlot (at_ r.payload 0 1) (at_ r.payload 2 2) == some (63, gwD) && s.gwOk w && !s.deadlinePassed r.deadline &&
      !s.cancelled r.src r.reqId && s.openSlots w.die != 0) = true := by decide +kernel

/-- A walk of that graph in a phase. -/
def walkP (p : GwPhase) : GwWalk :=
  { walkD with desc := gwD, die := 3, qfmt := 0x0B, query := (List.replicate 32 (leBytes 2 0x3F80)).flatten, phase := p, entered := true }

theorem wit_walkStart : (let s : State := { State.reset with gw := { queue := [walkP .score] } }
    s.freeSlot (36 / 12) = some 36 ∧ (s.gw.queue.find? fun w => w.die == 36 / 12 && s.mayStart w) = some (walkP .score) ∧
      (State.deadlinePassed { s with gw := {} } 10) = false ∧ (State.cancelled { s with gw := {} } 3 9) = false) := by decide +kernel

/-- Slot 47 runs a walk. -/
def walkAt (w : GwWalk) : State := { State.reset with gw := { walks := [(47, some w)] } }

theorem wit_gwScore : (walkAt (walkP .score)).walk 47 = some (walkP .score) ∧ (walkAt (walkP .score)).unsent T_GW_SCORE 3 9 = false ∧
    (walkAt (walkP .score)).workFail T_GW_SCORE 3 9 = none ∧
    ((walkAt (walkP .score)).gwOnFlash (walkP .score) && (walkAt (walkP .score)).heldLate (walkP .score).late (walkP .score).r) = false ∧
    (((walkAt (walkP .score)).serveFor (walkP .score).r).gwScores (walkP .score).values { walkP .score with batch := [] }
      (walkP .score).batch).code = E_NONE := by decide +kernel

/-- A walk whose beam has an unexpanded node, one expansion below its limit. -/
def walkMore : GwWalk := { walkP .expand with list := [{ vid := 0, key := 1 }], maxExpand := 2, expansions := 1 }

theorem wit_walkExpansion : ((walkAt (walkP .expand)).walk 47 = some (walkP .expand) ∧ (walkAt (walkP .expand)).cancelled 3 9 = false ∧
      (walkAt (walkP .expand)).gwOnFlash (walkP .expand) = false ∧ (walkP .expand).nextEnt = none) ∧
    (walkAt walkMore).walk 47 = some walkMore ∧ (walkAt walkMore).cancelled 3 9 = false ∧ (walkAt walkMore).gwOnFlash walkMore = false ∧
    walkMore.nextEnt = some { vid := 0, key := 1 } ∧ ¬ (walkMore.expansions = walkMore.maxExpand ∧ walkMore.maxExpand ≠ 0) := by
  decide +kernel

theorem wit_gwPair : (let w := { walkP .prune with cands := [⟨0x3F800000, 0⟩], kept := [⟨0, 0⟩] }
    (walkAt w).walk 47 = some w ∧ w.phase = .prune ∧ (walkAt w).unsent T_GW_PAIR 3 9 = false ∧ (walkAt w).workFail T_GW_PAIR 3 9 = none ∧
      (((walkAt w).serveFor w.r).pairDists gwD 0 [0]).code = E_NONE) := by decide +kernel

/-- What the four opcodes of an update need. -/
def gwUpdReady (m : List Byte) (op : Nat) : Bool :=
  reqAt (withMsg gwState U_SEARCH m) U_SEARCH T_UPDATE_VEC m fun r =>
    let s := withMsg gwState U_SEARCH m
    let u := s.popMsg 8191 m
    s.gwSlot (at_ r.payload 1 1) (at_ r.payload 2 2) == some (63, gwD) && !s.shardBusy 63 && (s.freeSlot (s.ringDie 8191)).isSome &&
      gwUpdateOk gwD r.payload && !u.deadlinePassed r.deadline && !u.cancelled r.src r.reqId && u.journalRoom && at_ r.payload 0 1 == op

theorem wit_gwUpdates : gwUpdReady (updB 1 (zeros 88)) 1 = true ∧ gwUpdReady (updB 2 (zeros 24)) 2 = true ∧
    gwUpdReady (updB 3 (zeros 24)) 3 = true ∧ gwUpdReady (updB 4 (zeros 16 ++ [1] ++ zeros 15)) 4 = true := by decide +kernel

/-- A graph descriptor that the checks of R229 accept, in stack 0. -/
def gwDescB : List Byte :=
  padTo 256 ([0, 1, 0x0B, 64, 0, 0, 0, 0] ++ leBytes 4 1 ++ leBytes 2 64 ++ leBytes 2 1 ++ leBytes 4 0x3F800000 ++ zeros 4 ++
    leBytes 8 (stackBase 0 + 65536) ++ leBytes 8 (stackBase 0 + 131072) ++ leBytes 8 (stackBase 0 + 196608) ++ zeros 8 ++ leBytes 8 1 ++
    leBytes 8 (stackBase 0 + 262144))

theorem wit_gwIndex : (let s := (State.reset.putBytes (stackBase 0) gwDescB).set (F.WLK_IDX_BASE_ADDR 63) (stackBase 0)
    s.get (F.WLK_IDX_CTL_STATE 63) ≠ 1 ∧ (s.load (stackBase 0) 256).code = E_NONE ∧
      (s.load (stackBase 0) 256).st.gwReason (s.load (stackBase 0) 256).data = 0) ∧
    (let s := State.reset.set (F.WLK_IDX_BASE_ADDR 63) (stackBase 0)
    s.get (F.WLK_IDX_CTL_STATE 63) ≠ 1 ∧ (s.load (stackBase 0) 256).code = E_NONE ∧
      (s.load (stackBase 0) 256).st.gwReason (s.load (stackBase 0) 256).data ≠ 0) := by decide +kernel

/-! Selection. -/

/-- A selection of K 2 from two entries. -/
def topJ (k : Nat) : TopJob := { unit := U_SEARCH, r := reqD 0, merge := {}, shard := 0, k := k, flags := 0, input := [⟨1, 0, 0, 5, 0⟩, ⟨2, 0, 0, 6, 0⟩] }

/-- The selection is in its first pass. -/
def topState (j : TopJob) : State := { State.reset with sel := { tops := [j] } }

/-- A long selection whose first pass of 256 is full, all duplicates of one VID. -/
def topLong : TopJob := { topJ 257 with input := (List.range 256).map fun i => ⟨1, 0, 0, i, 0⟩ }

theorem wit_selTopk : ((topState (topJ 2)).topJob 3 9 = some (topJ 2) ∧ (topState (topJ 2)).unsent T_SEL_TOPK 3 9 = false ∧
      (topState (topJ 2)).workFail T_SEL_TOPK 3 9 = none ∧ (topState (topJ 2)).cancelled 3 9 = false ∧
      2 ≤ (dedupInto [] (topPass (topJ 2).input 2 none).out).kept.length) ∧
    ((topState topLong).topJob 3 9 = some topLong ∧ (topState topLong).unsent T_SEL_TOPK 3 9 = false ∧
      (topState topLong).workFail T_SEL_TOPK 3 9 = none ∧ (topState topLong).cancelled 3 9 = false ∧
      ¬ (257 ≤ (dedupInto [] (topPass topLong.input 256 none).out).kept.length ∨ (topPass topLong.input 256 none).out.length < 256)) := by
  decide +kernel

theorem wit_mergeDeadline : (let s := { withBeat { valid := true, beat := 1000000 } with sel := { bufs := [(4095, { st := 1, deadline := 1000001 })] } }
    (s.mbuf 4095).st = 1 ∧ s.finalBeat (s.mbuf 4095).deadline = true) := by decide +kernel

/-- A RESULT whose first payload is being looked up. -/
def payJ : PayJob :=
  { unit := U_SEARCH, r := reqD 0, direct := true, area := 0, flags := 0, k := 1, n := 1, tieOut := 0, partsIn := 1, partsMissing := 0,
    partsFailed := 0, dups := 0, table := 255, units := 32, entries := [⟨1, 0, 0, 5, 0⟩], ask := some 77 }

/-- Its answer is there. -/
def payState : State := { State.reset with sel := { pays := [payJ] }, sko := { inbox := [⟨77, U_SEARCH, 0x80, 2, []⟩] } }

theorem wit_payloadLookupDone : payState.payJob 3 9 = some payJ ∧ payJ.ask = some 77 ∧ (payState.takeAnswer 77).isSome = true := by
  decide +kernel

/-! Tables and text. -/

/-- A double-buffered FP8 table of rows 0 to 4 in stack 0. -/
def tbD : TblDesc := { table := 255, double := true, rows := 5, rowOff := stackBase 0 }

/-- Table 255 is enabled. -/
def tbState : State := { State.reset with tbl := { copies := [(255, some tbD)] } }

/-- A LOOKUP of rows 0 and 4, 8 bytes of each. -/
def lookupB : List Byte := msgB T_LOOKUP ([255, 0, 0, 0, 0, 0] ++ leBytes 2 2 ++ leBytes 2 0 ++ leBytes 2 8 ++ zeros 20 ++ leBytes 4 0 ++ leBytes 4 4)

theorem wit_lookup : reqAt (withMsg tbState U_TABLES lookupB) U_TABLES T_LOOKUP lookupB (fun r =>
    let u := (withMsg tbState U_TABLES lookupB).popMsg 8191 lookupB
    u.tblDesc (at_ r.payload 0 1) (at_ r.payload 2 2) == some tbD && (u.lookupCode tbD r).1 == E_NONE && !u.cancelled r.src r.reqId) = true := by
  decide +kernel

/-- A LOOKUP whose row command has tag 7. -/
def tbReq : TblReq := { r := reqD 0, msg := [], desc := tbD, kind := 0, rows := [{ row := 4, st := .sent, tag := 7 }] }

/-- Unit 255 of stack 0 holds its result. -/
def rowDone : State :=
  { State.reset with tbl := { reqs := [tbReq] }, inl := [(255, { results := [{ bytes := zeros 64, dest := U_TABLES, tag := 7 }] })] }

theorem wit_rowCommandDone : rowDone.hasUnit 0 255 = true ∧ (rowDone.resultFor 0 255 U_TABLES).map (fun x => x.1.tag) = some 7 ∧
    rowDone.swapTag 7 = false ∧ rowDone.reqOfTag 7 = some tbReq := by decide +kernel

/-- An UPDATE_ROW with an opcode. -/
def updRowB (op : Nat) : List Byte := msgB T_UPDATE_ROW (leBytes 1 op ++ zeros 31)

theorem wit_updateRow : ∀ op ∈ [1, 2, 3], reqAt (withMsg tbState U_TABLES (updRowB op)) U_TABLES T_UPDATE_ROW (updRowB op)
    (fun r => at_ r.payload 0 1 == op) = true := by decide +kernel

/-- A TABLE_OP with an opcode for table 255. -/
def tableOpB (op : Nat) (rest : List Byte) : List Byte := msgB T_TABLE_OP (padTo 32 (leBytes 1 op ++ [255, 0, 0] ++ rest))

/-- What every TABLE_OP needs, and more for one. -/
def opReady (t : State) (m : List Byte) (p : State → Req → Bool) : Bool :=
  reqAt (withMsg t U_TABLES m) U_TABLES T_TABLE_OP m fun r =>
    let u := (withMsg t U_TABLES m).popMsg 8191 m
    u.tblDesc (at_ r.payload 1 1) (at_ r.payload 2 2) == some tbD && r.payload.length == 32 && !u.deadlinePassed r.deadline &&
      !u.cancelled r.src r.reqId && !r.rehearsal && p u r

theorem wit_pin : opReady tbState (tableOpB 1 []) (fun u r => at_ r.payload 0 1 == 1 && !u.bit (F.TBL_EPOCH_SWITCHING 255)) = true ∧
    opReady (tbState.setBit (F.TBL_EPOCH_SWITCHING 255) true) (tableOpB 1 [])
      (fun u r => at_ r.payload 0 1 == 1 && u.bit (F.TBL_EPOCH_SWITCHING 255)) = true := by decide +kernel

theorem wit_unpin : opReady { tbState with tbl := { tbState.tbl with pins := [(255, some ⟨255, 0, false⟩)] } } (tableOpB 2 [255])
    (fun u r => at_ r.payload 0 1 == 2 && smGet (fun _ => none) u.tbl.pins (at_ r.payload 4 2) == some ⟨255, 0, false⟩) = true := by
  decide +kernel

/-- A SWAP of all five rows from stack 0, and one of the last row alone. -/
def swapB (first count : Nat) : List Byte :=
  tableOpB 3 (zeros 4 ++ leBytes 4 first ++ leBytes 4 count ++ leBytes 6 (stackBase 0 + 65536))

theorem wit_swap : ∀ c ∈ [(0, 5), (4, 1)], opReady tbState (swapB c.1 c.2) (fun u r =>
    at_ r.payload 0 1 == 3 && at_ r.payload 12 4 != 0 && decide (tbD.rowBase ≤ at_ r.payload 8 4) &&
      decide (at_ r.payload 8 4 + at_ r.payload 12 4 ≤ tbD.rowBase + tbD.rows) &&
      u.arrayOk (at_ r.payload 16 6) (at_ r.payload 12 4 * tbD.srcBytes) && (u.swap 255).isNone &&
      decide ((u.tbl.swaps.filterMap Prod.snd).length < 16)) = true := by decide +kernel

theorem wit_tableFlip : (State.reset.setBit (F.TBL_EPOCH_SWITCHING 255) true).bit (F.TBL_EPOCH_SWITCHING 255) = true := by decide +kernel

/-- A swap that waits for the result of its row 0, which is there. -/
def swapRun : TblSwap := { r := reqD 0, desc := tbD, first := 0, count := 5, src := stackBase 0 + 65536, tag := some 8 }
def swapState : State :=
  { State.reset with tbl := { swaps := [(255, some swapRun)] }
                     inl := [(0, { results := [{ bytes := zeros 64, dest := U_TABLES, tag := 8 }] })] }

theorem wit_swapRow : swapState.swap 255 = some swapRun ∧
    unitPlace (tbD.extent tbD.rowOff (swapState.get (F.TBL_SWAP_CURSOR 255) - tbD.rowBase)) = (0, 0, 0) ∧
    (swapState.resultFor 0 0 U_TABLES).map (fun x => (some x.1.tag == swapRun.tag, failedRow x.1)) = some (true, E_NONE) := by
  decide +kernel

/-- A table descriptor that the checks of R277 accept. -/
def tblDescB : List Byte := padTo 128 ([255, 1] ++ leBytes 2 4096 ++ zeros 8 ++ leBytes 4 1 ++ leBytes 8 (stackBase 0 + 65536) ++ zeros 8 ++
  leBytes 4 0x7E800000)

theorem wit_tableEnable : (let s := (State.reset.putBytes (stackBase 0) tblDescB).set (F.TBL_DESC_BASE_ADDR 255) (stackBase 0)
    s.get (F.TBL_CTL_STATE 255) ≠ 1 ∧ (s.load (stackBase 0) 128).code = E_NONE ∧
      (s.load (stackBase 0) 128).st.tblReason 255 (s.load (stackBase 0) 128).data = 0) ∧
    (let s := State.reset.set (F.TBL_DESC_BASE_ADDR 255) (stackBase 0)
    s.get (F.TBL_CTL_STATE 255) ≠ 1 ∧ (s.load (stackBase 0) 128).code = E_NONE ∧
      (s.load (stackBase 0) 128).st.tblReason 255 (s.load (stackBase 0) 128).data ≠ 0) := by decide +kernel

/-! Text. -/

/-- The active image has one tokeniser, whose tables stand in stack 0. -/
def txtState : State :=
  let tk := padTo 128 (leBytes 4 1 ++ zeros 12 ++ leBytes 8 (2 ^ 64 - 1) ++ leBytes 8 (2 ^ 64 - 1) ++ leBytes 8 (2 ^ 64 - 1) ++
    leBytes 8 (2 ^ 64 - 1) ++ leBytes 2 4 ++ leBytes 2 16 ++ zeros 4 ++ leBytes 4 128 ++ leBytes 4 136)
  let s : State := { State.reset with img := { active := some { addr := stackBase 0, sections := [⟨7, 0, 0, 300, []⟩] } } }
  (s.putBytes (stackBase 0) (leBytes 4 1 ++ zeros 4 ++ leBytes 4 64 ++ leBytes 4 140)).putBytes (stackBase 0 + 64) tk

/-- A QUERY_TEXT of one letter. -/
def queryTextB : List Byte := msgB T_QUERY_TEXT (zeros 100 ++ leBytes 4 1 ++ zeros 8 ++ [0x61])

theorem wit_queryText : reqAt (withMsg txtState U_TEXT queryTextB) U_TEXT T_QUERY_TEXT queryTextB (fun r =>
    let u := (withMsg txtState U_TEXT queryTextB).popMsg 8191 queryTextB
    textQueryOk r.payload && (match u.tokeniser (at_ r.payload 97 1) with
      | some x => x.code == E_NONE && !x.st.cancelled r.src r.reqId && decide ((tkPrefix x.data ++
          (endText x.data (at_ r.payload 98 1 % 2 == 1) (feedText x.data (at_ r.payload 98 1 % 2 == 1) {} (r.payload.drop 112))).2.toks).length
            ≤ tkMaxQuery x.data)
      | none => false)) = true := by decide +kernel

/-- An open stream in the last slot, with ring 8190. -/
def txtS : TxtStream :=
  { r := { reqD 20 with reqId := 9, gten := 0 }, serial := 1, tok := 0, inReplace := false, outReplace := false, generate := true, stops := [],
    maxTokens := 4, ring := 8190, grammar := none }

/-- The stream is open. -/
def strState (x : TxtStream) : State := { txtState with txt := { streams := [(4095, some x)] } }

/-- A TEXT_STREAM with an opcode that names the stream. -/
def streamB (op : Nat) (text : List Byte) : List Byte :=
  msgB T_TEXT_STREAM (leBytes 1 op ++ [1, 0, 0, 0, 0, 0, 0] ++ leBytes 8 9 ++ leBytes 4 text.length ++ zeros 12 ++ text)

theorem wit_streamOpen : reqAt (withMsg txtState U_TEXT (streamB 1 [])) U_TEXT T_TEXT_STREAM (streamB 1 []) (fun r => at_ r.payload 0 1 == 1)
    = true := by decide +kernel

/-- What the other three need. -/
def streamReady (t : State) (m : List Byte) (op : Nat) (p : State → Req → TxtStream → Bool) : Bool :=
  reqAt (withMsg t U_TEXT m) U_TEXT T_TEXT_STREAM m fun r =>
    let u := (withMsg t U_TEXT m).popMsg 8191 m
    at_ r.payload 0 1 == op && streamLenOk r.payload && (match u.namedStream r with
      | some (n, x) => n == 4095 && p u r x
      | none => false)

theorem wit_streamInput : streamReady (strState txtS) (streamB 2 [0x61]) 2 (fun u _ x =>
    !x.promptDone && (u.tokeniser x.tok).map Acc.code == some E_NONE) = true := by decide +kernel

theorem wit_streamControl : streamReady ((strState txtS).set (F.TXT_CTRL_TEN_ALLOW 0) 2) (streamB 3 (leBytes 4 0)) 3 (fun u r x =>
    u.ctrlAllowed r.tenant && !x.promptDone && at_ r.payload 16 4 % 4 == 0 && (match u.tokeniser x.tok with
      | some a => a.code == E_NONE && !((tokenIds (at_ r.payload 16 4 / 4) (r.payload.drop 32)).any fun i => decide (tkVocab a.data ≤ i))
      | none => false)) = true := by decide +kernel

theorem wit_streamClose : streamReady (strState txtS) (streamB 4 []) 4 (fun _ r _ => at_ r.payload 16 4 == 0) = true := by decide +kernel

/-- A generated token for step 0 of the stream. -/
def txtGenB : List Byte := msgB T_TXT_GEN (leBytes 2 4095 ++ [0, 0] ++ leBytes 4 1 ++ leBytes 4 0 ++ leBytes 4 0)

theorem wit_txtGen : (withMsg (strState { txtS with awaiting := some 0 }) U_TEXT txtGenB).fails = [] ∧
    reqAt (withMsg (strState { txtS with awaiting := some 0 }) U_TEXT txtGenB) U_TEXT T_TXT_GEN txtGenB (fun r =>
      ((withMsg (strState { txtS with awaiting := some 0 }) U_TEXT txtGenB).popMsg 8191 txtGenB).stream (at_ r.payload 0 2) ==
        some { txtS with awaiting := some 0 } && at_ r.payload 4 4 == 1 && at_ r.payload 8 4 == 0 && decide (16 ≤ r.payload.length)) = true := by
  decide +kernel

/-- The stream waits for a mask that stands in stack 0. -/
def fetchS : TxtStream := { txtS with grammar := some 15, fetching := true, gdesc := { maskOff := stackBase 0 + 65536 } }

theorem wit_maskFetch : (strState fetchS).stream 4095 = some fetchS ∧ fetchS.gstate < fetchS.gdesc.states ∧
    (((strState fetchS).tokeniser 0).map fun t => (t.code,
      ((t.st.serveFor fetchS.r).load (fetchS.gdesc.maskOff + 0 * maskBytes (tkVocab t.data)) (maskBytes (tkVocab t.data))).code)) =
        some (E_NONE, E_NONE) := by decide +kernel

theorem wit_streamEnds : (strState txtS).stream 4095 = some txtS ∧ txtS.generating = false ∧
    (let s := { strState txtS with beat := { valid := true, beat := 20 } }
    s.stream 4095 = some txtS ∧ txtS.r.deadline ≠ 0 ∧ s.beat.valid = true ∧ beatAfter txtS.r.deadline s.beat.beat = false) := by decide +kernel

/-- A grammar descriptor that the checks of R319 accept. -/
def gramB : List Byte := padTo 64 (leBytes 4 65536 ++ [0, 0] ++ leBytes 2 65535 ++ leBytes 8 (stackBase 0 + 65536) ++
  leBytes 8 (stackBase 0 + 4194304) ++ leBytes 8 (stackBase 0 + 8388608))

theorem wit_grammar : (let s := (txtState.putBytes (stackBase 1) gramB).set (F.TXT_GRAM_BASE_ADDR 15) (stackBase 1)
    s.get (F.TXT_GRAM_CTL_STATE 15) ≠ 1 ∧ (s.load (stackBase 1) 64).st.gramReason (stackBase 1) (s.load (stackBase 1) 64) = 0) ∧
    (let s := txtState.set (F.TXT_GRAM_BASE_ADDR 15) (stackBase 1)
    s.get (F.TXT_GRAM_CTL_STATE 15) ≠ 1 ∧ (s.load (stackBase 1) 64).st.gramReason (stackBase 1) (s.load (stackBase 1) 64) ≠ 0) := by
  decide +kernel

/-! Flash carriers and STORAGE. -/

/-- Carrier 7 in a state. -/
def carAt (st : Nat) (x : CarrierSt) : State := { State.reset with fl := [(7, x)] }.set (F.FL_CAR_STATUS_STATE 7) st

/-- A carrier that is in its socket. -/
def carX : CarrierSt := { present := true, model := 1, sysValid := true, tierBlocks := 64 }

theorem wit_carrierInsert : (let s := State.reset.set F.NCTL_BOOT_STATE 3
    s.carState 7 = CS_ABSENT ∧ 7 < s.nCarriers ∧ 3 ≤ (s.setCar 7 carX).get F.NCTL_BOOT_STATE ∧ (s.setCar 7 carX).get F.NCTL_BOOT_STATE ≤ 6) ∧
    (let s := State.reset.set F.NCTL_BOOT_STATE 6
    s.carState 7 = CS_ABSENT ∧ (s.setCar 7 carX).get F.NCTL_BOOT_STATE ≤ 6) := by decide +kernel

theorem wit_carrierRemoved : ((carAt CS_ONLINE carX).car 7).present = true ∧
    (let u := (carAt CS_ONLINE carX).endOps 7 (some E_ABSENT)
    (u.setCar 7 { u.car 7 with present := false, running := 0, credit := 0 }).carState 7 ≠ CS_ABSENT) := by decide +kernel

theorem wit_carrierStates : (carAt CS_IDENTIFYING carX).carState 7 = CS_IDENTIFYING ∧ (carAt CS_MOUNTING carX).carState 7 = CS_MOUNTING ∧
    ((carAt CS_MOUNTING carX).setCarState 7 CS_FAILED).serving 7 = false ∧
    (((carAt CS_ONLINE carX).car 7).running = 0 ∧ (carAt CS_ONLINE carX).carState 7 = CS_ONLINE) ∧
    (((carAt CS_READ_ONLY carX).car 7).running = 0 ∧ (carAt CS_READ_ONLY carX).carState 7 = CS_READ_ONLY) ∧
    ((carAt CS_DETACHING carX).carState 7 = CS_DETACHING ∧ ((carAt CS_DETACHING carX).car 7).ops = []) ∧
    (((carAt CS_DETACHED carX).car 7).running = 0 ∧ (carAt CS_DETACHED carX).carState 7 = CS_DETACHED) := by decide +kernel

theorem wit_carrierFormat : (∀ st ∈ [CS_BLANK, CS_FOREIGN], ((carAt st carX).car 7).running = 0 ∧ (carAt st carX).carState 7 = st ∧
      ((carAt st carX).carResult 7 FR_OK).noIdentity = false ∧
      sysBlocks + ((carAt st carX).carResult 7 FR_OK).get (F.FL_CAR_PART_TIER_BLOCKS 7) ≤
        modelBlocks (((carAt st carX).carResult 7 FR_OK).car 7).model) ∧
    ((carAt CS_BLANK { carX with running := 1 }).car 7).running = 1 ∧ ((carAt CS_ONLINE { carX with running := 2 }).car 7).running = 2 := by
  decide +kernel

/-- A STORAGE request for the last block of the STORE partition of carrier 7; a WRITE pulls its data. -/
def storageB (op : Nat) : List Byte :=
  msgB T_STORAGE (padTo 32 (leBytes 1 op ++ [7, if op = 2 then 1 else 0, 0] ++ leBytes 4 (if op = 5 then 0 else 1) ++
    leBytes 8 (carX.storeBlocks - 1) ++ leBytes 6 (stackBase 0)))

theorem wit_storage : ∀ op ∈ [1, 2, 3, 4, 5], reqAt (withMsg (carAt CS_ONLINE carX) U_FLASH (storageB op)) U_FLASH T_STORAGE (storageB op)
    (fun r => at_ r.payload 0 1 == op && ((withMsg (carAt CS_ONLINE carX) U_FLASH (storageB op)).popMsg 8191 (storageB op)).storageCode r ==
      E_NONE) = true := by decide +kernel

/-- One request stands on carrier 7. -/
def opAt (op : Nat) (begun : Bool) : State :=
  carAt CS_ONLINE { carX with ops := [{ op := op, r := { reqD 20 with gten := 0 }, first := 8000000, count := 1, data := some [1], begun := begun }] }

theorem wit_storageEnds : (((opAt 4 true).car 7).ops.find? fun o => o.op == 4 && o.begun).isSome = true ∧ (opAt 4 true).flHeld 7 = false ∧
    (let u := (opAt 2 true).flBegin 7
    ((u.car 7).ops.find? fun o => o.r.src == 3 && o.r.reqId == 9).map (fun o => (o.op, o.begun)) = some (2, true) ∧ u.flHeld 7 = false) ∧
    (let s := { opAt 2 false with beat := { valid := true, beat := 20 } }
    (s.car 7).ops.map (fun o => (o.op, o.begun, s.writeLate o)) = [(2, false, true)]) := by decide +kernel

theorem wit_flashReadDone : 2047 < 2048 ∧ (carAt CS_ONLINE carX).serving 7 = true ∧
    3749999999 < modelBlocks ((carAt CS_ONLINE carX).car 7).model := by decide +kernel

theorem wit_reclaim : (let s := (carAt CS_ONLINE { carX with supers := [(5, { closed := true })] }).set (F.FL_CAR_STATUS_MODE 7) 1
    (s.car 7).victim = some 5 ∧ s.get (F.FL_CAR_STATUS_MODE 7) ≠ 0 ∧ s.flHeld 7 = false ∧ s.serving 7 = true) := by decide +kernel

theorem wit_carrierPower : (carAt CS_ONLINE carX).carPowered 7 = true ∧ (carAt CS_ONLINE carX).mounted 7 = true := by decide +kernel

/-! The port, traffic, the fabric's rows and its connections. -/

/-- The port is enabled and its link in a state. -/
def linkAt (st : Nat) : State := (State.reset.setBit F.PORT_CFG_ENABLE true).set F.PORT_STATUS_STATE st

/-- A frame of a length to the broadcast address. -/
def frameOf (n : Nat) : Frame := { len := n, fcsOk := true, dst := 0xFFFFFFFFFFFF, src := 2, tags := [], sec := none, ethertype := 0x88F7, body := .other }

theorem wit_port : State.reset.bit F.PORT_CFG_ENABLE = false ∧
    (∀ st ∈ [2, 6], (linkAt 3).bit F.PORT_CFG_ENABLE = true ∧ 2 ≤ st ∧ st ≤ 6 ∧ (linkAt 3).linkState ≠ LK_NEGOTIATING ∧
      (st = LK_TRAINING → crMode (linkAt 3).port.mode = true) ∧ (st = 6 → st ≠ LK_NEGOTIATING)) ∧
    (∀ n ∈ [64, 9216], (linkAt 4).linkState = LK_UP ∧ 64 ≤ (frameOf n).len ∧ (frameOf n).len ≤ 9216 ∧ (frameOf n).ethertype ≠ 0x8808 ∧
      (linkAt 4).takesAddr (frameOf n).dst = true) := by decide +kernel

theorem wit_pfc : (let s : State := { State.reset with port := { pauseUntil := [(7, 100)], xoffSent := [(7, 1)] } }
    smGet (fun _ => 0) s.port.pauseUntil 7 ≠ 0 ∧ smGet (fun _ => 0) s.port.xoffSent 7 ≠ 0 ∧
      smGet (fun _ => 0) ((s.reach (1 - 1 + s.quantaNs (s.get F.PORT_PFC_QUANTA) / 2)).setShare 7 1000000).port.xoffSent 7 ≠ 0) := by
  decide +kernel

theorem wit_fecWindow : (let u := (State.reset.bump F.PORT_FEC_CNT_CORRECTED 1).bump F.PORT_FEC_CNT_UNCORRECTED (2 ^ 32)
    u.get F.PORT_FEC_CFG_DEGRADE_THR ≤ 2 ^ 32 ∧ u.port.fecRaised = false) ∧
    0 < ((State.reset.bump F.PORT_FEC_CNT_CORRECTED 1).bump F.PORT_FEC_CNT_UNCORRECTED 0).get F.PORT_FEC_CFG_DEGRADE_THR := by decide +kernel

/-- A frame of 1,538 wire bytes. -/
def qf : QFrame := { body := .pkt {}, wire := 1538, enq := 0, depth := 1 }

/-- The link is UP and a class has one frame. -/
def queueAt (c tokens : Nat) : State := { linkAt 4 with ts := { queue := [(c, [qf])], tokens := tokens } }.set F.TS_EXP_EXP_BURST 65535

theorem wit_txSlot : ((queueAt 7 (65536 * 8000)).get F.PORT_STATUS_STATE = 4 ∧
      (let u := ((queueAt 7 (65536 * 8000)).reach 0).fillTokens
    u.tsQueue 7 = [qf] ∧ u.tsEligible 7 = true ∧ qf.wire * 8000 ≤ u.ts.tokens)) ∧
    (let u := ((queueAt 6 0).reach 0).fillTokens
    u.tsEligible 7 = false ∧ u.drrPick.1 = some 6 ∧ u.drrPick.2.tsQueue 6 = [qf]) ∧
    ((queueAt 7 0).fillTokens.tsQueue 7 = [qf] ∧ (queueAt 7 0).fillTokens.ts.tokens < qf.wire * 8000) := by decide +kernel

theorem wit_beatOfTraffic : (let s := { withBeat { valid := true, beat := 0 } with ts := { list := some 1 } }
    s.ts.list = some 1 ∧ s.beat.valid = true ∧ s.gateEntry = s.ts.entry) ∧
    (let s := (withBeat { valid := true, beat := 0 }).setBit F.TS_SAMPLE_CTL_EN true
    s.bit F.TS_SAMPLE_CTL_EN = true ∧ s.beat.valid = true ∧ s.beat.beat % s.get F.TS_SAMPLE_CTL_PERIOD = 0 ∧ s.ts.sampledAt ≠ some 0) := by
  decide +kernel

theorem wit_fabricRows : ({ op := OP_MERGE } : Packet).op = OP_MERGE ∧ ({ op := OP_READ_RESP } : Packet).op = OP_READ_RESP ∧
    ({ op := OP_ATOMIC_RESP } : Packet).op = OP_ATOMIC_RESP ∧ ({ op := OP_HALDIO, data := [0, 0x02] } : Packet).op = OP_HALDIO ∧
    (∀ ty ∈ [T_CANCEL, T_REDIRECT], at_ ({ op := OP_HALDIO, data := 0 :: leBytes 1 ty } : Packet).data 1 1 = ty) ∧
    (let s : State := { State.reset with sko := { flagWait := [{ op := OP_WRITE_FLAG }], cancels := [⟨3, 9, 5⟩] } }
    s.sko.flagWait ≠ [] ∧ (s.sko.cancels.find? fun c => c.src == 3 && c.reqId == 9) = some ⟨3, 9, 5⟩) := by decide +kernel

/-- Both ends of a connection, of class 7 with node 3. -/
def connAt (t : TxConn) (r : RxConn) : State := { State.reset with sko := { tx := [(31, t)], rx := [(31, r)] } }

/-- A sending end with one packet on its way. -/
def txC : TxConn := { unacked := [⟨{ psn := 5 }, 0⟩] }

/-- What a peer acknowledges. -/
def ackI : AckInfo := { peer := 3, cls := 7, next := 6, opId := 11, code := E_MEDIA }

theorem wit_acks : connKey ackI.peer ackI.cls = 31 ∧ ((connAt txC {}).bump F.SKO_CNT_RX_PACKETS 1).txOf 31 = some txC ∧
    (((((connAt txC {}).bump F.SKO_CNT_RX_PACKETS 1).onAck ackI).txOf 31).map fun c =>
      decide ((c.again ackI.next c.unacked).rnrCount + 1 <
        (((connAt txC {}).bump F.SKO_CNT_RX_PACKETS 1).onAck ackI).get F.SKO_CFG2_RNR_MAX)) = some true ∧
    (let s : State := { State.reset with sko := { ops := [{ opId := 11, dst := 3, cls := 7 }] } }
    ((s.bump F.SKO_CNT_RX_PACKETS 1).opsOn 31).any (fun o => o.opId == 11) = true) := by decide +kernel

theorem wit_connection : ((connAt txC {}).bump F.SKO_CNT_RX_PACKETS 1).sko.recd.mode < 2 ∧
    ((connAt txC {}).txOf 31 = some txC ∧ txC.unacked = [⟨{ psn := 5 }, 0⟩] ∧
      (let u := ((connAt txC {}).reach (txC.rto + 0)).bump F.SKO_CNT_REL_TIMEOUTS 1
    txC.doublings < u.get F.SKO_CFG_RETRY_MAX ∧ u.get F.SKO_CFG_RETRY_MAX ≤ 15)) ∧
    ((connAt { txC with doublings := 15 } {}).txOf 31).map TxConn.doublings = some 15 ∧
    ((connAt {} { unackedApplied := 1 }).rxOf 31).map (fun c => (c.unackedApplied, c.gapSince)) = some (1, none) ∧
    ((connAt {} {}).rxOf 31).map (fun c => (c.held.isEmpty, c.part.isEmpty, c.unackedApplied)) = some (true, true, 0) ∧
    ((connAt {} {}).txOf 31).map (fun c => (c.unacked.isEmpty, c.waiting.isEmpty)) = some (true, true) ∧
    ((connAt {} {}).opsOn 31).isEmpty = true := by decide +kernel

theorem wit_connTimers : ((connAt { penal := [(15, 100)] } {}).txOf 31).map (fun c => smGet (fun _ => 0) c.penal 15) = some 100 ∧
    (let s := { connAt {} {} with beat := { valid := true, beat := 1 } }
    s.beat.valid = true ∧ (s.txOf 31).map (fun c => (c.incBeat == s.beat.beat, c.cnpSeen)) = some (false, false)) ∧
    ((connAt { rnrHold := true } {}).txOf 31).map TxConn.rnrHold = some true ∧
    ((connAt { waiting := [{}] } {}).txOf 31).map (fun c => (c.waiting.isEmpty, c.rnrHold)) = some (false, false) := by decide +kernel

/-! Movers, check values and parity. -/

/-- A channel in a state, its ring in stack 0. -/
def movAt (n st : Nat) : State := (State.reset.openDescRing (movRing n) (stackBase 0) 12).setMovState n st

/-- A descriptor stands at the head of the channel's ring. -/
def movDesc (n st : Nat) (d : List Byte) : State := ((movAt n st).putNum (stackBase 0 + 4096) 8 64).putBytes (stackBase 0) (padTo 64 d)

theorem wit_movEnable : (∀ lg ∈ [12, 24], nodeChannel 62 = false ∧ (let s := (State.reset.set (F.MOV_CH_RING_ADDR 62) (stackBase 1)).set (F.MOV_CH_RING_SIZE_LOG2 62) lg
    s.movState 62 = MV_DISABLED ∧ s.descRingOk (s.get (F.MOV_CH_RING_ADDR 62)) (s.get (F.MOV_CH_RING_SIZE_LOG2 62)) = true)) := by decide +kernel

theorem wit_movStart : ∀ op ∈ [1, 2, 3, 4, 5, 6], (movDesc 63 MV_IDLE (leBytes 1 op)).movState 63 = MV_IDLE ∧
    ((movDesc 63 MV_IDLE (leBytes 1 op)).movCh 63).run = none ∧
    ((movDesc 63 MV_IDLE (leBytes 1 op)).movHead 63).map (fun x => (x.code, mdOp x.data)) = some (E_NONE, op) := by decide +kernel

/-- The channel runs a descriptor. -/
def movRunning (n : Nat) (r : MovRun) : State := (movAt n MV_RUNNING).setMovCh n { run := some r }

/-- A FILL of 128 bytes, paced by line 224. -/
def fillD : List Byte := padTo 64 ([5, 0] ++ leBytes 2 224 ++ zeros 20 ++ leBytes 4 128 ++ leBytes 4 1)

theorem wit_movDone : (let r : MovRun := { desc := fillD, pos := 128 }
    ((movRunning 63 r).movCh 63).run = some r ∧ (((movRunning 63 r).movReads 63 []).movWrites 63 []).movCh 63 = { run := some r } ∧
      r.pos = mdTotal r.desc) := by decide +kernel

theorem wit_movPace : (let r : MovRun := { desc := fillD }
    ((movRunning 62 r).movCh 62).run = some r ∧ mdPaced r.desc = true ∧ r.pos < mdTotal r.desc ∧ nodeChannel 62 = false) ∧
    State.reset.get (F.MOV_TIMER_PERIOD_NS 15) = 0 ∧ (State.reset.set (F.MOV_TIMER_PERIOD_NS 15) 1).get (F.MOV_TIMER_PERIOD_NS 15) ≠ 0 := by
  decide +kernel

theorem wit_movStates : nodeChannel 62 = false ∧ ∀ st ∈ [MV_IDLE, MV_WAITING, MV_RUNNING, MV_STOPPED, MV_HALTED], (movAt 62 st).movState 62 = st := by
  decide +kernel

theorem wit_chk : State.reset.chkHeld 15 = false ∧ (State.reset.setBit (F.CHK_CTRL_HELD 15) true).chkHeld 15 = true ∧ 7 % 8 ≠ 0 ∧
    State.reset.evt.quiet = true ∧ State.reset.chkMatch 15 = true ∧ (State.reset.set (F.CHK_EXPECT_VALUE 15) 1).chkMatch 15 = false := by
  decide +kernel

/-- A job waits in the node controller's queue. -/
def parAt0 (op : Nat) : State := { State.reset with mov := { jobs := [(0, padTo 320 (leBytes 1 op))] } }.set F.PAR_STATUS_Q0 PQ_IDLE

/-- A job waits in queue 1's ring. -/
def parAt1 (op : Nat) : State :=
  (((State.reset.openDescRing parRing (stackBase 0) 12).putNum (stackBase 0 + 4096) 8 320).putBytes (stackBase 0) (leBytes 1 op)).set F.PAR_STATUS_Q1
    PQ_IDLE

theorem wit_parStart : ∀ op ∈ [1, 2, 3, 4],
    ((parAt0 op).parTurn 0 = true ∧ ((parAt0 op).parHead 0).map (fun x => (x.code, pjOp x.data)) = some (E_NONE, op)) ∧
    ((parAt1 op).parTurn 1 = true ∧ ((parAt1 op).parHead 1).map (fun x => (x.code, pjOp x.data)) = some (E_NONE, op)) := by decide +kernel

theorem wit_parDone : (let r : ParRun := { queue := 1, job := zeros 320, code := E_MALFORMED }
    let s : State := { State.reset with mov := { job := some r } }
    s.mov.job = some r ∧ r.queue = 1 ∧ r.code ≠ E_NONE) ∧
    (let r : ParRun := { queue := 0, job := zeros 320, code := E_NONE }
    let s : State := { State.reset with mov := { job := some r } }
    s.mov.job = some r ∧ r.queue = 0 ∧ (State.parFlag { s with mov := { s.mov with job := none } } r.job).1 = E_NONE) := by decide +kernel

theorem wit_parStates : State.reset.bit F.PAR_CFG_EN = false ∧
    (let s := (State.reset.set F.PAR_RING_ADDR (stackBase 1)).set F.PAR_RING_SIZE_LOG2 12
    s.bit F.PAR_CFG_EN = false ∧ s.descRingOk (s.get F.PAR_RING_ADDR) (s.get F.PAR_RING_SIZE_LOG2) = true) ∧
    (State.reset.set F.PAR_STATUS_Q1 PQ_HALTED).get F.PAR_STATUS_Q1 = PQ_HALTED := by decide +kernel

/-! Identity, resets, seals and recovery. -/

/-- The identity block has a secret, and ARG_ADDR names stack 0. -/
def secState (x : SecSt) : State := { State.reset with sec := x }.set F.SEC_ARG_ADDR (stackBase 0)

theorem wit_claim : (secState { secret := some [1] }).secRuns = false ∧ (secState { secret := some [1] }).noIdentity = false ∧
    (secState { secret := some [1] }).secAddrOk (stackBase 0) 626 = true ∧
    ((secState { secret := some [1] }).load (stackBase 0) 626).code = E_NONE ∧
    ((secState { secret := some [1] }).load (stackBase 0) 626).st.sec.secret = some [1] := by decide +kernel

theorem wit_claimReadback : (secState { claim := some ⟨[1], true⟩ }).sec.claim = some ⟨[1], true⟩ ∧ ([2] : List Byte) ≠ [1] := by decide +kernel

theorem wit_quote : (secState { secret := some [1] }).bit F.SEC_STATUS_QUOTE_BUSY = false ∧
    (secState { secret := some [1] }).secAddrOk (stackBase 0) 544 = true ∧ touchesGraph (stackBase 0) 544 = false ∧
    (secState { secret := some [1] }).secAddrOk (stackBase 0) 288 = true ∧ touchesGraph (stackBase 0) 288 = false ∧
    ((secState { quote := some ⟨stackBase 0, [1, 2]⟩ }).store (stackBase 0) [1, 2]).1 = E_NONE := by decide +kernel

/-- An image with a security version runs; vendor slot 3 has signed it. -/
def secImage (svn : Nat) : State :=
  { secState { floor := 63, slots := [{}, {}, {}, { mask := 1 }] } with img := { active := some { svn := svn, vendor := [3] } } }

theorem wit_floor : (secImage 64).secRuns = false ∧ (secImage 64).img.active = some { svn := 64, vendor := [3] } ∧
    (secImage 64).sec.floor < min 64 64 ∧ (secState { raising := some 64 }).sec.raising = some 64 ∧
    (secImage 64).sec.slots[3]? = some { mask := 1 } ∧ 3 ∈ [3] ∧ 3 ≠ 0 := by decide +kernel

theorem wit_reset : State.reset.dead = false ∧ (∀ c ∈ [(1, 671), (2, 63), (3, 11), (5, 1), (14, 0)], State.reset.scopeOk c.1 c.2 = true) ∧
    State.reset.ctl.reset = none ∧ State.reset.evt.quiet = true ∧ State.reset.ctl.boot.low = false ∧
    ({ State.reset with ctl := { boot := { low := true } } } : State).ctl.boot.low = true ∧
    (∀ q ∈ [none, some (reqD 0)], ({ State.reset with ctl := { reset := some ⟨1, 0, q, 0⟩ } } : State).ctl.reset = some ⟨1, 0, q, 0⟩) := by
  decide +kernel

/-- A CONTROL with a kind. -/
def controlB (kind : Nat) (rest : List Byte) : List Byte := msgB T_CONTROL (padTo 32 (leBytes 1 kind ++ rest))

/-- What every CONTROL needs, and more for one. -/
def ctlReady (t : State) (kind : Nat) (rest : List Byte) (p : State → Req → Bool) : Bool :=
  reqAt (withMsg t U_NCTL (controlB kind rest)) U_NCTL T_CONTROL (controlB kind rest) fun r =>
    at_ r.payload 0 1 == kind && r.payload.length == 32 && p ((withMsg t U_NCTL (controlB kind rest)).popMsg 8191 (controlB kind rest)) r

theorem wit_controlReset : ctlReady State.reset 1 [14] (fun u r =>
    decide (0 < at_ r.payload 1 1) && u.scopeOk (at_ r.payload 1 1) (at_ r.payload 2 2) && u.ctl.reset.isNone) = true := by decide +kernel

theorem wit_periodicSeal : (let s := (withBeat { valid := true, beat := 1000 }).set F.NCTL_SEAL_CFG_PERIOD 500
    s.beat.valid = true ∧ 0 < s.get F.NCTL_SEAL_CFG_PERIOD ∧ s.beatNow % s.get F.NCTL_SEAL_CFG_PERIOD = 0) := by decide +kernel

/-- A group of one data shard and two parity shards. -/
def groupD : GroupDesc := { n := 1, members := [0, 1, 2] }

/-- A seal of one stripe whose three writes have been answered. -/
def sealRun : State :=
  { State.reset with epochs := { group := some groupD, count := 1, writes := [⟨0, 0, none, some 0⟩, ⟨0, 1, none, some 0⟩, ⟨0, 2, none, some 0⟩] } }.set
    F.NCTL_SEAL_STATUS_STATE SL_WRITING

theorem wit_sealEnd : sealRun.sealStep.sealState = SL_WRITING ∧ sealRun.sealStep.epochs.fail = 0 ∧ sealRun.sealStep.epochs.answered = true ∧
    sealRun.sealStep.epochs.group = some groupD := by decide +kernel

/-- A group is enabled. -/
def grpState : State := { State.reset with epochs := { group := some groupD } }

theorem wit_rebuild : ctlReady grpState 2 ([0, 0, 0, 0, 0, 0, 0] ++ leBytes 4 5 ++ leBytes 4 5 ++ leBytes 4 2 ++ leBytes 6 (stackBase 0)) (fun u r =>
    u.rebuildCode r.payload == E_NONE && u.epochs.group == some groupD && (recSlots.find? fun k => !u.recLive k) == some 0) = true := by
  decide +kernel

theorem wit_recovery : ctlReady (grpState.setRecState 7 RS_HELD 0) 3 [0, 7] (fun u r =>
      at_ r.payload 2 2 == 7 && u.epochs.group == some groupD && u.recState 7 == RS_HELD) = true ∧
    ctlReady (grpState.setRecState 7 RS_RUNNING 0) 4 [0, 7] (fun u r => at_ r.payload 2 2 == 7 && u.recLive 7) = true ∧
    ctlReady grpState 5 [] (fun u _ => u.epochs.released.isNone) = true ∧
    ctlReady ((grpState.set F.NCTL_SEAL_STATUS_STATE SL_HELD).set F.NCTL_UEPOCH_HELD 6) 6 ([0, 0, 0, 0, 0, 0, 0] ++ leBytes 4 6) (fun u r =>
      !u.epochs.group.isNone && u.sealState == SL_HELD && u.get F.NCTL_UEPOCH_HELD == at_ r.payload 8 4) = true := by decide +kernel

/-- A rebuild that waits for the answer to its own write. -/
def stripeState : State :=
  { grpState.setRecState 7 RS_RUNNING 0 with ctl := { recs := [(7, { stage := 3, ask := some (77, 0) })] }, sko := { inbox := [⟨77, U_NCTL, T_RESULT, 2, []⟩] } }

theorem wit_stripe : stripeState.recState 7 = RS_RUNNING ∧ stripeState.recSlot 7 = { stage := 3, ask := some (77, 0) } ∧
    (stripeState.askCode 77).map Prod.fst = some 0 := by decide +kernel

/-- A group descriptor of this node and two others that has been read before, with its carrier in place. -/
def groupReady (b : List Byte) : State :=
  ((carAt CS_ONLINE carX).putBytes (stackBase 0) (padTo 128 b)).set F.NCTL_GROUP_ADDR (stackBase 0)

/-- Its carrier 7 is ONLINE, and its GROUP_ID 5 has been seen. -/
def groupFound : State :=
  { groupReady ([1, 0, 5, 0, 7] ++ zeros 11 ++ leBytes 4 1 ++ zeros 12 ++ leBytes 2 0 ++ leBytes 2 1 ++ leBytes 2 2) with epochs := { lastGid := some 5 } }

theorem wit_groupEnable : (let x := groupFound.load (stackBase 0) 128
    groupFound.bit F.NCTL_GROUP_EN = false ∧ x.code = E_NONE ∧ groupFound.get F.NCTL_GROUP_ADDR % 128 = 0 ∧
      x.st.groupReason (groupOf x.data) = 0 ∧ x.st.epochs.lastGid = some (groupOf x.data).gid) ∧
    (let x := (groupReady []).load (stackBase 0) 128
    (groupReady []).bit F.NCTL_GROUP_EN = false ∧ x.code = E_NONE ∧ (groupReady []).get F.NCTL_GROUP_ADDR % 128 = 0 ∧
      x.st.groupReason (groupOf x.data) ≠ 0) := by decide +kernel

/-! Windows, startup and power. -/

/-- Script 15 runs, of a kind. -/
def scriptAt (kind : Nat) : State := { State.reset with ctl := { scripts := [(15, some { until_ := 100 })] } }.set (F.EVT_RH_CFG_KIND 15) kind

theorem wit_rehearsalEnd : ∀ kind ∈ [0, 4], (scriptAt kind).script 15 = some { until_ := 100 } ∧
    ((((scriptAt kind).reach 100).setScript 15 none).raise EV_REHEARSAL_END 0 [0]).get (F.EVT_RH_CFG_KIND 15) = kind := by decide +kernel

/-- A shim window is open. -/
def shimState (target beat : Nat) : State :=
  { withBeat { valid := true, beat := beat } with ctl := { shim := some { target := target, from_ := 5, until_ := 10 } } }

theorem wit_shimClose : (shimState 7 10).ctl.shim = some { target := 7, from_ := 5, until_ := 10 } ∧ beatAfter 10 (shimState 7 10).beatNow = false := by
  decide +kernel

/-- Channel 31 of stack 11 retrains. -/
def retrainState : State := { State.reset with stk := [(11, { retrain := some 31 })] }

theorem wit_retrain : 11 < retrainState.nStacks ∧ (retrainState.stkSt 11).retrain = some 31 := by decide +kernel

/-- Unit 255 of stack 11 is being trimmed, with the window open or not. -/
def trimState (target : Nat) : State :=
  ({ shimState target 6 with stk := [(11, { trimming := some 255 })] }).setUnitState 11 255 US_TRIM

theorem wit_trim : ∀ c ∈ [(2, true), (1, false)], 11 < (trimState c.1).nStacks ∧ ((trimState c.1).stkSt 11).trimming = some 255 ∧
    (trimState c.1).unitState 11 255 = US_TRIM ∧
    (((trimState c.1).setStk 11 { (trimState c.1).stkSt 11 with trimming := none }).resumeUnit 11 255).windowFor 1 = c.2 ∧
    (c.2 = false → ((((trimState c.1).setStk 11 { (trimState c.1).stkSt 11 with trimming := none }).resumeUnit 11 255).raise EV_INLAY_TRIM_FAIL
      (11 * 256 + 255) []).windowFor 1 = false) := by decide +kernel

theorem wit_calibration : (let s := { carAt CS_ONLINE { carX with classes := [(2047, { mark := true })] } with
                                        ctl := { shim := some { target := 4, from_ := 5, until_ := 10 } } }
    s.serving 7 = true ∧ (smGet (fun _ => ({} : ReadClass)) (s.car 7).classes 2047).mark = true ∧ s.shimFor 2 = true) := by decide +kernel

/-- A request of 64 bytes that waits out a delay. -/
def delayState : State := { State.reset with sko := { delayed := [⟨3, 1, 0, msgB T_QUERY_LS (zeros 32), 100⟩] } }

theorem wit_delay : (delayState.sko.delayed.find? fun h => h.src == 3 && at_ h.msg 8 8 == 9) = some ⟨3, 1, 0, msgB T_QUERY_LS (zeros 32), 100⟩ ∧
    (delayState.reach 100).landRoom 1 0 64 (msgB T_QUERY_LS (zeros 32)) = true := by decide +kernel

theorem wit_payloadDeadline : (let j := { payJ with r := reqD 20 }
    let s : State := { withBeat { valid := true, beat := 20 } with sel := { pays := [j] } }
    s.payJob 3 9 = some j ∧ s.finalBeat j.r.deadline = true ∧ j.ask = some 77) := by decide +kernel

/-- A phase of startup. -/
def phaseAt (p : Nat) : State := State.reset.set F.NCTL_BOOT_STATE p

theorem wit_phases : (phaseAt BP_ROM).phaseNow = BP_ROM ∧ (phaseAt BP_ROM).sec.slots = [] ∧ (phaseAt BP_IDENTITY).phaseNow = BP_IDENTITY ∧
    (phaseAt BP_IDENTITY).ctl.boot.idDone = false ∧ (phaseAt BP_MEMORY).phaseNow = BP_MEMORY ∧ (phaseAt BP_MEMORY).ctl.boot.memDone = false := by
  decide +kernel

theorem wit_carrierBoot : ∀ st ∈ [CS_ONLINE, CS_READ_ONLY, CS_FAILED, CS_MOUNTING],
    (let s := (phaseAt BP_CARRIERS).set (F.FL_CAR_STATUS_STATE 0) st
    s.phaseNow = BP_CARRIERS ∧ s.ctl.boot.tried = 0 ∧ s.carState 0 = st ∧
      (st = CS_FAILED → s.carState 0 ≠ CS_ONLINE ∧ s.carState 0 ≠ CS_READ_ONLY ∧ s.bootable 0 = false)) := by decide +kernel

/-- An image runs; carrier 0 is ONLINE. -/
def saveState (b : BootSt) : State :=
  { State.reset with img := { active := some { len := 2 ^ 32 } }, ctl := { boot := b } }.set (F.FL_CAR_STATUS_STATE 0) CS_ONLINE

theorem wit_bootSave : (saveState {}).get F.NCTL_BOOT_CTL_CARRIER = 0 ∧ (saveState {}).ctl.boot.save = none ∧
    (saveState {}).img.active = some { len := 2 ^ 32 } ∧ (saveState {}).carState 0 = CS_ONLINE ∧
    (let s := saveState { save := some 0 }
    let u := (s.setBoot { s.ctl.boot with save := none }).setBit F.NCTL_BOOT_CTL_SAVE_BUSY false
    s.ctl.boot.save = some 0 ∧ u.img.active = some { len := 2 ^ 32 } ∧ u.carState 0 = CS_ONLINE) := by decide +kernel

/-- The node with a package power and temperatures shown. -/
def shownW (w : Nat) (die stk : Nat) : State :=
  (State.reset.set F.NCTL_PWR_CAP_PKG_W (min w 65535)).showTemps (State.reset.sensors [die] [stk]).1 (State.reset.sensors [die] [stk]).2

theorem wit_power : (shownW 60000 40 40).bit F.NCTL_THERM_ALERT = false ∧ (shownW 60000 40 40).get F.NCTL_PWR_CAP_CAP_W < 60000 ∧
    (let u := shownW 100 40 40
    ([40].any (fun x => decide (u.get F.NCTL_THERM_CFG_THROT_T ≤ x)) || [40].any (fun x => decide (u.get F.NCTL_THERM_CFG_STK_THROT_T ≤ x))) = false ∧
      u.bit F.NCTL_THERM_ALERT = false ∧ 100 ≤ u.get F.NCTL_PWR_CAP_CAP_W ∧
      100 * 256 < u.get F.NCTL_PWR_CAP_CAP_W * (256 - u.get F.NCTL_PWR_CAP_HYST) ∧
      [40].all (fun x => decide (x + 5 ≤ u.get F.NCTL_THERM_CFG_THROT_T)) = true ∧
      [40].all (fun x => decide (x + 5 ≤ u.get F.NCTL_THERM_CFG_STK_THROT_T)) = true) ∧ State.reset.sensors [40] [40] = ([40], [40]) := by decide +kernel

theorem wit_thermal : (let t := State.reset.sensors [127] [40]
    (t.1.any (fun x => decide (State.reset.get F.NCTL_THERM_CFG_ALERT_T ≤ x)) || t.2.any fun x => decide (State.reset.get F.NCTL_THERM_CFG_STK_ALERT_T ≤ x)) = true ∧
      (State.reset.showTemps t.1 t.2).bit F.NCTL_THERM_ALERT = false) ∧
    (let t := State.reset.sensors [40] [40]
    (t.1.all (fun x => decide (x + 5 ≤ State.reset.get F.NCTL_THERM_CFG_ALERT_T)) &&
      t.2.all fun x => decide (x + 5 ≤ State.reset.get F.NCTL_THERM_CFG_STK_ALERT_T)) = true) := by decide +kernel

/-! The machine as a whole, rules of registers, frames. -/

/-- A queue of well-formed commands. -/
def queueState : State := { State.reset with pending := [.tailWrite 8191 64, .scrub 11 0x7FFFFFFFF, .nodeReset] }

theorem wit_queue : queueState.wellFormed = true ∧ steps 2 queueState = some { queueState with pending := [.nodeReset] } ∧
    (State.reset.pending = [] ∧ State.reset.evt.quiet = true) := by
  refine ⟨by decide, ?_, by decide +kernel⟩
  decide +kernel

/-- Commands that are not well-formed. -/
theorem wit_illFormed : (Instr.tailWrite 8192 0).wf = false ∧ ofPins (.tailWrite 8192 0) = false ∧ State.reset.dead = false := by decide +kernel

/-- RESET_N is low. -/
theorem wit_held : ({ State.reset with ctl := { boot := { low := true } } } : State).dead = true ∧ ofPins .nodeReset = false := by decide +kernel

/-- Ring 8191 of 4 KiB with its words at 64. -/
def tailState : State :=
  let r : RingSt := { base := 0, size := 4096 }
  ((State.reset.setRing 8191 r).putNum r.tailAddr 8 64).putNum r.headAddr 8 64

theorem wit_invalidTail : 0 < (tailState.ring 8191).size ∧ (∀ v ∈ [0, 65, 4224], v ≠ tailState.tailOf 8191 ∧
    (v % 64 ≠ 0 ∨ v < tailState.tailOf 8191 ∨ tailState.headOf 8191 + (tailState.ring 8191).size < v)) := by decide +kernel

theorem wit_armed : (State.reset.set (F.BEAT_EVT_CTL_STATE 255) 1).entState 255 = 1 ∧
    (State.reset.set (F.BEAT_EVT_CTL_STATE 255) 1).evt.quiet = true ∧ State.reset.entState 255 ≠ 1 ∧ smWf regReset State.reset.regs = true ∧
    smWf regReset (State.reset.set (F.BEAT_EVT_CTL_STATE 255) 1).regs = true ∧ 3 % 4 = 3 ∧ 2 % 4 = 2 := by decide +kernel

theorem wit_walkerCfg : (∀ v ∈ [9 + 65536 * 1, 8 + 65536 * 0, 8 + 65536 * 13], 8 < fv (v % 2 ^ 64) F.WLK_CFG_PREFETCH_CAP ∨
      fv (v % 2 ^ 64) F.WLK_CFG_INSERT_SLOTS = 0 ∨ 12 < fv (v % 2 ^ 64) F.WLK_CFG_INSERT_SLOTS) ∧
    (let s := State.reset.set (F.WLK_IDX_CTL_STATE 63) 1
    smWf regReset s.regs = true ∧ s.get (F.WLK_IDX_CTL_STATE 63) = 1) := by decide +kernel

theorem wit_secCtrl : 1 < bitCount (0x30 % 2 ^ 64) [0, 1, 2, 3, 4, 5] ∧ smWf regReset (secState { raising := some 1 }).regs = true ∧
    (secState { raising := some 1 }).secRuns = true := by decide +kernel

/-- TEL_CTRL with VIEW set. -/
theorem wit_view : snapped (Reg.TEL_TEN 255 15) = true ∧ State.reset.bit F.TEL_CTRL_VIEW = false ∧
    (State.reset.setBit F.TEL_CTRL_VIEW true).bit F.TEL_CTRL_VIEW = true := by decide +kernel

/-- Unit 15 set up for a row of the table of R445. -/
def chkAt (row : Nat × Nat × Nat × Nat × Nat × Nat) : State :=
  (((((State.reset.set (F.CHK_CFG_WIDTH 15) row.1).set (F.CHK_POLY_VALUE 15) row.2.1).set (F.CHK_INIT_VALUE 15) row.2.2.1).set (F.CHK_CFG_REFIN 15)
    row.2.2.2.1).set (F.CHK_CFG_REFOUT 15) row.2.2.2.1).set (F.CHK_XOROUT_VALUE 15) row.2.2.2.2.1

theorem wit_checkRow : (let row := (64, 0x42F0E1EBA9EA3693, 0xFFFFFFFFFFFFFFFF, 1, 0xFFFFFFFFFFFFFFFF, 0x995DC9BBDF1939FA)
    let s := chkAt row
    s.dead = false ∧ s.evt.quiet = true ∧ smWf regReset s.regs = true ∧ s.get (F.CHK_CTRL_HELD 15) = 0 ∧ s.get (F.CHK_CFG_WIDTH 15) = row.1 ∧
      s.get (F.CHK_POLY_VALUE 15) = row.2.1 ∧ s.get (F.CHK_INIT_VALUE 15) = row.2.2.1 ∧ s.get (F.CHK_CFG_REFIN 15) = 1 ∧
      s.get (F.CHK_CFG_REFOUT 15) = 1 ∧ s.get (F.CHK_XOROUT_VALUE 15) = row.2.2.2.2.1) := by decide +kernel

theorem wit_alias : findReg (0xF00010000000 + 671 * 0x100000 + 0) = none ∧ inControlRange (0xF000A0000000 + 671 * 0x100000 + 0) = true ∧
    (findReg (0xF000A0000000 + 671 * 0x100000)).isSome = true := by decide +kernel

theorem wit_noRegister : (findReg (canonOff 0xF000A0000008) = none ∧ inControlRange 0xF000A0000008 = true) ∧
    (0xF00001000001 % 8 ≠ 0 ∧ inControlRange 0 = false) := by decide +kernel

theorem wit_absentReg : (State.reset.set F.NCTL_ID_STACKS 9).absentReg (Reg.STK_STATUS 11) = true := by decide +kernel

/-- Every frame is about a next state, and here is one for each way in which it is reached. -/
theorem wit_frames : (match exec (.disarm 255) State.reset with | .next _ => true | _ => false) = true ∧
    (match exec (.tailWrite 8191 128) tailState with | .next t => t.tailOf 8191 == 128 | _ => false) = true ∧
    (match exec (.chkStart 15) State.reset with | .next _ => true | _ => false) = true := by decide +kernel

/-! WellFormed: each check of each command refuses a number one too large, and takes the largest that is in range. -/

theorem test_wf_refuses_1 : ((
    [.tailWrite 8192 0, .creditReturn 8192 0, .tokenTake 672, .arm 256, .disarm 256, .panelDrainDone 64, .panelDrainTimeout 64,
     .panelLoadStart 64, .panelLoadDone 64, .panelActivated 64, .matmul 672, .reduce 672, .rotate 672, .quantise 672, .dequantise 672,
     .elemwise 672, .activate 672, .normalise 672, .attend 672, .pqTable 672, .denseScan 672, .coarse 672, .rerank 672, .topk 672,
     .maskLogits 672, .sample 672, .gradAccum 672, .optStep 672, .send 672, .tileCreditStall 672, .tileHang 672, .tileHalt 672,
     .tileResume 672, .tileStep 672, .scorePq 12 255, .scorePq 11 256, .dotI8 12 255, .dotI8 11 256, .gatherRow 12 255,
     .gatherRow 11 256, .replaceRow 12 255, .replaceRow 11 256, .rmwRow 12 255, .rmwRow 11 256, .fence 12 255, .fence 11 256,
     .loadTslot 12 0 [], .loadFilter 12 0 []] : List Instr).all fun c => !c.wf) = true := by decide +kernel

theorem test_wf_refuses_2 : ((
    [.scrub 12 34359738367, .scrub 11 34359738368, .inlayParityError 12 255, .inlayParityError 11 256, .inlayCmdHang 12 255,
     .inlayCmdHang 11 256, .inlayOnline 12 255, .inlayOnline 11 256, .inlayCopyDone 12 255, .inlayCopyDone 11 256, .migStart 16,
     .migCopyDone 16, .migAbort 16, .migFree 16, .migConfirm 16, .migRevert 16, .pageCutComplete 16, .rowCutSend 16,
     .rowInstall 0 256 0 [], .rowCutAck 16, .migrateStall 16, .queryLs 8192, .thinResult 12 255, .thinResult 11 256, .append 8192,
     .deleteVec 8192, .lsIndexEnable 64, .lsIndexDisable 64, .queryGw 8192, .walkStart 48, .gwScoreDone 48, .walkExpansion 48,
     .gwPairDone 48, .insert 8192, .gwDelete 8192, .compact 8192, .setEdges 8192, .gwIndexEnable 64, .gwIndexDisable 64,
     .mergeDeadline 4096, .mergeIdleTimeout 4096, .lookup 8192, .rowCommandDone 12 255, .rowCommandDone 11 256, .replace 8192,
     .apply 8192, .load 8192, .pin 8192] : List Instr).all fun c => !c.wf) = true := by decide +kernel

theorem test_wf_refuses_3 : ((
    [.unpin 8192, .tableFlipTimeout 256, .swap 8192, .swapRowCommit 256, .tableEnable 256, .tableDisable 256, .queryText 8192,
     .streamOpen 8192, .streamInput 8192, .streamControl 8192, .streamClose 8192, .txtGen 8192, .maskFetchDone 4096, .streamIdle 4096,
     .streamDeadline 4096, .grammarEnable 16, .grammarDisable 16, .carrierInsert 8 false 0 [] 0 [], .carrierRemoved 8,
     .carrierIdentified 8 [] [] 0, .mountDone 8 false, .format 8, .formatDone 8, .adopt 8, .detach 8, .detachDone 8, .attach 8,
     .sanitise 8, .sanitiseDone 8 0, .storageRead 8192, .storageWrite 8192, .storageDiscard 8192, .secureDiscard 8192,
     .secureDiscardDone 8 0, .health 8192, .programDone 8 0 0 0, .flashReadDone 8 0 2047 0 0 false, .flashReadDone 7 0 2048 0 0 false,
     .reclaimVictimFreed 8, .writeDeadline 8, .carrierTempPoll 8 0, .carrierAlert 8, .healthMirror 8, .pfcPauseExpiry 8, .pfcRefresh 8 0,
     .cnp 0 8 0, .rtoTimeout 0 8, .ackTimer 0 8] : List Instr).all fun c => !c.wf) = true := by decide +kernel

theorem test_wf_refuses_4 : ((
    [.connIdle 0 8 false, .pathPenaltyExpiry 0 8 0, .rateIncrease 0 8, .rnrWait 0 8, .movChEnable 64, .linear 64, .strided 64,
     .gather 64, .scatter 64, .fill 64, .flagOnly 64, .moverDescDone 64, .pacingRequest 225, .movTimerPeriod 16, .movPaceStall 64,
     .movStop 64, .movResume 64, .movSkip 64, .movKick 64, .chkStart 16, .chkFeed 16 0, .chkFeedTail 16 0 0, .chkCheck 16, .encode 2,
     .recover 2, .delta 2, .verify 2, .parityJobDone 2, .extend 8, .revokeVkey 8, .controlReset 8192, .controlRebuild 8192,
     .controlResume 8192, .controlAbandon 8192, .controlRelease 8192, .controlReseal 8192, .rebuildStripe 8, .rehearsalEnd 16,
     .resetRelease 4, .channelRetrainDone 12 false, .inlayTrimDone 12 false, .classCalibrationDone 8 2047 [] false,
     .classCalibrationDone 7 2048 [] false, .carrierAlertRelease 8,
     .ratePacedRelease 0 8] : List Instr).all fun c => !c.wf) = true := by decide +kernel

theorem test_wf_takes_1 : ((
    [.tailWrite 8191 0, .creditReturn 8191 0, .tokenTake 671, .arm 255, .disarm 255, .panelDrainDone 63, .panelDrainTimeout 63,
     .panelLoadStart 63, .panelLoadDone 63, .panelActivated 63, .matmul 671, .reduce 671, .rotate 671, .quantise 671, .dequantise 671,
     .elemwise 671, .activate 671, .normalise 671, .attend 671, .pqTable 671, .denseScan 671, .coarse 671, .rerank 671, .topk 671,
     .maskLogits 671, .sample 671, .gradAccum 671, .optStep 671, .send 671, .tileCreditStall 671, .tileHang 671, .tileHalt 671,
     .tileResume 671, .tileStep 671, .scorePq 11 255, .dotI8 11 255, .gatherRow 11 255, .replaceRow 11 255, .rmwRow 11 255,
     .fence 11 255, .loadTslot 11 0 [], .loadFilter 11 0 [], .scrub 11 34359738367, .inlayParityError 11 255, .inlayCmdHang 11 255,
     .inlayOnline 11 255, .inlayCopyDone 11 255, .migStart 15] : List Instr).all fun c => c.wf) = true := by decide +kernel

theorem test_wf_takes_2 : ((
    [.migCopyDone 15, .migAbort 15, .migFree 15, .migConfirm 15, .migRevert 15, .pageCutComplete 15, .rowCutSend 15,
     .rowInstall 0 255 0 [], .rowCutAck 15, .migrateStall 15, .queryLs 8191, .thinResult 11 255, .append 8191, .deleteVec 8191,
     .lsIndexEnable 63, .lsIndexDisable 63, .queryGw 8191, .walkStart 47, .gwScoreDone 47, .walkExpansion 47, .gwPairDone 47,
     .insert 8191, .gwDelete 8191, .compact 8191, .setEdges 8191, .gwIndexEnable 63, .gwIndexDisable 63, .mergeDeadline 4095,
     .mergeIdleTimeout 4095, .lookup 8191, .rowCommandDone 11 255, .replace 8191, .apply 8191, .load 8191, .pin 8191, .unpin 8191,
     .tableFlipTimeout 255, .swap 8191, .swapRowCommit 255, .tableEnable 255, .tableDisable 255, .queryText 8191, .streamOpen 8191,
     .streamInput 8191, .streamControl 8191, .streamClose 8191, .txtGen 8191,
     .maskFetchDone 4095] : List Instr).all fun c => c.wf) = true := by decide +kernel

theorem test_wf_takes_3 : ((
    [.streamIdle 4095, .streamDeadline 4095, .grammarEnable 15, .grammarDisable 15, .carrierInsert 7 false 0 [] 0 [], .carrierRemoved 7,
     .carrierIdentified 7 [] [] 0, .mountDone 7 false, .format 7, .formatDone 7, .adopt 7, .detach 7, .detachDone 7, .attach 7,
     .sanitise 7, .sanitiseDone 7 0, .storageRead 8191, .storageWrite 8191, .storageDiscard 8191, .secureDiscard 8191,
     .secureDiscardDone 7 0, .health 8191, .programDone 7 0 0 0, .flashReadDone 7 0 2047 0 0 false, .reclaimVictimFreed 7,
     .writeDeadline 7, .carrierTempPoll 7 0, .carrierAlert 7, .healthMirror 7, .pfcPauseExpiry 7, .pfcRefresh 7 0, .cnp 0 7 0,
     .rtoTimeout 0 7, .ackTimer 0 7, .connIdle 0 7 false, .pathPenaltyExpiry 0 7 0, .rateIncrease 0 7, .rnrWait 0 7, .movChEnable 63,
     .linear 63, .strided 63, .gather 63, .scatter 63, .fill 63, .flagOnly 63, .moverDescDone 63, .pacingRequest 224,
     .movTimerPeriod 15] : List Instr).all fun c => c.wf) = true := by decide +kernel

theorem test_wf_takes_4 : ((
    [.movPaceStall 63, .movStop 63, .movResume 63, .movSkip 63, .movKick 63, .chkStart 15, .chkFeed 15 0, .chkFeedTail 15 0 0,
     .chkCheck 15, .encode 1, .recover 1, .delta 1, .verify 1, .parityJobDone 1, .extend 7, .revokeVkey 7, .controlReset 8191,
     .controlRebuild 8191, .controlResume 8191, .controlAbandon 8191, .controlRelease 8191, .controlReseal 8191, .rebuildStripe 7,
     .rehearsalEnd 15, .resetRelease 3, .channelRetrainDone 11 false, .inlayTrimDone 11 false, .classCalibrationDone 7 2047 [] false,
     .carrierAlertRelease 7, .ratePacedRelease 0 7] : List Instr).all fun c => c.wf) = true := by decide +kernel

/-- Whether an outcome is the fault of a unit that does not exist. -/
def noUnit : Host.Outcome State Fault Refusal → Bool
  | .fault .noSuchUnit => true
  | _ => false

theorem test_illFormed_stops : noUnit (exec (.tailWrite 8192 0) State.reset) = true ∧ noUnit (exec (.dotI8 11 256) State.reset) = true ∧
    noUnit (exec (.tailWrite 8191 0) State.reset) = false := by decide +kernel

/-! The spec's own numbers: its worked examples and its tables of check values. -/

/-- R12 and its example: an FP32 distance of 1.5 as a key; the key of 4.0 is that of the walk's example. -/
theorem test_key : keyOfBits 0x3FC00000 = 0xBFC00000 ∧ keyOfBits 0x40800000 = 0xC0800000 := by decide

/-- The example of R528: a direct offset that an STK_ or INL_ register takes, and one that is none. -/
theorem test_alias : canonOff 0xF00029F00400 = 0xF000B9F00400 ∧ canonOff 0xF00020100000 = 0xF00020100000 := by decide +kernel

/-- The example of R149: stack, unit and unit-local offset of a node offset. -/
theorem test_unitPlace : unitPlace 0x003001234567 = (4, 35, 0x14567) := by decide

/-- The example of R184: blocks of an extent. -/
theorem test_extentBlocks : extentBlocks 9504 = 3 ∧ extentBlocks 11900 = 3 ∧ extentBlocks 65536 = 17 := by decide

/-- The examples of R279: granules of a row's extent. -/
theorem test_extentGranules : extentGranules 1 256 2 false = 13 ∧ extentGranules 1 4096 4 false = 321 ∧ extentGranules 1 4096 5 true = 265 ∧
    extentGranules 2 32 0 false = 2 := by decide

/-- The example of R207: 3.71875 at QSHIFT 10. -/
theorem test_fixedOf : fixedOf 10 (-32768) 32767 (f32 0x406E0000) = 3808 := by decide +kernel

/-- The example of chapter 4: one group of 32 INT4 products with two BF16 scales, rescaled, then rounded to BF16 and to E4M3. -/
def groupSum : FV :=
  combine (partials ⟨0x01, (List.replicate 4 [0xE3, 0x07, 0x58, 0xC1]).flatten, 1, [0x20, 0x3E]⟩
    ⟨0x01, (List.replicate 4 [0x62, 0x4D, 0x9F, 0x35]).flatten, 1, [0xC0, 0x3C]⟩ 0 0 32 32 32)

theorem test_group : groupSum.code = 0xBF64C000 := by decide +kernel

theorem test_rescale : (let y := rescale (leBytes 4 0x3FE00000 ++ leBytes 4 0x3E000000) 0 groupSum
    y.code = 0xBFB82800 ∧ (convert 0x0B false y).code = 0xBFB8 ∧ (convert 0x05 false y).code = 0xBC) := by decide +kernel

/-- Accumulated onto 20,000.0, the same sum lies halfway between two codes and goes to the even one. -/
theorem test_tie : (fAdd (f32 0x469C4000) groupSum).code = 0x469C3E36 := by decide +kernel

/-- The example of R447: P and Q of three bytes, and two data shards recovered. -/
theorem test_parity : parP 1 [[0x11], [0x22], [0x33]] = [0x00] ∧ parQ 1 0 [[0x11], [0x22], [0x33]] = [0x99] ∧
    parData 1 3 0 2 [[0], [0x22], [0], [0x00], [0x99]] = [[0x11], [0x22], [0x33]] := by decide +kernel

/-- R445: unit 0 gives CRC-32/ISO-HDLC's check value for the nine bytes "123456789". -/
def crcRun : Res :=
  match execChkStart 0 (((((State.reset.set (F.CHK_CFG_WIDTH 0) 32).set (F.CHK_POLY_VALUE 0) 0x04C11DB7).set (F.CHK_INIT_VALUE 0) 0xFFFFFFFF).set
      (F.CHK_CFG_REFIN 0) 1).set (F.CHK_CFG_REFOUT 0) 1 |>.set (F.CHK_XOROUT_VALUE 0) 0xFFFFFFFF) with
  | .next a => match execChkFeed 0 0x3837363534333231 a with
    | .next b => execChkFeedTail 0 0x39 1 b
    | x => x
  | x => x

theorem test_crc : (match crcRun with | .next s => s.chkResult 0 == 0xCBF43926 && s.get (F.CHK_BYTES_BYTES 0) == 9 | _ => false) = true := by
  decide +kernel

/-- The example of R303 and R304: two INPUTs that split a character, and a byte that is no UTF-8. -/
theorem test_utf8 : (let tk := padTo 512 (leBytes 4 1 ++ zeros 44 ++ leBytes 2 255 ++ leBytes 2 16 ++ zeros 4 ++ leBytes 4 128 ++ leBytes 4 136 ++
      zeros 8 ++ leBytes 4 200)
    let x := feedText tk false {} [0x63, 0x61, 0xE2, 0x82]
    let y := endText tk false (feedText tk false x.1 [0xAC, 0x78, 0xFF])
    x.1.carry = [0xE2, 0x82] ∧ x.2.toks ++ y.2.toks = [0x63, 0x61, 0xE2, 0x82, 0xAC, 0x78, 0xFF] ∧ y.2.seqs = 1 ∧ y.2.bytes = 1) := by decide +kernel

/-- The example of R267: the entries of three shards, one of each VID kept, one conflict. -/
def mergeIn : List Entry :=
  [⟨0x10, 1, 0, 0xBFC00000, 2⟩, ⟨0x20, 1, 0, 0xC0000000, 2⟩, ⟨0x30, 1, 0, 0xC0400000, 2⟩, ⟨0x40, 1, 0, 0xC0400000, 2⟩, ⟨0x20, 0, 0, 0x80000800, 9⟩,
   ⟨0x30, 1, 0, 0xC0200000, 5⟩, ⟨0x60, 1, 0, 0xC0A00000, 5⟩]

theorem test_merge : (sortEntries (mergeDups mergeIn).kept).map (fun e => (e.vid, e.key, e.shard)) =
      [(0x10, 0xBFC00000, 2), (0x20, 0xC0000000, 2), (0x30, 0xC0200000, 5), (0x40, 0xC0400000, 2), (0x60, 0xC0A00000, 5)] ∧
    (mergeDups mergeIn).conflict = 1 := by decide +kernel

/-- The example of R37: PTP time 1,800,000,000 s and 5,000,000 ns. -/
theorem test_beat : (match execPtpMeasurement 1800000000005000000 State.reset with
    | .next s => s.beat.t / 8192 == 219726562500610 && s.beat.t % 8192 == 2880
    | _ => false) = true := by decide +kernel

/-- R30: a tail write becomes one token for its granules. -/
theorem test_tailWrite : (match execTailWrite 8191 192 tailState with
    | .next s => (s.ring 8191).tokens.map (fun t => (t.from_, t.to_)) == [(64, 192)] && s.tailOf 8191 == 192
    | _ => false) = true := by decide +kernel

/-- The example of R290: a U4 row of 32 elements under an SGD APPLY with lr 0.5. -/
def sgdB : List Byte :=
  [0x22, 0] ++ leBytes 2 2 ++ leBytes 4 7 ++ leBytes 4 0 ++ leBytes 4 2 ++ leBytes 2 32 ++ [2, 0] ++ zeros 4 ++ leBytes 4 0x42800000 ++ zeros 24 ++
    leBytes 4 0x3F000000 ++ zeros 8 ++ [0xC0, 0x44, 0x3C] ++ zeros 29 ++ [0x80, 0x3E] ++ zeros 30

/-- The row stands at the start of stack 0, and its unit has the command. -/
def applyState : State :=
  (({ State.reset with inl := [(0, { cmds := [.packet { bytes := sgdB }] })] }.set (F.INL_UNIT_STATUS_STATE 0 0) US_BUSY).putBytes (stackBase 0)
    (leBytes 4 0x3E800000 ++ leBytes 4 0xC0000000)).putBytes (stackBase 0 + 64) ([0xF0, 0x68] ++ List.replicate 14 0x66)

theorem test_apply : (match execRmwRow 0 0 applyState with
    | .next s => s.num (stackBase 0) 4 == 0x3E4CCCCD && s.num (stackBase 0 + 4) 4 == 0xBFE00000 && s.num (stackBase 0 + 64) 4 == 0x666668F0 &&
        s.get F.TBL_CNT_EXC_ELEM_SKIP == 0
    | _ => false) = true := by decide +kernel
end

section
/-! Tail writes (R30, R31): when one is invalid, and what the node is left with when an invalid one is discarded. -/

namespace Sys2Proof.Machine

/-- The conditions of R30, one of which an invalid tail write fails: it would end within a granule, not move the tail forward, or pass
the head by more than the ring holds. -/
theorem State.tailValid_eq_false_iff (s : State) (r v : Nat) :
    s.tailValid r v = false ↔ v % 64 ≠ 0 ∨ v ≤ s.tailOf r ∨ s.headOf r + (s.ring r).size < v := by
  rw [State.tailValid, Bool.and_eq_false_iff, Bool.and_eq_false_iff, decide_eq_false_iff_not, decide_eq_false_iff_not,
    decide_eq_false_iff_not]
  omega

/-- A tail write that would move the tail to a place that R30 does not allow is reported alone (R31). -/
theorem State.tailWrite_of_invalid {s : State} {r v : Nat} (hne : v ≠ s.tailOf r) (hv : s.tailValid r v = false) :
    s.tailWrite r v = s.raise EV_RING_TAIL_INVALID 0 [(s.ring r).base, s.tailOf r, v] := by
  rw [State.tailWrite, if_neg hne, if_neg (by rw [hv]; decide)]

/-- TAIL_WRITE of a ring that an image has placed, in a node that runs. -/
theorem exec_tailWrite_of_placed {s : State} {r v : Nat} (hlive : s.dead = false) (hr : r < 8192) (hsize : 0 < (s.ring r).size)
    (hv : v < 2 ^ 64) : exec (.tailWrite r v) s = .next (s.done (s.tailWrite r v)) := by
  rw [exec, execTailWrite, decide_eq_true hr, onUnit_true, if_pos hsize, Nat.mod_eq_of_lt hv, State.live_next s _ hlive]

/-- A command that does nothing but raise an event changes only the parts of `reports`. -/
theorem State.done_raise_frame (s : State) (code source : Nat) (items : List Nat) :
    s.sameBut reports (s.done (s.raise code source items)) :=
  State.sameBut_mono (State.done_frame (State.sameBut_raise s code source items)) (by decide)

/-- States with one memory and the same rings have the same tails. -/
theorem State.tailOf_congr {s t : State} (hrings : t.rings = s.rings) (hmem : t.mem = s.mem) (r : Nat) : t.tailOf r = s.tailOf r := by
  rw [State.tailOf, State.tailOf, State.ring, State.ring, hrings, State.num_congr s t hmem]

/-- Settles O44: the discarded write raises its event and does nothing else, and the report of an event reaches neither the rings nor
memory, so that the tail word too reads as it did. -/
theorem invalidTailWritesAreDiscarded : Obligations.InvalidTailWritesAreDiscarded := by
  intro s r v hlive hr hsize hv hne hbad
  have hinvalid : s.tailValid r v = false :=
    (State.tailValid_eq_false_iff s r v).mpr (hbad.imp_right (Or.imp_left Nat.le_of_lt))
  have hframe := State.done_raise_frame s EV_RING_TAIL_INVALID 0 [(s.ring r).base, s.tailOf r, v]
  have hrings := (hframe .rings (by decide)).symm
  have hmem := (hframe .mem (by decide)).symm
  refine ⟨_, ?_, rfl, hrings, hmem, State.tailOf_congr hrings hmem r⟩
  rw [exec_tailWrite_of_placed hlive hr hsize hv, State.tailWrite_of_invalid hne hinvalid]

end Sys2Proof.Machine
end

section
/-! Writes of the control window (R16 to R18, R526 to R528): the place that a write reaches, what the field rules leave of it, and what a
write that its register turns away does. -/

namespace Sys2Proof.Machine

/-- An offset before the first copy of a register names none of its copies. -/
theorem copyOf_of_lt {base off : Nat} (stride n : Nat) (h : off < base) : copyOf base stride n off = none := by
  rw [copyOf, if_neg (by omega)]

/-- The offset of a copy of a register names that copy. -/
theorem copyOf_copy {base stride n k : Nat} (hs : 0 < stride) (hk : k < n) : copyOf base stride n (base + k * stride) = some k := by
  rw [copyOf, Nat.add_sub_cancel_left, Nat.mul_mod_left, Nat.mul_div_cancel k hs, if_pos ⟨Nat.le_add_right _ _, rfl, hk⟩]

/-- An offset below the tiles' direct windows is held under itself (R528). -/
theorem canonOff_of_lt {off : Nat} (h : off < 0xF00010000000) : canonOff off = off := by
  rw [canonOff, if_neg (by omega)]

/-- No register below the blocks of the stacks belongs to a unit that the part lacks. -/
theorem State.absentReg_of_lt (s : State) {o : Nat} (h : o < 0xF00020000000) : s.absentReg o = false := by
  have hstk : decide (0xF00020000000 ≤ o) = false := decide_eq_false (by omega)
  have hcar : decide (0xF00040100000 ≤ o) = false := decide_eq_false (by omega)
  rw [State.absentReg, hstk, hcar, copyOf_of_lt 8 12 (by simp only [Reg.TIER_POOL]; omega)]
  rfl

/-- A REGISTER_WRITE to a node that runs. -/
theorem exec_registerWrite {s : State} (hlive : s.dead = false) (o v : Nat) :
    exec (.registerWrite o v) s =
      .next (s.done (if o % 8 = 0 ∧ inControlRange o then s.ctlWrite o (BitVec.ofNat 64 v) else s)) := by
  rw [exec, execRegisterWrite, State.live_next s _ hlive]

/-- A write that its register takes is merged by access codes, and then does what the register starts. -/
theorem State.ctlWrite_of_vet {s : State} {o : Nat} {v : Word} {d : RegDesc} {w : Nat} (hreg : findReg (canonOff o) = some d)
    (hhas : s.absentReg (canonOff o) = false) (hvet : s.vet (canonOff o) v.toNat (s.reg (canonOff o)).toNat = some w) :
    s.ctlWrite o v = (s.setReg (canonOff o) (BitVec.ofNat 64 (d.merge (s.reg (canonOff o)).toNat w))).after (canonOff o) v.toNat
      (s.reg (canonOff o)).toNat := by
  rw [State.ctlWrite]
  simp only [hreg, hhas, hvet, Bool.false_eq_true, if_false]

/-- A write below the check-value units that its register does not take leaves the whole state as it was. -/
theorem State.ctlWrite_of_vet_none {s : State} {o : Nat} {v : Word} (hlt : canonOff o < 0xF00061000000)
    (hvet : s.vet (canonOff o) v.toNat (s.reg (canonOff o)).toNat = none) : s.ctlWrite o v = s := by
  have haway : s.turnedAway (canonOff o) = s := by
    rw [State.turnedAway, copyOf_of_lt 0x80 16 (by omega)]
  rw [State.ctlWrite]
  cases findReg (canonOff o) with
  | none => rfl
  | some d => simp only [hvet, haway, ite_self]

/-- A register that has no field to write keeps its value when it is written (R17). -/
theorem RegDesc.merge_of_no_writable {d : RegDesc} (h : ∀ f ∈ d.fields, f.acc ∉ [Access.rw, .hid, .w1c]) (old v : Nat) :
    d.merge old v = old := by
  obtain ⟨base, dims, fields, rst⟩ := d
  rw [RegDesc.merge]
  induction fields with
  | nil => rfl
  | cons f r ih =>
    obtain ⟨lo, w, acc⟩ := f
    have hf : acc ∉ [Access.rw, .hid, .w1c] := h _ List.mem_cons_self
    have hr := ih fun g hg => h g (List.mem_cons_of_mem _ hg)
    cases acc with
    | rw | hid | w1c => exact absurd hf (by decide)
    | ro | wo | rc => exact hr

/-- The state in which a register has been written with its own value. -/
def State.rewritten (s : State) (o : Nat) : State := s.setReg o (s.reg o)

@[simp] theorem State.rewritten_pending (s : State) (o : Nat) : (s.rewritten o).pending = s.pending := rfl
@[simp] theorem State.rewritten_evt (s : State) (o : Nat) : (s.rewritten o).evt = s.evt := rfl
@[simp] theorem State.rewritten_beat (s : State) (o : Nat) : (s.rewritten o).beat = s.beat := rfl

/-- A register written with its own value reads as it did, and so does every other. -/
theorem State.reg_rewritten {s : State} (hwf : smWf regReset s.regs = true) (o p : Nat) : (s.rewritten o).reg p = s.reg p := by
  by_cases hp : p = o
  · rw [hp, State.rewritten, State.reg_setReg_same s o _ hwf]
  · exact State.reg_setReg_other s o p _ hp

theorem State.get_rewritten {s : State} (hwf : smWf regReset s.regs = true) (o : Nat) (f : RegField) : (s.rewritten o).get f = s.get f := by
  rw [State.get, State.get, State.reg_rewritten hwf]

theorem State.regs_wf_rewritten {s : State} (hwf : smWf regReset s.regs = true) (o : Nat) : smWf regReset (s.rewritten o).regs = true :=
  State.regs_wf_setReg s o _ hwf

/-- A register written with its own value changes no register and nothing else. -/
theorem State.changesOnlyRegs_rewritten {s : State} (hwf : smWf regReset s.regs = true) (o : Nat) : s.changesOnlyRegs (s.rewritten o) [] :=
  ⟨State.sameBut_setReg s o _, fun p _ => State.reg_rewritten hwf o p⟩

/-- A taken write to a register that keeps its value: only what the register starts is left of it. -/
theorem State.ctlWrite_of_no_writable {s : State} {o : Nat} {v : Word} {d : RegDesc} {w : Nat} (hcanon : canonOff o = o)
    (hreg : findReg o = some d) (hfields : ∀ f ∈ d.fields, f.acc ∉ [Access.rw, .hid, .w1c]) (hhas : s.absentReg o = false)
    (hvet : s.vet o v.toNat (s.reg o).toNat = some w) : s.ctlWrite o v = (s.rewritten o).after o v.toNat (s.reg o).toNat := by
  have hwrite : s.ctlWrite o v = _ := State.ctlWrite_of_vet (by rwa [hcanon]) (by rwa [hcanon]) (by rwa [hcanon])
  rw [hwrite, hcanon, RegDesc.merge_of_no_writable hfields, BitVec.ofNat_toNat, BitVec.setWidth_eq, State.rewritten]

/-- The end of a command that has nothing to report and has left the queue alone. -/
theorem State.done_eq {s t : State} (hquiet : t.evt.quiet = true) (hqueue : t.pending = s.pending) : s.done t = t := by
  rw [State.done_quiet s t hquiet, ← hqueue]

end Sys2Proof.Machine
end

section
/-! The armed-event table as registers (R48, R53): where its registers stand, and what a write to one of an entry does. -/

namespace Sys2Proof.Machine

/-- A register of one copy stands at one offset. -/
theorem RegDesc.hit_of_single {r : RegDesc} (hdims : r.dims = []) (off : Nat) : r.hit off = true ↔ off = r.base := by
  rw [RegDesc.hit, hdims, dimsHit, Bool.and_eq_true, decide_eq_true_eq, beq_iff_eq]
  omega

/-- A register of `n` copies stands at their offsets. -/
theorem RegDesc.hit_of_copies {r : RegDesc} {stride n : Nat} (hdims : r.dims = [(stride, n)]) (off : Nat) :
    r.hit off = true ↔ r.base ≤ off ∧ (off - r.base) / stride < n ∧ (off - r.base) % stride = 0 := by
  rw [RegDesc.hit, hdims, dimsHit, dimsHit, Bool.and_eq_true, Bool.and_eq_true, decide_eq_true_eq, decide_eq_true_eq, beq_iff_eq]

/-- A register of the beat unit that an offset hits first is the one that stands there. -/
theorem findReg_of_beat {off : Nat} {d : RegDesc} (hlo : 0xF00001000000 ≤ off) (hhi : off ≤ 0xF00001002FFF)
    (hd : regsBEAT.find? (fun r => r.hit off) = some d) : findReg off = some d := by
  have hbefore : ¬ (0xF00000000000 ≤ off ∧ off ≤ 0xF000000004FF) := by omega
  rw [findReg, blockTable, List.findSome?_cons, if_neg hbefore]
  dsimp only
  rw [List.findSome?_cons, if_pos ⟨hlo, hhi⟩, hd]

/-- The first eight registers of the beat unit have one copy each and stand below the table. -/
theorem regsBEAT_single : ∀ j < 8, ∀ r ∈ regsBEAT[j]?, r.dims = [] ∧ r.base < 0xF00001001000 := by decide

/-- The other four are those of an entry, of 256 copies each. -/
theorem regsBEAT_entry : ∀ i < 4, ∀ r ∈ regsBEAT[8 + i]?, r.dims = [(0x20, 256)] ∧ r.base = 0xF00001001000 + 8 * i := by decide

/-- Entry `n` of the table occupies four registers from 0xF000_0100_1000 + n × 0x20 on, the last four of the beat unit's (R48): every
register before the one that is looked for stands elsewhere. -/
theorem findReg_entry {n i : Nat} (hn : n < 256) (hi : i < 4) :
    findReg (0xF00001001000 + n * 0x20 + 8 * i) = regsBEAT[8 + i]? := by
  have hlen : 8 + i < regsBEAT.length := by rw [show regsBEAT.length = 12 from rfl]; omega
  obtain ⟨hdims, hbase⟩ := regsBEAT_entry i hi _ (List.getElem?_eq_getElem hlen)
  have hfirst : regsBEAT.find? (fun r => r.hit (0xF00001001000 + n * 0x20 + 8 * i)) = some regsBEAT[8 + i] := by
    refine List.find?_eq_some_iff_getElem.mpr ⟨(RegDesc.hit_of_copies hdims _).mpr (by omega), 8 + i, hlen, rfl, fun j hj => ?_⟩
    rw [Bool.not_eq_true', ← Bool.not_eq_true]
    rcases Nat.lt_or_ge j 8 with hj8 | hj8
    · obtain ⟨hdj, hbj⟩ := regsBEAT_single j hj8 _ (List.getElem?_eq_getElem (hj.trans hlen))
      rw [RegDesc.hit_of_single hdj]
      omega
    · obtain ⟨k, rfl⟩ := Nat.exists_eq_add_of_le hj8
      obtain ⟨hdj, hbj⟩ := regsBEAT_entry k (by omega) _ (List.getElem?_eq_getElem (hj.trans hlen))
      rw [RegDesc.hit_of_copies hdj, hbj]
      omega
  rw [findReg_of_beat (by omega) (by omega) hfirst, List.getElem?_eq_getElem hlen]

/-- The places of the table are listed (R526). -/
theorem inControlRange_entries {o : Nat} (hlo : 0xF00001001000 ≤ o) (hhi : o ≤ 0xF00001002FFF) : inControlRange o = true := by
  rw [inControlRange, List.any_eq_true]
  refine ⟨(0xF00001000000, 1, 0, [(0, 0x3F), (0x1000, 0x2FFF)]), by decide, ?_⟩
  simp only [inRanges, List.any_cons, Bool.and_eq_true, Bool.or_eq_true, decide_eq_true_eq, if_true]
  omega

/-- What a write of the beat unit's registers may change is the beat unit's to say. -/
theorem State.vet_of_beat (s : State) {o : Nat} (v old : Nat) (hlo : 0xF00001000000 ≤ o) (hhi : o < 0xF00002000000) :
    s.vet o v old = s.vetBeat o v old := by
  rw [State.vet, if_neg (by omega), if_pos hhi]

/-- What a write of the beat unit's registers starts is the beat unit's to say. -/
theorem State.after_of_beat (s : State) {o : Nat} (v old : Nat) (hlo : 0xF00001000000 ≤ o) (hhi : o < 0xF00002000000) :
    s.after o v old = s.afterBeat o v := by
  rw [State.after, if_neg (by omega), if_pos hhi]

/-- The beat, the action and the argument of an ARMED entry take no write (R48). -/
theorem State.vetBeat_of_armed {s : State} {n i : Nat} (harmed : s.entState n = 1) (hi : i < 3) (v old : Nat) :
    s.vetBeat (0xF00001001000 + n * 0x20 + 8 * i) v old = none := by
  have hentry : (0xF00001001000 + n * 0x20 + 8 * i - 0xF00001001000) / 0x20 = n := by omega
  rw [State.vetBeat, if_neg (by simp only [Reg.BEAT_CFG]; omega), if_pos (by omega)]
  simp only [hentry]
  rw [if_pos ⟨harmed, by omega⟩]

/-- BEAT_EVT_CTL of an entry in any state takes a write. -/
theorem State.vetBeat_entCtl (s : State) (n v old : Nat) : s.vetBeat (Reg.BEAT_EVT_CTL n) v old = some v := by
  have hplace : Reg.BEAT_EVT_CTL n = 0xF00001001018 + n * 0x20 := rfl
  have hentry : (Reg.BEAT_EVT_CTL n - 0xF00001001000) / 0x20 = n := by omega
  have hcfg : Reg.BEAT_EVT_CTL n ≠ Reg.BEAT_CFG := by simp only [Reg.BEAT_CFG]; omega
  have hact : Reg.BEAT_EVT_CTL n ≠ Reg.BEAT_EVT_ACT n := by simp only [Reg.BEAT_EVT_ACT]; omega
  rw [State.vetBeat, if_neg hcfg, if_pos (by omega)]
  simp only [hentry]
  rw [if_neg (by omega), if_neg hact]

/-- What a BEAT_EVT_CTL write starts: ARM alone arms, DISARM alone disarms, and both do nothing (R49, R53). -/
theorem State.afterBeat_entCtl (s : State) {n : Nat} (hn : n < 256) (v : Nat) :
    s.afterBeat (Reg.BEAT_EVT_CTL n) v = if v % 4 = 1 then s.arm n else if v % 4 = 2 then s.disarm n else s := by
  have hcopy : copyOf (Reg.BEAT_EVT_CTL 0) 0x20 256 (Reg.BEAT_EVT_CTL n) = some n := copyOf_copy (by decide) hn
  rw [State.afterBeat, if_neg (by simp only [Reg.BEAT_CTRL, Reg.BEAT_EVT_CTL]; omega), hcopy]

/-- BEAT_EVT_CTL has no field to write: its command bits read as 0, and the others are shown (R56). -/
theorem findReg_entCtl {n : Nat} (hn : n < 256) :
    ∃ d, findReg (Reg.BEAT_EVT_CTL n) = some d ∧ ∀ f ∈ d.fields, f.acc ∉ [Access.rw, .hid, .w1c] := by
  have hplace : Reg.BEAT_EVT_CTL n = 0xF00001001000 + n * 0x20 + 8 * 3 := by simp only [Reg.BEAT_EVT_CTL]; omega
  rw [hplace, findReg_entry hn (by decide)]
  exact ⟨_, rfl, by decide⟩

/-- A BEAT_EVT_CTL write leaves the register as it was and starts what ARM and DISARM say (R49, R53). -/
theorem exec_registerWrite_entCtl {s : State} (hlive : s.dead = false) {n : Nat} (hn : n < 256) (v : Nat) :
    exec (.registerWrite (Reg.BEAT_EVT_CTL n) v) s = .next (s.done
      (if v % 4 = 1 then (s.rewritten (Reg.BEAT_EVT_CTL n)).arm n
        else if v % 4 = 2 then (s.rewritten (Reg.BEAT_EVT_CTL n)).disarm n
        else s.rewritten (Reg.BEAT_EVT_CTL n))) := by
  have hplace : Reg.BEAT_EVT_CTL n = 0xF00001001018 + n * 0x20 := rfl
  obtain ⟨d, hreg, hfields⟩ := findReg_entCtl hn
  have hvet : s.vet (Reg.BEAT_EVT_CTL n) (BitVec.ofNat 64 v).toNat (s.reg (Reg.BEAT_EVT_CTL n)).toNat = some (BitVec.ofNat 64 v).toNat := by
    rw [State.vet_of_beat s _ _ (by omega) (by omega), State.vetBeat_entCtl]
  have hbits : (BitVec.ofNat 64 v).toNat % 4 = v % 4 := by rw [BitVec.toNat_ofNat, Nat.mod_mod_of_dvd v (by decide)]
  rw [exec_registerWrite hlive, if_pos ⟨by omega, inControlRange_entries (by omega) (by omega)⟩,
    State.ctlWrite_of_no_writable (canonOff_of_lt (by omega)) hreg hfields (State.absentReg_of_lt s (by omega)) hvet,
    State.after_of_beat _ _ _ (by omega) (by omega), State.afterBeat_entCtl _ hn, hbits]

/-- A replaced state of an entry is the one that it shows. -/
theorem State.entState_setEnt_same {s : State} (hwf : smWf regReset s.regs = true) (n st : Nat) : (s.setEnt n st).entState n = st % 8 := by
  have hother : (F.BEAT_EVT_CTL_STATE n).off ≠ F.BEAT_STATUS_ARMED.off := by
    simp only [F.BEAT_EVT_CTL_STATE, F.BEAT_STATUS_ARMED, Reg.BEAT_EVT_CTL, Reg.BEAT_STATUS]; omega
  have hbits : (F.BEAT_EVT_CTL_STATE n).lo + (F.BEAT_EVT_CTL_STATE n).w ≤ 64 := by simp only [F.BEAT_EVT_CTL_STATE]; omega
  rw [State.setEnt, State.entState, State.get_set_other _ _ _ _ hother, State.get_set_same s _ st hwf hbits]
  rfl

/-- An entry whose dispatch slot has not opened is due no more and becomes CANCELLED (R53). -/
theorem State.disarm_of_armed {s : State} {n : Nat} (harmed : s.entState n = 1) :
    s.disarm n = { s with beat := { s.beat with due := s.beat.due.filter (·.1 != n) } }.setEnt n 3 := by
  rw [State.disarm, if_pos (beq_iff_eq.mpr harmed)]

theorem State.entState_disarm_of_armed {s : State} {n : Nat} (hwf : smWf regReset s.regs = true) (harmed : s.entState n = 1) :
    (s.disarm n).entState n = 3 := by
  rw [State.disarm_of_armed harmed]
  refine State.entState_setEnt_same ?_ n 3
  exact hwf

theorem State.due_disarm_of_armed {s : State} {n : Nat} (harmed : s.entState n = 1) :
    (s.disarm n).beat.due = s.beat.due.filter (·.1 != n) := by
  rw [State.disarm_of_armed harmed]
  rfl

/-- An entry that is not ARMED, one that has fired among them, is not disarmed (R53). -/
theorem State.disarm_of_not_armed {s : State} {n : Nat} (hnot : s.entState n ≠ 1) : s.disarm n = s := by
  rw [State.disarm, if_neg (mt beq_iff_eq.mp hnot)]

@[simp] theorem State.disarm_evt (s : State) (n : Nat) : (s.disarm n).evt = s.evt := by rw [State.disarm]; split <;> rfl
@[simp] theorem State.disarm_pending (s : State) (n : Nat) : (s.disarm n).pending = s.pending := by rw [State.disarm]; split <;> rfl

/-- Settles O45: the four registers of an entry are where R48 has them, and one of the first three, the entry ARMED, turns a write away
before it reaches anything. -/
theorem armedEntriesKeepTheirFields : Obligations.ArmedEntriesKeepTheirFields := by
  intro n hn
  refine ⟨⟨rfl, rfl, rfl, rfl⟩, fun i hi => ?_, fun s o v hlive hquiet harmed ho => ?_⟩
  · rw [findReg_entry hn hi, List.getElem?_eq_getElem (by rw [show regsBEAT.length = 12 from rfl]; omega)]
    rfl
  · obtain ⟨i, hi, rfl⟩ : ∃ i, i < 3 ∧ o = 0xF00001001000 + n * 0x20 + 8 * i := by
      simp only [List.mem_cons, List.not_mem_nil, or_false, Reg.BEAT_EVT_BEAT, Reg.BEAT_EVT_ACT, Reg.BEAT_EVT_ARG] at ho
      rcases ho with rfl | rfl | rfl
      · exact ⟨0, by omega, by omega⟩
      · exact ⟨1, by omega, by omega⟩
      · exact ⟨2, by omega, by omega⟩
    have hcanon : canonOff (0xF00001001000 + n * 0x20 + 8 * i) = 0xF00001001000 + n * 0x20 + 8 * i := canonOff_of_lt (by omega)
    have haway : s.ctlWrite (0xF00001001000 + n * 0x20 + 8 * i) (BitVec.ofNat 64 v) = s := by
      refine State.ctlWrite_of_vet_none (by omega) ?_
      rw [hcanon, State.vet_of_beat s _ _ (by omega) (by omega), State.vetBeat_of_armed harmed hi]
    rw [exec_registerWrite hlive, haway, ite_self, State.done_self s hquiet]

/-- Settles O46: BEAT_EVT_CTL keeps its value, so that only the command is left of the write, and the entry's STATE decides whether a
DISARM still comes in time. -/
theorem disarmComesBeforeTheDispatchOrDoesNothing : Obligations.DisarmComesBeforeTheDispatchOrDoesNothing := by
  intro s n v hlive hquiet hwf hn
  have hstate := State.get_rewritten hwf (Reg.BEAT_EVT_CTL n) (F.BEAT_EVT_CTL_STATE n)
  have hwfu := State.regs_wf_rewritten hwf (Reg.BEAT_EVT_CTL n)
  have hsame := State.changesOnlyRegs_rewritten hwf (Reg.BEAT_EVT_CTL n)
  have hend : s.done (s.rewritten (Reg.BEAT_EVT_CTL n)) = s.rewritten (Reg.BEAT_EVT_CTL n) :=
    State.done_eq (by rwa [State.rewritten_evt]) (State.rewritten_pending s _)
  have hendDisarm : s.done ((s.rewritten (Reg.BEAT_EVT_CTL n)).disarm n) = (s.rewritten (Reg.BEAT_EVT_CTL n)).disarm n :=
    State.done_eq (by rwa [State.disarm_evt, State.rewritten_evt]) (by rw [State.disarm_pending, State.rewritten_pending])
  refine ⟨_, exec_registerWrite_entCtl hlive hn v, fun hboth => ?_, fun hdisarm harmed => ?_, fun hdisarm hnot => ?_⟩
  · rwa [if_neg (by omega), if_neg (by omega), hend]
  · have harmedu := hstate.trans harmed
    rw [if_neg (by omega), if_pos hdisarm, hendDisarm]
    exact ⟨State.entState_disarm_of_armed hwfu harmedu, by rw [State.due_disarm_of_armed harmedu, State.rewritten_beat]⟩
  · rwa [if_neg (by omega), if_pos hdisarm, State.disarm_of_not_armed (hstate.trans_ne hnot), hend]

end Sys2Proof.Machine
end

section
/-! Writes of the control window above the tiles' direct windows, and to a field that the register keeps (R16 to R18, R526 to R528). -/

namespace Sys2Proof.Machine

/-- An offset past the last copy of a register names none of its copies. -/
theorem copyOf_of_ge {base stride n off : Nat} (hs : 0 < stride) (h : base + n * stride ≤ off) : copyOf base stride n off = none := by
  have hpast : n ≤ (off - base) / stride := (Nat.le_div_iff_mul_le hs).mpr (Nat.le_sub_of_add_le' h)
  exact if_neg fun hin => absurd hin.2.2 (Nat.not_lt.mpr hpast)

/-- An offset past the tiles' direct windows is held under itself (R528). -/
theorem canonOff_of_ge {off : Nat} (h : 0xF0003A000000 ≤ off) : canonOff off = off := by
  rw [canonOff, if_neg (by omega)]

/-- No register past the blocks of the carriers belongs to a unit that the part lacks. -/
theorem State.absentReg_of_ge (s : State) {o : Nat} (h : 0xF00040108000 ≤ o) : s.absentReg o = false := by
  have hstk : decide (o < 0xF00030000000) = false := decide_eq_false (by omega)
  have hcar : decide (o < 0xF00040108000) = false := decide_eq_false (by omega)
  rw [State.absentReg, hstk, hcar, copyOf_of_ge (by decide) (by simp only [Reg.TIER_POOL]; omega)]
  simp only [Bool.and_false, Bool.false_and, Bool.or_false]

/-- A write past the check-value units that its register does not take leaves the whole state as it was. -/
theorem State.ctlWrite_of_vet_none_of_ge {s : State} {o : Nat} {v : Word} (hge : 0xF00061000880 ≤ canonOff o)
    (hvet : s.vet (canonOff o) v.toNat (s.reg (canonOff o)).toNat = none) : s.ctlWrite o v = s := by
  have haway : s.turnedAway (canonOff o) = s := by
    rw [State.turnedAway, copyOf_of_ge (by decide) (by omega)]
  rw [State.ctlWrite]
  cases findReg (canonOff o) with
  | none => rfl
  | some d => simp only [hvet, haway, ite_self]

/-- The blocks follow each other: each ends before the next begins. -/
theorem blockTable_apart : blockTable.Pairwise fun a b => a.2.1 < b.1 := by decide

/-- An offset of a block reaches the first register of that block that it hits. -/
theorem findReg_of_block {b : Nat × Nat × List RegDesc} (hb : b ∈ blockTable) {off : Nat} {d : RegDesc} (hlo : b.1 ≤ off)
    (hhi : off ≤ b.2.1) (hd : b.2.2.find? (fun r => r.hit off) = some d) : findReg off = some d := by
  obtain ⟨before, rest, htable⟩ := List.append_of_mem hb
  have hapart := blockTable_apart
  rw [htable] at hapart
  refine List.findSome?_eq_some_iff.mpr ⟨before, b, rest, htable, ?_, fun a ha => if_neg fun hin => ?_⟩
  · rw [if_pos ⟨hlo, hhi⟩, hd]
  · have hends : a.2.1 < b.1 := (List.pairwise_append.mp hapart).2.2 a ha b List.mem_cons_self
    omega

/-- Bits replaced by what they are leave the number as it was. -/
theorem setBitsAt_bitsAt_self (v lo w : Nat) : setBitsAt v lo w (bitsAt v lo w) = v := by
  rw [setBitsAt_eq, bitsAt, Nat.mod_mod, Nat.shiftRight_eq_div_pow, Nat.div_add_mod, Nat.mul_comm, Nat.div_add_mod]

/-- A kept field is the old one. -/
theorem fv_keep (v old : Nat) (f : RegField) : fv (keep v old f) f = bitsAt old f.lo f.w := by
  rw [fv, keep, bitsAt_setBitsAt, bitsAt, Nat.mod_mod]

/-- A register whose writable fields are written as they are keeps its value (R17). -/
theorem RegDesc.merge_of_kept {d : RegDesc} {old v : Nat} (hclear : ∀ f ∈ d.fields, f.acc ≠ .w1c)
    (hkept : ∀ f ∈ d.fields, f.acc ∈ [Access.rw, .hid] → bitsAt v f.lo f.w = bitsAt old f.lo f.w) : d.merge old v = old := by
  obtain ⟨base, dims, fields, rst⟩ := d
  rw [RegDesc.merge]
  induction fields with
  | nil => rfl
  | cons f r ih =>
    obtain ⟨lo, w, acc⟩ := f
    have hf := hkept _ List.mem_cons_self
    have hr := ih (fun g hg => hclear g (List.mem_cons_of_mem _ hg)) fun g hg => hkept g (List.mem_cons_of_mem _ hg)
    rw [List.foldl_cons]
    cases acc with
    | rw | hid =>
      have hsame : setBitsAt old lo w (bitsAt v lo w) = old := by rw [hf (by simp), setBitsAt_bitsAt_self]
      simp only [hsame]
      exact hr
    | w1c => exact absurd rfl (hclear _ List.mem_cons_self)
    | ro | wo | rc => exact hr

/-- A taken write whose merge leaves the register as it was: only what the register starts is left of it. -/
theorem State.ctlWrite_of_merge_eq {s : State} {o : Nat} {v : Word} {d : RegDesc} {w : Nat} (hcanon : canonOff o = o)
    (hreg : findReg o = some d) (hmerge : d.merge (s.reg o).toNat w = (s.reg o).toNat) (hhas : s.absentReg o = false)
    (hvet : s.vet o v.toNat (s.reg o).toNat = some w) : s.ctlWrite o v = (s.rewritten o).after o v.toNat (s.reg o).toNat := by
  have hwrite : s.ctlWrite o v = _ := State.ctlWrite_of_vet (by rwa [hcanon]) (by rwa [hcanon]) (by rwa [hcanon])
  rw [hwrite, hcanon, hmerge, BitVec.ofNat_toNat, BitVec.setWidth_eq, State.rewritten]

end Sys2Proof.Machine
end

section
/-! The walker's settings and descriptor slots as registers (R228, R251): where they stand, which WLK_CFG writes are turned away, and what
a WLK_IDX_CTL write does. -/

namespace Sys2Proof.Machine

/-- What a write of the search units' registers may change is theirs to say. -/
theorem State.vet_of_search (s : State) {o : Nat} (v old : Nat) (hlo : 0xF00070000000 ≤ o) (hhi : o < 0xF00071000000) :
    s.vet o v old = vetSearch o v old := by
  rw [State.vet]
  iterate 11 rw [if_neg (by omega)]
  rw [if_pos hhi]

/-- What a write of the search units' registers starts is theirs to say. -/
theorem State.after_of_search (s : State) {o : Nat} (v old : Nat) (hlo : 0xF00070000000 ≤ o) (hhi : o < 0xF00071000000) :
    s.after o v old = s.afterSearch o v := by
  rw [State.after]
  iterate 11 rw [if_neg (by omega)]
  rw [if_pos hhi]

/-- The places of the walker's slots are listed (R526). -/
theorem inControlRange_walkerSlots {o : Nat} (hlo : 0xF00070801000 ≤ o) (hhi : o ≤ 0xF000708013FF) : inControlRange o = true := by
  rw [inControlRange, List.any_eq_true]
  refine ⟨(0xF00070800000, 1, 0, [(0, 0x27), (0x1000, 0x13FF), (0x2000, 0x217F)]), by decide, ?_⟩
  simp only [inRanges, List.any_cons, Bool.and_eq_true, Bool.or_eq_true, decide_eq_true_eq, if_true]
  omega

/-- The settings that WLK_CFG does not take: PREFETCH_CAP above 8, INSERT_SLOTS of 0 or above 12 (R251). -/
theorem vetSearch_wlkCfg_eq_none_iff (v old : Nat) :
    vetSearch Reg.WLK_CFG v old = none ↔
      8 < fv v F.WLK_CFG_PREFETCH_CAP ∨ fv v F.WLK_CFG_INSERT_SLOTS = 0 ∨ 12 < fv v F.WLK_CFG_INSERT_SLOTS := by
  rw [vetSearch, if_neg (by decide), if_neg (by decide), if_pos rfl, vetIf]
  simp only [ite_eq_right_iff, reduceCtorEq, imp_false, Bool.and_eq_true, decide_eq_true_eq]
  omega

/-- No slot of the list scanner is a slot of the walker. -/
theorem copyOf_lsIdxCtl_wlkIdxCtl (n : Nat) : copyOf (Reg.LS_IDX_CTL 0) 0x10 64 (Reg.WLK_IDX_CTL n) = none :=
  copyOf_of_ge (by decide) (by simp only [Reg.LS_IDX_CTL, Reg.WLK_IDX_CTL]; omega)

theorem copyOf_wlkIdxCtl {n : Nat} (hn : n < 64) : copyOf (Reg.WLK_IDX_CTL 0) 0x10 64 (Reg.WLK_IDX_CTL n) = some n :=
  copyOf_copy (by decide) hn

/-- A WLK_IDX_CTL write leaves EN to what it starts. -/
theorem vetSearch_wlkIdxCtl {n : Nat} (hn : n < 64) (v old : Nat) :
    vetSearch (Reg.WLK_IDX_CTL n) v old = some (keep v old (F.WLK_IDX_CTL_EN n)) := by
  have hplace : Reg.WLK_IDX_CTL n = 0xF00070801008 + n * 0x10 := rfl
  rw [vetSearch, if_neg (by simp only [Reg.LS_CFG]; omega), if_neg (by simp only [Reg.LS_SHADOW_CFG]; omega),
    if_neg (by simp only [Reg.WLK_CFG]; omega), copyOf_lsIdxCtl_wlkIdxCtl, copyOf_wlkIdxCtl hn]

/-- A WLK_IDX_CTL write enables the slot or disables it (R228). -/
theorem State.afterSearch_wlkIdxCtl (s : State) {n : Nat} (hn : n < 64) (v : Nat) :
    s.afterSearch (Reg.WLK_IDX_CTL n) v =
      enEdge v (s.bit (F.WLK_IDX_CTL_EN n)) (fun s => s.gwEnable n) (fun s => s.gwDisable n) s := by
  rw [State.afterSearch, copyOf_lsIdxCtl_wlkIdxCtl, copyOf_wlkIdxCtl hn]

/-- EN = 1 enables, whatever EN was. -/
theorem enEdge_of_set {v : Nat} (h : v % 2 = 1) (en : Bool) (on off : State → State) (s : State) : enEdge v en on off s = on s := by
  rw [enEdge, if_pos h]

/-- EN is bit 0 of the value, and so in its first 64 bits. -/
theorem enEdge_ofNat (v : Nat) (en : Bool) (on off : State → State) (s : State) :
    enEdge (BitVec.ofNat 64 v).toNat en on off s = enEdge v en on off s := by
  rw [enEdge, BitVec.toNat_ofNat, Nat.mod_mod_of_dvd v (by decide), enEdge]

/-- A slot that is ON is not enabled again (R251). -/
theorem State.gwEnable_of_on {s : State} {n : Nat} (hon : s.get (F.WLK_IDX_CTL_STATE n) = 1) : s.gwEnable n = s := by
  rw [State.gwEnable, if_pos hon]

/-- The first five registers of the walker have one copy each and stand below its slots. -/
theorem regsWLK_single : ∀ j < 5, ∀ r ∈ regsWLK[j]?, r.dims = [] ∧ r.base < 0xF00070801000 := by decide

/-- The next two are those of a slot, of 64 copies each. -/
theorem regsWLK_slot : ∀ i < 2, ∀ r ∈ regsWLK[5 + i]?, r.dims = [(0x10, 64)] ∧ r.base = 0xF00070801000 + 8 * i := by decide

/-- The WLK_IDX_CTL of every slot is the seventh register of the walker: those before it stand elsewhere. -/
theorem findReg_wlkIdxCtl {n : Nat} (hn : n < 64) : findReg (Reg.WLK_IDX_CTL n) = regsWLK[6]? := by
  have hplace : Reg.WLK_IDX_CTL n = 0xF00070801008 + n * 0x10 := rfl
  have hlen : 6 < regsWLK.length := by decide
  obtain ⟨hdims, hbase⟩ := regsWLK_slot 1 (by decide) _ (List.getElem?_eq_getElem hlen)
  have hfirst : regsWLK.find? (fun r => r.hit (Reg.WLK_IDX_CTL n)) = some regsWLK[6] := by
    refine List.find?_eq_some_iff_getElem.mpr ⟨(RegDesc.hit_of_copies hdims _).mpr (by omega), 6, hlen, rfl, fun j hj => ?_⟩
    rw [Bool.not_eq_true', ← Bool.not_eq_true]
    rcases Nat.lt_or_ge j 5 with hj5 | hj5
    · obtain ⟨hdj, hbj⟩ := regsWLK_single j hj5 _ (List.getElem?_eq_getElem (hj.trans hlen))
      rw [RegDesc.hit_of_single hdj]
      omega
    · obtain rfl : j = 5 := by omega
      obtain ⟨hdj, hbj⟩ := regsWLK_slot 0 (by decide) _ (List.getElem?_eq_getElem (hj.trans hlen))
      rw [RegDesc.hit_of_copies hdj, hbj]
      omega
  have hblock : (0xF00070800000, 0xF0007080217F, regsWLK) ∈ blockTable := by simp [blockTable]
  rw [findReg_of_block hblock (by dsimp only; omega) (by dsimp only; omega) hfirst, List.getElem?_eq_getElem hlen]

/-- EN is the one field of WLK_IDX_CTL to write: with it kept, the register keeps its value. -/
theorem merge_wlkIdxCtl_keep {d : RegDesc} (hd : regsWLK[6]? = some d) (n v old : Nat) :
    d.merge old (keep v old (F.WLK_IDX_CTL_EN n)) = old := by
  obtain rfl : _ = d := Option.some.inj hd
  have hen : ∀ f ∈ regsWLK[6].fields, f.acc ∈ [Access.rw, .hid] → f.lo = 0 ∧ f.w = 1 := by decide
  refine RegDesc.merge_of_kept (by decide) fun f hf hacc => ?_
  obtain ⟨hlo, hw⟩ := hen f hf hacc
  rw [hlo, hw]
  exact fv_keep v old (F.WLK_IDX_CTL_EN n)

/-- A WLK_IDX_CTL write leaves the register as it was and enables or disables the slot (R228). -/
theorem exec_registerWrite_wlkIdxCtl {s : State} (hlive : s.dead = false) {n : Nat} (hn : n < 64) (v : Nat) :
    exec (.registerWrite (Reg.WLK_IDX_CTL n) v) s = .next (s.done
      (enEdge v ((s.rewritten (Reg.WLK_IDX_CTL n)).bit (F.WLK_IDX_CTL_EN n)) (fun s => s.gwEnable n) (fun s => s.gwDisable n)
        (s.rewritten (Reg.WLK_IDX_CTL n)))) := by
  have hplace : Reg.WLK_IDX_CTL n = 0xF00070801008 + n * 0x10 := rfl
  have hreg := findReg_wlkIdxCtl hn
  have hd : regsWLK[6]? = some regsWLK[6] := rfl
  have hvet (v old : Nat) : s.vet (Reg.WLK_IDX_CTL n) v old = some (keep v old (F.WLK_IDX_CTL_EN n)) := by
    rw [State.vet_of_search s _ _ (by omega) (by omega), vetSearch_wlkIdxCtl hn]
  rw [exec_registerWrite hlive, if_pos ⟨by omega, inControlRange_walkerSlots (by omega) (by omega)⟩,
    State.ctlWrite_of_merge_eq (canonOff_of_ge (by omega)) (hreg.trans hd) (merge_wlkIdxCtl_keep hd n _ _)
      (State.absentReg_of_ge s (by omega)) (hvet _ _),
    State.after_of_search _ _ _ (by omega) (by omega), State.afterSearch_wlkIdxCtl _ hn, enEdge_ofNat]

/-- Settles O47: WLK_CFG turns the settings out of range away before they reach anything; EN of a slot is left to the enabling, which
does nothing where the slot is ON. -/
theorem walkerSettingsKeepTheirLimits : Obligations.WalkerSettingsKeepTheirLimits := by
  refine fun s v hlive hquiet => ⟨fun hbad => ?_, fun n hn hwf hon hset => ?_⟩
  · have hcanon : canonOff Reg.WLK_CFG = Reg.WLK_CFG := canonOff_of_ge (by decide)
    have haway : s.ctlWrite Reg.WLK_CFG (BitVec.ofNat 64 v) = s := by
      refine State.ctlWrite_of_vet_none_of_ge (by rw [hcanon]; decide) ?_
      rw [hcanon, BitVec.toNat_ofNat, State.vet_of_search s _ _ (by decide) (by decide)]
      exact (vetSearch_wlkCfg_eq_none_iff _ _).mpr hbad
    rw [exec_registerWrite hlive, haway, ite_self, State.done_self s hquiet]
  · have hstate := State.get_rewritten hwf (Reg.WLK_IDX_CTL n) (F.WLK_IDX_CTL_STATE n)
    have hend : s.done (s.rewritten (Reg.WLK_IDX_CTL n)) = s.rewritten (Reg.WLK_IDX_CTL n) :=
      State.done_eq (by rwa [State.rewritten_evt]) (State.rewritten_pending s _)
    refine ⟨_, exec_registerWrite_wlkIdxCtl hlive hn v, ?_⟩
    rw [enEdge_of_set hset, State.gwEnable_of_on (hstate.trans hon), hend]
    exact State.changesOnlyRegs_rewritten hwf _

end Sys2Proof.Machine
end

section
/-! The shadow bank of the telemetry counters (R426): what SNAP copies of the register store, and what is read while VIEW is 1. -/

namespace Sys2Proof

/-- Entries kept by their keys read as they did. -/
theorem smGet_filter_of_kept {α : Type} (d : Nat → α) (m : SMap α) {p : Nat → Bool} {i : Nat} (hp : p i = true) :
    smGet d (m.filter fun e => p e.1) i = smGet d m i := by
  induction m with
  | nil => rfl
  | cons e r ih =>
    obtain ⟨k, v⟩ := e
    by_cases hk : p k = true
    · rw [List.filter_cons, if_pos hk, smGet, smGet, ih]
    · have hne : k ≠ i := fun h => hk (h ▸ hp)
      rw [List.filter_cons, if_neg hk, smGet, if_neg hne, ih]

/-- Values mapped entry by entry read as the mapped value, where what an unlisted key reads as is mapped too. -/
theorem smGet_map {α β : Type} (f : α → β) (d : Nat → α) (d' : Nat → β) (m : SMap α) {i : Nat} (hd : d' i = f (d i)) :
    smGet d' (m.map fun e => (e.1, f e.2)) i = f (smGet d m i) := by
  induction m with
  | nil => exact hd
  | cons e r ih =>
    obtain ⟨k, v⟩ := e
    rw [List.map_cons, smGet, smGet, ih, apply_ite f]

end Sys2Proof

namespace Sys2Proof.Machine

/-- How far the copies of a register reach from its first offset. -/
def dimsSpan : List (Nat × Nat) → Nat
  | [] => 1
  | (stride, n) :: _ => n * stride

/-- A copy of a register stands within the register's span. -/
theorem lt_dimsSpan_of_dimsHit {dims : List (Nat × Nat)} {off : Nat} (hspan : 0 < dimsSpan dims) (hhit : dimsHit dims off = true) :
    off < dimsSpan dims := by
  cases dims with
  | nil => exact Nat.lt_one_iff.mpr (beq_iff_eq.mp hhit)
  | cons e r =>
    obtain ⟨stride, n⟩ := e
    rw [dimsHit, Bool.and_eq_true, decide_eq_true_eq] at hhit
    exact (Nat.div_lt_iff_lt_mul (Nat.pos_of_mul_pos_left hspan)).mp hhit.1

/-- Every register with a reset value other than 0 ends before the tenant counters or begins after the shard slots. -/
theorem resetTable_clear_of_counters : ∀ e ∈ resetTable, 0 < dimsSpan e.2.1 ∧
    (e.1 + dimsSpan e.2.1 ≤ Reg.TEL_TEN 0 0 ∨ Reg.TEL_SHARD_KEY 1024 ≤ e.1) := by decide

/-- What SNAP captures stands between the first tenant counter and the end of the shard slots. -/
theorem snapped_bounds {o : Nat} (h : snapped o = true) : Reg.TEL_TEN 0 0 ≤ o ∧ o < Reg.TEL_SHARD_KEY 1024 := by
  simp only [snapped, Bool.or_eq_true, Bool.and_eq_true, decide_eq_true_eq] at h
  simp only [Reg.TEL_TEN, Reg.TEL_SHARD_KEY] at h ⊢
  omega

/-- The registers that SNAP captures are 0 at reset. -/
theorem regReset_of_snapped {o : Nat} (h : snapped o = true) : regReset o = 0 := by
  obtain ⟨hlo, hhi⟩ := snapped_bounds h
  have hnone : resetTable.find? (fun e => decide (e.1 ≤ o) && dimsHit e.2.1 (o - e.1)) = none := by
    refine List.find?_eq_none.mpr fun e he hhit => ?_
    rw [Bool.and_eq_true, decide_eq_true_eq] at hhit
    obtain ⟨hspan, hclear⟩ := resetTable_clear_of_counters e he
    have hin := lt_dimsSpan_of_dimsHit hspan hhit.2
    omega
  rw [regReset, hnone]

/-- A captured register has in the shadow bank the value that it had at SNAP. -/
theorem State.shadow_telSnap (s : State) {o : Nat} (h : snapped o = true) :
    smGet (fun _ => 0) s.telSnap.tel.shadow o = (s.reg o).toNat := by
  have hunlisted : 0 = (regReset o).toNat := by rw [regReset_of_snapped h]; rfl
  calc smGet (fun _ => 0) s.telSnap.tel.shadow o
      = (smGet regReset (s.regs.filter fun e => snapped e.1) o).toNat := smGet_map BitVec.toNat regReset _ _ hunlisted
    _ = (s.reg o).toNat := by rw [smGet_filter_of_kept regReset s.regs h, State.reg]

/-- SNAP fills the shadow bank and does nothing else. -/
theorem State.sameBut_telSnap (s : State) : s.sameBut [.tel] s.telSnap := by
  intro p hp
  cases p with
  | tel => exact absurd List.mem_cons_self hp
  | _ => rfl

/-- TEL_SNAP in a node that runs and has nothing to report. -/
theorem exec_telSnap {s : State} (hlive : s.dead = false) (hquiet : s.evt.quiet = true) : exec .telSnap s = .next s.telSnap := by
  have hend : s.done s.telSnap = s.telSnap := State.done_eq hquiet rfl
  rw [exec, execTelSnap, State.live_next s _ hlive, hend]

/-- While VIEW is 0 no register reads from the shadow bank. -/
theorem State.peekTel_of_view_off {s : State} (hview : s.bit F.TEL_CTRL_VIEW = false) (o : Nat) : s.peekTel o = none := by
  rw [State.peekTel, hview]
  exact if_neg fun h => Bool.false_ne_true h.1

/-- While VIEW is 1 a captured register reads from the shadow bank: a TEL_SHARD_CNT in its lower half, where COUNT is, and every other
one whole (R426). -/
theorem State.peekTel_of_view_on {s : State} {o : Nat} (hview : s.bit F.TEL_CTRL_VIEW = true) (h : snapped o = true) :
    s.peekTel o = some
      (if Reg.TEL_SHARD_KEY 0 ≤ o ∧ (o - Reg.TEL_SHARD_KEY 0) % 0x20 = 8 then
        setBitsAt (s.reg o).toNat 0 32 (smGet (fun _ => 0) s.tel.shadow o)
      else smGet (fun _ => 0) s.tel.shadow o) := by
  rw [State.peekTel, if_pos ⟨hview, h⟩, apply_ite some]

/-- Settles O49: the shadow bank holds each captured register as it was at SNAP, one that the store does not list as 0, its reset value;
a later state that still has this bank reads from it alone, but for SLOW beside COUNT. -/
theorem snapIsReadBackWhileViewIsSet : Obligations.SnapIsReadBackWhileViewIsSet := by
  refine fun s hlive hquiet _ => ⟨s.telSnap, exec_telSnap hlive hquiet, State.sameBut_telSnap s, fun u o htel hsnap => ?_⟩
  have hcopy : smGet (fun _ => 0) u.tel.shadow o = (s.reg o).toNat := by rw [htel, State.shadow_telSnap s hsnap]
  refine ⟨fun hview => State.peekTel_of_view_off hview o, fun hview hwhole => ?_, fun hview hge hcount => ?_⟩
  · rw [State.peekTel_of_view_on hview hsnap, if_neg (by omega), hcopy]
  · rw [State.peekTel_of_view_on hview hsnap, if_pos ⟨hge, hcount⟩, hcopy]

end Sys2Proof.Machine
end

section
/-! The check-value units (R441, R442, R445): what START and the feeds leave in a unit that no channel holds, and what CHK_RESULT then
reads, for any parameters and any bytes. -/

namespace Sys2Proof.Machine

/-- One bit keeps a CRC register within its width. -/
theorem crcBit_lt {w poly : Nat} (hpoly : poly < 2 ^ w) (reg bit : Nat) : crcBit w poly reg bit < 2 ^ w := by
  have hshift : reg * 2 % 2 ^ w < 2 ^ w := Nat.mod_lt _ (Nat.two_pow_pos w)
  rw [crcBit]
  split
  · exact hshift
  · exact Nat.xor_lt_two_pow hshift hpoly

/-- Bits fed keep a CRC register within its width. -/
theorem foldl_crcBit_lt {w poly : Nat} (hpoly : poly < 2 ^ w) (bits : List Nat) {reg : Nat} (hreg : reg < 2 ^ w) :
    bits.foldl (crcBit w poly) reg < 2 ^ w :=
  List.foldlRecOn (motive := (· < 2 ^ w)) bits _ hreg fun r _ b _ => crcBit_lt hpoly r b

/-- Bytes fed keep a CRC register within its width. -/
theorem crcFeed_lt {w poly : Nat} (hpoly : poly < 2 ^ w) (refl : Bool) (bs : List Byte) {reg : Nat} (hreg : reg < 2 ^ w) :
    crcFeed w poly refl reg bs < 2 ^ w :=
  List.foldlRecOn (motive := (· < 2 ^ w)) bs _ hreg fun _ hr b _ => foldl_crcBit_lt hpoly (byteBits refl b.toNat) hr

/-- The parameters of a check value (R441). -/
structure CrcParams where
  width : Nat
  poly : Nat
  init : Nat
  refin : Bool
  refout : Bool
  xorout : Nat

/-- Bytes fed into a register of WIDTH bits: the bits of POLY at or above WIDTH are ignored. -/
def CrcParams.feed (p : CrcParams) (reg : Nat) (bs : List Byte) : Nat := crcFeed p.width (p.poly % 2 ^ p.width) p.refin reg bs

/-- The check value of a register. -/
def CrcParams.result (p : CrcParams) (reg : Nat) : Nat := crcResult p.width p.refout (p.xorout % 2 ^ p.width) reg

/-- The check value of a message: the register begins at INIT. -/
def CrcParams.checkValue (p : CrcParams) (bs : List Byte) : Nat := p.result (p.feed (p.init % 2 ^ p.width) bs)

theorem CrcParams.feed_lt (p : CrcParams) {reg : Nat} (hreg : reg < 2 ^ p.width) (bs : List Byte) : p.feed reg bs < 2 ^ p.width :=
  crcFeed_lt (Nat.mod_lt _ (Nat.two_pow_pos _)) p.refin bs hreg

/-- Bytes fed in two parts are fed as one. -/
theorem CrcParams.feed_append (p : CrcParams) (reg : Nat) (bs cs : List Byte) : p.feed reg (bs ++ cs) = p.feed (p.feed reg bs) cs :=
  List.foldl_append

/-- The fields that START and the feeds read and never write. -/
def chkSettings (u : Nat) : List RegField :=
  [F.CHK_CTRL_HELD u, F.CHK_CFG_WIDTH u, F.CHK_POLY_VALUE u, F.CHK_INIT_VALUE u, F.CHK_CFG_REFIN u, F.CHK_CFG_REFOUT u,
    F.CHK_XOROUT_VALUE u]

/-- The state with a unit's running register and byte count replaced: all that START and the feeds do. -/
def State.chkPut (s : State) (u reg bytes : Nat) : State := (s.set (F.CHK_STATE_VALUE u) reg).set (F.CHK_BYTES_BYTES u) bytes

@[simp] theorem State.chkPut_pending (s : State) (u reg bytes : Nat) : (s.chkPut u reg bytes).pending = s.pending := rfl
@[simp] theorem State.chkPut_evt (s : State) (u reg bytes : Nat) : (s.chkPut u reg bytes).evt = s.evt := rfl
@[simp] theorem State.chkPut_dead (s : State) (u reg bytes : Nat) : (s.chkPut u reg bytes).dead = s.dead := rfl

theorem State.regs_wf_chkPut {s : State} (hwf : smWf regReset s.regs = true) (u reg bytes : Nat) :
    smWf regReset (s.chkPut u reg bytes).regs = true :=
  State.regs_wf_setReg _ _ _ (State.regs_wf_setReg s _ _ hwf)

/-- The settings of a unit stand in other registers than its running register and its byte count. -/
theorem chkSettings_off {u : Nat} {f : RegField} (hf : f ∈ chkSettings u) :
    f.off ≠ (F.CHK_STATE_VALUE u).off ∧ f.off ≠ (F.CHK_BYTES_BYTES u).off := by
  simp only [chkSettings, List.mem_cons, List.not_mem_nil, or_false] at hf
  rcases hf with rfl | rfl | rfl | rfl | rfl | rfl | rfl <;>
    simp only [F.CHK_CTRL_HELD, F.CHK_CFG_WIDTH, F.CHK_POLY_VALUE, F.CHK_INIT_VALUE, F.CHK_CFG_REFIN, F.CHK_CFG_REFOUT,
      F.CHK_XOROUT_VALUE, F.CHK_STATE_VALUE, F.CHK_BYTES_BYTES, Reg.CHK_CTRL, Reg.CHK_CFG, Reg.CHK_POLY, Reg.CHK_INIT,
      Reg.CHK_XOROUT, Reg.CHK_STATE, Reg.CHK_BYTES] <;>
    omega

theorem State.get_chkPut_setting (s : State) {u : Nat} (reg bytes : Nat) {f : RegField} (hf : f ∈ chkSettings u) :
    (s.chkPut u reg bytes).get f = s.get f := by
  obtain ⟨hstate, hbytes⟩ := chkSettings_off hf
  rw [State.chkPut, State.get_set_other _ _ f _ hbytes, State.get_set_other _ _ f _ hstate]

theorem State.get_chkPut_state {s : State} (hwf : smWf regReset s.regs = true) (u reg bytes : Nat) :
    (s.chkPut u reg bytes).get (F.CHK_STATE_VALUE u) = reg % 2 ^ 64 := by
  have hbytes : (F.CHK_STATE_VALUE u).off ≠ (F.CHK_BYTES_BYTES u).off := by
    simp only [F.CHK_STATE_VALUE, F.CHK_BYTES_BYTES, Reg.CHK_STATE, Reg.CHK_BYTES]
    omega
  rw [State.chkPut, State.get_set_other _ _ _ _ hbytes, State.get_set_same s (F.CHK_STATE_VALUE u) _ hwf (Nat.le_refl 64)]
  rfl

/-- A unit set up with the parameters `p`, in a node that runs and has nothing to report, and held by no channel. -/
structure State.ChkSetUp (s : State) (u : Nat) (p : CrcParams) : Prop where
  live : s.dead = false
  quiet : s.evt.quiet = true
  wf : smWf regReset s.regs = true
  free : s.chkHeld u = false
  width : s.get (F.CHK_CFG_WIDTH u) = p.width
  poly : s.get (F.CHK_POLY_VALUE u) = p.poly
  init : s.get (F.CHK_INIT_VALUE u) = p.init
  refin : s.bit (F.CHK_CFG_REFIN u) = p.refin
  refout : s.bit (F.CHK_CFG_REFOUT u) = p.refout
  xorout : s.get (F.CHK_XOROUT_VALUE u) = p.xorout

/-- A unit set up with `p` whose running register is `reg`. -/
structure State.ChkRuns (s : State) (u : Nat) (p : CrcParams) (reg : Nat) : Prop extends s.ChkSetUp u p where
  state : s.get (F.CHK_STATE_VALUE u) = reg
  bound : reg < 2 ^ p.width

/-- The running register of a unit that is set up is replaced, and the settings stay. -/
theorem State.ChkSetUp.chkPut {s : State} {u : Nat} {p : CrcParams} (h : s.ChkSetUp u p) (hp : p.width ≤ 64) {reg : Nat}
    (hreg : reg < 2 ^ p.width) (bytes : Nat) : (s.chkPut u reg bytes).ChkRuns u p reg := by
  have keep (f : RegField) (hf : f ∈ chkSettings u) : (s.chkPut u reg bytes).get f = s.get f := State.get_chkPut_setting s reg bytes hf
  have keepBit (f : RegField) (hf : f ∈ chkSettings u) : (s.chkPut u reg bytes).bit f = s.bit f := by
    rw [State.bit, State.bit, keep f hf]
  exact {
    live := (State.chkPut_dead s u reg bytes).trans h.live
    quiet := by rw [State.chkPut_evt, h.quiet]
    wf := State.regs_wf_chkPut h.wf u reg bytes
    free := (keepBit _ (by simp [chkSettings])).trans h.free
    width := (keep _ (by simp [chkSettings])).trans h.width
    poly := (keep _ (by simp [chkSettings])).trans h.poly
    init := (keep _ (by simp [chkSettings])).trans h.init
    refin := (keepBit _ (by simp [chkSettings])).trans h.refin
    refout := (keepBit _ (by simp [chkSettings])).trans h.refout
    xorout := (keep _ (by simp [chkSettings])).trans h.xorout
    state := by
      rw [State.get_chkPut_state h.wf, Nat.mod_eq_of_lt (hreg.trans_le (Nat.pow_le_pow_right (by decide) hp))]
    bound := hreg }

/-- A write to a unit that no channel holds does what it says (R444). -/
theorem State.chkWrite_of_free {s : State} {u : Nat} (hfree : s.chkHeld u = false) (f : State → State) : s.chkWrite u f = f s := by
  rw [State.chkWrite, hfree, if_neg Bool.false_ne_true]

/-- Bytes fed to a unit that runs move its running register on. -/
theorem State.ChkRuns.chkFeed {s : State} {u reg : Nat} {p : CrcParams} (h : s.ChkRuns u p reg) (hp : p.width ≤ 64) (bs : List Byte) :
    (s.chkFeed u bs).ChkRuns u p (p.feed reg bs) := by
  have hput : s.chkFeed u bs = s.chkPut u (p.feed reg bs) (s.get (F.CHK_BYTES_BYTES u) + bs.length) := by
    rw [State.chkFeed, State.chkCut, State.chkCut, State.chkWidth, h.width, h.poly, h.refin, h.state, Nat.mod_eq_of_lt h.bound]
    rfl
  rw [hput]
  exact h.toChkSetUp.chkPut hp (p.feed_lt h.bound bs) _

/-- A command that replaces a unit's running register has nothing of its own to report. -/
theorem State.done_chkPut {s : State} (hquiet : s.evt.quiet = true) (u reg bytes : Nat) :
    s.done (s.chkPut u reg bytes) = s.chkPut u reg bytes :=
  State.done_eq (by rwa [State.chkPut_evt]) (State.chkPut_pending s u reg bytes)

/-- Bytes fed to a unit replace its running register, and nothing is reported of it. -/
theorem State.done_chkFeed {s : State} (hquiet : s.evt.quiet = true) (u : Nat) (bs : List Byte) :
    s.done (s.chkFeed u bs) = s.chkFeed u bs :=
  State.done_chkPut hquiet u _ _

/-- CHK_START begins the running register at INIT (R442). -/
theorem exec_chkStart_runs {s : State} {u : Nat} {p : CrcParams} (hu : u < 16) (hp : p.width ≤ 64) (h : s.ChkSetUp u p) :
    ∃ t, exec (.chkStart u) s = .next t ∧ t.ChkRuns u p (p.init % 2 ^ p.width) := by
  have hstart : s.chkStart u = s.chkPut u (p.init % 2 ^ p.width) 0 := by
    rw [State.chkStart, State.chkWrite_of_free h.free, State.chkCut, State.chkWidth, h.width, h.init, State.chkPut]
  refine ⟨_, ?_, h.chkPut hp (Nat.mod_lt _ (Nat.two_pow_pos _)) 0⟩
  rw [exec, execChkStart, decide_eq_true hu, onUnit_true, State.live_next s _ h.live, hstart, State.done_chkPut h.quiet]

/-- CHK_FEED feeds the eight bytes of its value, from the lowest upward (R442). -/
theorem exec_chkFeed_runs {s : State} {u reg : Nat} {p : CrcParams} (hu : u < 16) (hp : p.width ≤ 64) (h : s.ChkRuns u p reg) (v : Nat) :
    ∃ t, exec (.chkFeed u v) s = .next t ∧ t.ChkRuns u p (p.feed reg (leBytes 8 v)) := by
  refine ⟨s.chkFeed u (leBytes 8 v), ?_, h.chkFeed hp _⟩
  rw [exec, execChkFeed, decide_eq_true hu, onUnit_true, State.live_next s _ h.live, State.chkWrite_of_free h.free,
    State.done_chkFeed h.quiet]

/-- CHK_FEED_TAIL feeds the lowest `k` bytes of its value, 1 to 7 (R442). -/
theorem exec_chkFeedTail_runs {s : State} {u reg k : Nat} {p : CrcParams} (hu : u < 16) (hp : p.width ≤ 64) (h : s.ChkRuns u p reg)
    (v : Nat) (hpos : 0 < k) (hlt : k < 8) :
    ∃ t, exec (.chkFeedTail u v k) s = .next t ∧ t.ChkRuns u p (p.feed reg (leBytes k v)) := by
  have htail : s.chkTail u v k = s.chkFeed u (leBytes k v) := by
    rw [State.chkTail, Nat.mod_eq_of_lt hlt, if_neg hpos.ne', State.chkWrite_of_free h.free]
  refine ⟨s.chkFeed u (leBytes k v), ?_, h.chkFeed hp _⟩
  rw [exec, execChkFeedTail, decide_eq_true hu, onUnit_true, State.live_next s _ h.live, htail, State.done_chkFeed h.quiet]

/-- CHK_RESULT of a unit that runs is the check value of its running register (R442). -/
theorem State.ChkRuns.chkResult_eq {s : State} {u reg : Nat} {p : CrcParams} (h : s.ChkRuns u p reg) : s.chkResult u = p.result reg := by
  rw [State.chkResult, State.chkCut, State.chkCut, State.chkWidth, h.width, h.refout, h.xorout, h.state, Nat.mod_eq_of_lt h.bound,
    CrcParams.result]

/-- A unit started and fed eight bytes and a tail reads back the check value of those bytes, whatever its parameters (R441, R442). -/
theorem exec_chk_checkValue {s : State} {u k : Nat} {p : CrcParams} (hu : u < 16) (hp : p.width ≤ 64) (h : s.ChkSetUp u p) (v x : Nat)
    (hpos : 0 < k) (hlt : k < 8) :
    ∃ a b c, exec (.chkStart u) s = .next a ∧ exec (.chkFeed u v) a = .next b ∧ exec (.chkFeedTail u x k) b = .next c ∧
      c.chkResult u = p.checkValue (leBytes 8 v ++ leBytes k x) := by
  obtain ⟨a, hstart, ha⟩ := exec_chkStart_runs hu hp h
  obtain ⟨b, hfeed, hb⟩ := exec_chkFeed_runs hu hp ha v
  obtain ⟨c, htail, hc⟩ := exec_chkFeedTail_runs hu hp hb x hpos hlt
  refine ⟨a, b, c, hstart, hfeed, htail, ?_⟩
  rw [hc.chkResult_eq, CrcParams.checkValue, CrcParams.feed_append]

/-- The parameters of a row of R445: WIDTH, POLY, INIT, the one bit of both reflections, XOROUT, and the value, which is none of them. -/
def CrcParams.ofRow (row : Nat × Nat × Nat × Nat × Nat × Nat) : CrcParams :=
  match row with
  | (width, poly, init, refl, xorout, _) => ⟨width, poly, init, refl == 1, refl == 1, xorout⟩

/-- Settles O50: the commands give the check value of the bytes they feed for any parameters, and that of the nine bytes is computed
row by row. -/
theorem checkUnitsGiveTheCheckValues : Obligations.CheckUnitsGiveTheCheckValues := by
  intro row hrow s u hlive hquiet hwf hu hheld hwidth hpoly hinit hrefin hrefout hxorout
  have hsetup : s.ChkSetUp u (CrcParams.ofRow row) := {
    live := hlive
    quiet := hquiet
    wf := hwf
    free := by rw [State.chkHeld, State.bit, hheld]; rfl
    width := hwidth
    poly := hpoly
    init := hinit
    refin := by rw [State.bit, hrefin]; rfl
    refout := by rw [State.bit, hrefout]; rfl
    xorout := hxorout }
  have htable : (CrcParams.ofRow row).width ≤ 64 ∧
      (CrcParams.ofRow row).checkValue (leBytes 8 0x3837363534333231 ++ leBytes 1 0x39) = row.2.2.2.2.2 := by
    clear hwidth hpoly hinit hrefin hrefout hxorout hsetup
    revert row
    decide +kernel
  obtain ⟨hp, hvalue⟩ := htable
  rw [← hvalue]
  exact exec_chk_checkValue hu hp hsetup _ _ (by decide) (by decide)

end Sys2Proof.Machine
end

section
/-! Commands of the identity block (R465): what SEC_CTRL does with more than one command bit, and what every command does while one runs that
turns others away. -/

namespace Sys2Proof.Machine

/-! A state that changes in some registers alone. -/

theorem State.changesOnlyRegs_trans {s t u : State} {xs ys : List Nat} (h : s.changesOnlyRegs t xs) (g : t.changesOnlyRegs u ys) :
    s.changesOnlyRegs u (xs ++ ys) := by
  obtain ⟨hparts, hregs⟩ := h
  obtain ⟨gparts, gregs⟩ := g
  refine ⟨State.sameBut_trans hparts gparts, fun o ho => ?_⟩
  rw [List.mem_append, not_or] at ho
  rw [gregs o ho.2, hregs o ho.1]

theorem State.changesOnlyRegs_set (s : State) (f : RegField) (v : Nat) : s.changesOnlyRegs (s.set f v) [f.off] :=
  ⟨State.sameBut_set s f v, fun o ho => State.reg_set_other s f v o (List.ne_of_not_mem_cons ho)⟩

/-! LAST_RESULT of SEC_STATUS. -/

theorem State.changesOnlyRegs_secResult (s : State) (r : Nat) : s.changesOnlyRegs (s.secResult r) [Reg.SEC_STATUS] :=
  State.changesOnlyRegs_set s F.SEC_STATUS_LAST_RESULT r

theorem State.get_secResult {s : State} (hwf : smWf regReset s.regs = true) (r : Nat) :
    (s.secResult r).get F.SEC_STATUS_LAST_RESULT = r % 8 :=
  State.get_set_same s F.SEC_STATUS_LAST_RESULT r hwf (by decide)

/-- A command that sets LAST_RESULT alone has nothing to report. -/
theorem State.done_secResult {s t : State} (hquiet : t.evt.quiet = true) (hqueue : t.pending = s.pending) (r : Nat) :
    s.done (t.secResult r) = t.secResult r :=
  State.done_eq hquiet hqueue

/-! SEC_CTRL (R465). -/

/-- The identity block's registers take every write: the access codes of their fields say what it changes. -/
theorem State.vet_of_sec (s : State) {o : Nat} (v old : Nat) (hlo : 0xF00003000000 ≤ o) (hhi : o < 0xF00020000000) :
    s.vet o v old = some v := by
  rw [State.vet]
  iterate 3 rw [if_neg (by omega)]
  rw [if_pos hhi]

/-- What a write of the identity block's registers starts is the identity block's to say. -/
theorem State.after_of_sec (s : State) {o : Nat} (v old : Nat) (hlo : 0xF00003000000 ≤ o) (hhi : o < 0xF00020000000) :
    s.after o v old = s.afterSec o v := by
  rw [State.after]
  iterate 3 rw [if_neg (by omega)]
  rw [if_pos hhi]

theorem State.afterSec_of_many (s : State) {v : Nat} (hmany : 1 < bitCount v [0, 1, 2, 3, 4, 5]) :
    s.afterSec Reg.SEC_CTRL v = s.secResult SR_BUSY := by
  rw [State.afterSec, if_pos rfl, if_pos hmany]

/-- SEC_CTRL has no field to write: its command bits and ARG read as 0. -/
theorem findReg_secCtrl : ∃ d, findReg Reg.SEC_CTRL = some d ∧ ∀ f ∈ d.fields, f.acc ∉ [Access.rw, .hid, .w1c] := by
  have hblock : (0xF00003000000, 0xF0000300033F, regsSEC) ∈ blockTable := by simp [blockTable]
  exact ⟨regsSEC[3], findReg_of_block hblock (by decide) (by decide) (by decide), by decide⟩

/-- A SEC_CTRL write leaves the register as it was and starts what its command bits say. -/
theorem exec_registerWrite_secCtrl {s : State} (hlive : s.dead = false) (v : Nat) :
    exec (.registerWrite Reg.SEC_CTRL v) s = .next (s.done ((s.rewritten Reg.SEC_CTRL).afterSec Reg.SEC_CTRL (v % 2 ^ 64))) := by
  obtain ⟨d, hreg, hfields⟩ := findReg_secCtrl
  rw [exec_registerWrite hlive, if_pos (by decide),
    State.ctlWrite_of_no_writable (canonOff_of_lt (by decide)) hreg hfields (State.absentReg_of_lt s (by decide))
      (State.vet_of_sec s _ _ (by decide) (by decide)),
    State.after_of_sec _ _ _ (by decide) (by decide), BitVec.toNat_ofNat]

/-- A SEC_CTRL write with more than one command bit starts nothing and sets LAST_RESULT to BUSY. -/
theorem exec_registerWrite_secCtrl_of_many {s : State} (hlive : s.dead = false) (hquiet : s.evt.quiet = true) {v : Nat}
    (hmany : 1 < bitCount (v % 2 ^ 64) [0, 1, 2, 3, 4, 5]) :
    exec (.registerWrite Reg.SEC_CTRL v) s = .next ((s.rewritten Reg.SEC_CTRL).secResult SR_BUSY) := by
  rw [exec_registerWrite_secCtrl hlive, State.afterSec_of_many _ hmany,
    State.done_secResult (by rwa [State.rewritten_evt]) (State.rewritten_pending s _)]

/-! Commands while a CLAIM or a RAISE_FLOOR runs; a REVOKE_VKEY of the model ends at once (assumption log 133, DEDUCED). -/

theorem State.secDo_of_runs {s : State} (hruns : s.secRuns = true) (f : State → State) : s.secDo f = s.secResult SR_BUSY := by
  rw [State.secDo, if_pos hruns]

/-- A command of the identity block, in a node where one runs that turns it away: only LAST_RESULT is left of it. -/
theorem State.live_secDo_of_runs {s : State} (hlive : s.dead = false) (hquiet : s.evt.quiet = true) (hruns : s.secRuns = true)
    (f : State → State) : s.live (.next (s.secDo f)) = .next (s.secResult SR_BUSY) := by
  rw [State.secDo_of_runs hruns, State.live_next s _ hlive, State.done_secResult hquiet rfl]

/-- Every command of the identity block is turned away while one runs. -/
theorem exec_secCommand_of_runs {s : State} (hlive : s.dead = false) (hquiet : s.evt.quiet = true) (hruns : s.secRuns = true) {c : Instr}
    (hc : c ∈ ([.claim, .quote, .akCert, .raiseFloor] : List Instr) ∨ (∃ a, a < 8 ∧ (c = .extend a ∨ c = .revokeVkey a))) :
    exec c s = .next (s.secResult SR_BUSY) := by
  have haway := State.live_secDo_of_runs hlive hquiet hruns
  rcases hc with hplain | ⟨a, ha, rfl | rfl⟩
  · simp only [List.mem_cons, List.not_mem_nil, or_false] at hplain
    rcases hplain with rfl | rfl | rfl | rfl
    · exact haway State.claim
    · exact haway State.quote
    · exact haway State.akCert
    · exact haway State.raiseFloor
  · rw [exec, execExtend, decide_eq_true ha, onUnit_true, haway]
  · rw [exec, execRevokeVkey, decide_eq_true ha, onUnit_true, haway]

/-- Settles O48: SEC_CTRL keeps its value, so that of a write with more command bits, as of a command that is turned away, LAST_RESULT is
all that changes. -/
theorem oneIdentityCommandAtATime : Obligations.OneIdentityCommandAtATime := by
  refine fun s hlive hquiet hwf => ⟨fun v hmany => ?_, fun hruns c hc => ?_⟩
  · refine ⟨_, exec_registerWrite_secCtrl_of_many hlive hquiet hmany, ?_, State.get_secResult (State.regs_wf_rewritten hwf _) SR_BUSY⟩
    exact State.changesOnlyRegs_trans (State.changesOnlyRegs_rewritten hwf Reg.SEC_CTRL) (State.changesOnlyRegs_secResult _ SR_BUSY)
  · exact ⟨_, exec_secCommand_of_runs hlive hquiet hruns hc, State.changesOnlyRegs_secResult s SR_BUSY, State.get_secResult hwf SR_BUSY⟩

end Sys2Proof.Machine
end

section
/-! The aliases of the tiles' registers (R527, R528): which registers lie there, which of their places are listed, and that a direct place
with no register of its own stands for the aliased one. -/

namespace Sys2Proof.Machine

/-- The tiles' block is the last, and so the only one that reaches past its first offset. -/
theorem eq_tileBlock_of_ge {b : Nat × Nat × List RegDesc} (hb : b ∈ blockTable) (hge : 0xF000A0000000 ≤ b.2.1) :
    b = (0xF000A0000000, 0xF000C9FFFFFF, regsTILE) := by
  have htable : blockTable = blockTable.dropLast ++ [(0xF000A0000000, 0xF000C9FFFFFF, regsTILE)] := rfl
  have hapart := blockTable_apart
  rw [htable] at hb hapart
  rcases List.mem_append.mp hb with hbefore | hlast
  · exact absurd ((List.pairwise_append.mp hapart).2.2 b hbefore _ List.mem_cons_self) (Nat.not_lt.mpr hge)
  · exact List.mem_singleton.mp hlast

/-- From the first tile's aliases on, an offset reaches a register of a tile or none (R528). -/
theorem mem_regsTILE_of_findReg {o : Nat} {d : RegDesc} (hlo : 0xF000A0000000 ≤ o) (hreg : findReg o = some d) : d ∈ regsTILE := by
  obtain ⟨b, hb, hfind⟩ := List.exists_of_findSome?_eq_some hreg
  obtain ⟨⟨-, hend⟩, hfirst⟩ := Option.ite_none_right_eq_some.mp hfind
  rw [eq_tileBlock_of_ge hb (hlo.trans hend)] at hfirst
  exact List.mem_of_find?_eq_some hfirst

/-- Every other row of listed ranges ends before the first tile's aliases: one copy with its ranges, several with their
strides. -/
theorem rangeTable_below : ∀ e ∈ rangeTable.dropLast,
    if e.2.2.1 = 0 then ∀ r ∈ e.2.2.2, e.1 + r.2 < 0xF000A0000000 else e.1 + e.2.1 * e.2.2.1 ≤ 0xF000A0000000 := by decide

/-- A listed place of a tile's aliases is one of a tile's listed offsets (R526, R528). -/
theorem inRanges_of_alias {t x : Nat} (hx : x < 0x100000) (h : inControlRange (0xF000A0000000 + t * 0x100000 + x) = true) :
    inRanges tileRanges x = true := by
  have htable : rangeTable = rangeTable.dropLast ++ [(0xF000A0000000, 672, 0x100000, tileRanges)] := rfl
  rw [inControlRange, List.any_eq_true] at h
  obtain ⟨e, he, hin⟩ := h
  rw [Bool.and_eq_true, decide_eq_true_eq] at hin
  obtain ⟨hbase, hin⟩ := hin
  rw [htable] at he
  rcases List.mem_append.mp he with hbefore | hlast
  · exfalso
    have hbelow := rangeTable_below e hbefore
    by_cases hone : e.2.2.1 = 0
    · rw [if_pos hone] at hbelow hin
      obtain ⟨r, hr, hle⟩ := List.any_eq_true.mp hin
      have hend := hbelow r hr
      rw [Bool.and_eq_true, decide_eq_true_eq, decide_eq_true_eq] at hle
      omega
    · rw [if_neg hone] at hbelow hin
      rw [Bool.and_eq_true, decide_eq_true_eq, Nat.div_lt_iff_lt_mul (Nat.pos_of_ne_zero hone)] at hin
      omega
  · rw [List.mem_singleton.mp hlast, if_neg (by decide), Bool.and_eq_true] at hin
    have hoffset : (0xF000A0000000 + t * 0x100000 + x - 0xF000A0000000) % 0x100000 = x := by omega
    rw [← hoffset]
    exact hin.2

/-- A tile's listed offset is listed at its direct place (R526). -/
theorem inControlRange_direct {t x : Nat} (ht : t < 672) (hx : x < 0x100000) (hin : inRanges tileRanges x = true) :
    inControlRange (0xF00010000000 + t * 0x100000 + x) = true := by
  have hplace : 0xF00010000000 + t * 0x100000 + x - 0xF00010000000 = t * 0x100000 + x := by omega
  have hoffset : (t * 0x100000 + x) % 0x100000 = x := by omega
  have htile : (t * 0x100000 + x) / 0x100000 < 672 := by omega
  rw [inControlRange, List.any_eq_true]
  refine ⟨(0xF00010000000, 672, 0x100000, tileRanges), by simp [rangeTable], ?_⟩
  dsimp only
  rw [if_neg (by decide), hplace, hoffset, hin, decide_eq_true htile, decide_eq_true (by omega)]
  rfl

/-- A direct place of a tile that no register of another block takes is held at its aliased place (R527, R528). -/
theorem canonOff_direct {t x : Nat} (ht : t < 672) (hx : x < 0x100000) (hnone : findReg (0xF00010000000 + t * 0x100000 + x) = none) :
    canonOff (0xF00010000000 + t * 0x100000 + x) = 0xF000A0000000 + t * 0x100000 + x := by
  rw [canonOff, if_pos (by omega), hnone]
  dsimp only
  omega

/-- What a read answers and clears is that of the offset that its place is held under. -/
theorem State.ctlRead_congr (s : State) {o p : Nat} (h : canonOff o = canonOff p) : s.ctlRead o = s.ctlRead p := by
  simp only [State.ctlRead, State.ctlPeek, h]

/-- What a write does is that of the offset that its place is held under. -/
theorem State.ctlWrite_congr (s : State) {o p : Nat} (h : canonOff o = canonOff p) (v : Word) : s.ctlWrite o v = s.ctlWrite p v := by
  simp only [State.ctlWrite, h]

/-- Two places that are alike aligned, listed and held under one offset are one to a REGISTER_WRITE. -/
theorem exec_registerWrite_congr (s : State) {o p : Nat} (hcanon : canonOff o = canonOff p) (halign : o % 8 = p % 8)
    (hlisted : inControlRange o = inControlRange p) (v : Nat) : exec (.registerWrite o v) s = exec (.registerWrite p v) s := by
  rw [exec, exec, execRegisterWrite, execRegisterWrite, halign, hlisted, State.ctlWrite_congr s hcanon]

/-- Settles O51: the tiles' block is the only one at the aliases, and a direct place that no other block takes is held under its aliased
one, so that reads and writes of the two are the same. -/
theorem tileRegistersHaveAnAlias : Obligations.TileRegistersHaveAnAlias := by
  refine ⟨fun o d hlo _ hreg => mem_regsTILE_of_findReg hlo hreg, fun s t x v ht hx hnone hlisted => ?_⟩
  have hcanon : canonOff (0xF00010000000 + t * 0x100000 + x) = canonOff (0xF000A0000000 + t * 0x100000 + x) := by
    rw [canonOff_direct ht hx hnone, canonOff_of_ge (by omega)]
  have hdirect := inControlRange_direct ht hx (inRanges_of_alias hx hlisted)
  exact ⟨exec_registerWrite_congr s hcanon (by omega) (hdirect.trans hlisted.symm) v, State.ctlRead_congr s hcanon⟩

end Sys2Proof.Machine
end

section
/-! The shape of every command (R504, R506): one of a pin or a socket is told, every other one acts on a node that runs, and the unit it names
is judged first. What follows for the queue, the events, and runs of many steps. -/

namespace Sys2Proof.Machine

/-! The shape of a command. -/

/-- A command that no pin makes acts on a node that runs alone, and stops if it is not well formed. -/
theorem exec_live {c : Instr} (hpin : ofPins c = false) (s : State) : ∃ t, exec c s = s.live (onUnit c.wf t) := by
  cases c with
  | carrierInsert | carrierRemoved | resetInput | resetRelease | clockLoss => cases hpin
  | _ => exact ⟨_, rfl⟩

/-- A command of a pin or a socket acts on a held node too, and completes if it is well formed. -/
theorem exec_told {c : Instr} (hpin : ofPins c = true) (s : State) :
    ∃ b t, exec c s = s.told (onUnit b t) ∧ (c.wf = true → b = true) := by
  cases c with
  | carrierInsert | carrierRemoved => exact ⟨_, _, rfl, id⟩
  | resetInput | resetRelease | clockLoss => exact ⟨true, _, rfl, fun _ => rfl⟩
  | _ => cases hpin

/-- What a command answers: a held node is as it was; else the command ends, if what it names is there, or stops. -/
theorem exec_cases (c : Instr) (s : State) :
    (s.dead = true ∧ exec c s = .next s) ∨ (∃ t, exec c s = .next (s.done t)) ∨ (c.wf = false ∧ exec c s = .fault .noSuchUnit) := by
  cases hpin : ofPins c with
  | true =>
    obtain ⟨b, t, he, hb⟩ := exec_told hpin s
    cases b with
    | true => exact .inr (.inl ⟨t, he⟩)
    | false => exact .inr (.inr ⟨Bool.eq_false_iff.mpr fun hwf => absurd (hb hwf) (by decide), he⟩)
  | false =>
    obtain ⟨t, he⟩ := exec_live hpin s
    cases hlive : s.dead with
    | true => exact .inl ⟨rfl, by rw [he, State.live_dead s _ hlive]⟩
    | false =>
      rw [State.live, hlive] at he
      cases hwf : c.wf with
      | true => rw [hwf] at he; exact .inr (.inl ⟨t, he⟩)
      | false => rw [hwf] at he; exact .inr (.inr ⟨rfl, he⟩)

/-- A command that goes on leaves the state as it was, in a held node, or is ended. -/
theorem exec_next_cases {c : Instr} {s t : State} (h : exec c s = .next t) : t = s ∨ ∃ u, t = s.done u := by
  obtain ⟨_, he⟩ | ⟨u, he⟩ | ⟨_, he⟩ := exec_cases c s
  · exact .inl (Host.Outcome.next.inj (h.symm.trans he))
  · exact .inr ⟨u, Host.Outcome.next.inj (h.symm.trans he)⟩
  · rw [h] at he; cases he

/-- A well-formed command completes. -/
theorem exec_of_wf {c : Instr} (hwf : c.wf = true) (s : State) : ∃ t, exec c s = .next t := by
  obtain ⟨_, he⟩ | ⟨u, he⟩ | ⟨hno, _⟩ := exec_cases c s
  · exact ⟨_, he⟩
  · exact ⟨_, he⟩
  · rw [hwf] at hno; cases hno

/-! The queue. -/

/-- The end of a command leaves the queue as it was. -/
@[simp] theorem State.done_pending (s t : State) : (s.done t).pending = s.pending := rfl

/-- Settles O37: a command leaves a held node as it was, or is ended, and the end of a command gives the queue back. -/
theorem commandsKeepTheQueue : Obligations.CommandsKeepTheQueue := by
  intro c s t h
  obtain rfl | ⟨u, rfl⟩ := exec_next_cases h
  · rfl
  · exact State.done_pending s u

/-- A step takes the front command off the queue. -/
theorem step_pending {s t : State} (h : step s = .next t) : t.pending = s.pending.tail := by
  rw [step] at h
  split at h
  next hnone => cases h; rw [State.reach_pending, hnone]; rfl
  next c r hqueue => rw [commandsKeepTheQueue c _ t h, hqueue]; rfl

/-- A step of a state whose commands are well formed goes on. -/
theorem step_of_wellFormed {s : State} (hwf : s.wellFormed = true) : ∃ t, step s = .next t := by
  rw [step]
  split
  · exact ⟨_, rfl⟩
  next c r hqueue =>
    rw [State.wellFormed, hqueue, List.all_cons, Bool.and_eq_true] at hwf
    exact exec_of_wf hwf.1 _

/-- A step keeps the commands that wait well formed. -/
theorem step_keeps_wellFormed {s t : State} (hwf : s.wellFormed = true) (h : step s = .next t) : t.wellFormed = true := by
  rw [State.wellFormed, step_pending h, List.all_eq_true]
  exact fun c hc => List.all_eq_true.mp hwf c (List.mem_of_mem_tail hc)

/-- Settles O36: a well-formed command names what is there; one that is not is stopped before it does anything. -/
theorem wellFormedCommandsAlwaysComplete : Obligations.WellFormedCommandsAlwaysComplete := by
  refine fun c s => ⟨fun hwf => exec_of_wf hwf s, fun hwf hpin hlive => ?_⟩
  obtain ⟨t, he⟩ := exec_live hpin s
  rw [he, hwf, State.live, hlive]
  rfl

/-- Settles O38, by induction on the number of steps. -/
theorem stepsTakeTheQueueInOrder : Obligations.StepsTakeTheQueueInOrder := by
  intro n
  induction n with
  | zero => intro s t h; cases h; rfl
  | succ n ih =>
    intro s t h
    rw [steps] at h
    split at h
    next u hstep => rw [ih u t h, step_pending hstep, List.drop_tail]
    · cases h

/-- Settles O39, by induction on the number of steps: each goes on, and what then waits is well formed. -/
theorem wellFormedQueuesRunToTheirEnd : Obligations.WellFormedQueuesRunToTheirEnd := by
  intro s hwf n
  induction n generalizing s with
  | zero => exact ⟨s, rfl, hwf⟩
  | succ n ih =>
    obtain ⟨u, hstep⟩ := step_of_wellFormed hwf
    obtain ⟨t, hsteps, ht⟩ := ih u (step_keeps_wellFormed hwf hstep)
    exact ⟨t, by rw [steps, hstep]; exact hsteps, ht⟩

/-! Events and held nodes. -/

/-- Settles O40: the end of a command reports all that was raised; a held node and an idle step raise nothing. -/
theorem eventsAreReportedWithTheirCommand : Obligations.EventsAreReportedWithTheirCommand := by
  intro s t hquiet h
  rw [step] at h
  split at h
  · cases h; rw [State.reach_evt]; exact hquiet
  · obtain rfl | ⟨u, rfl⟩ := exec_next_cases h
    · exact hquiet
    · exact State.done_reports _ u

/-- The beat of a held node stands still while time passes (R504, R506). -/
theorem State.reach_beat_of_dead {s : State} (hdead : s.dead = true) (t : Nat) : (s.reach t).beat = s.beat := by
  rw [State.reach]
  split
  · rfl
  · show (if s.beat.valid && !s.dead then _ else s.beat) = s.beat
    rw [hdead, Bool.not_true, Bool.and_false, if_neg Bool.false_ne_true]

/-- Settles O42: what no pin makes does nothing to a held node, and its beat stands still. -/
theorem heldNodeTakesOnlyPinCommands : Obligations.HeldNodeTakesOnlyPinCommands := by
  refine fun c s hdead => ⟨fun hpin => ?_, State.reach_beat_of_dead hdead _⟩
  obtain ⟨t, he⟩ := exec_live hpin s
  rw [he, State.live_dead s _ hdead]

/-! Single steps and the state after reset. -/

/-- Settles O34. -/
theorem stepRunsTheFrontCommand : Obligations.StepRunsTheFrontCommand := fun _ _ _ => rfl

/-- Settles O35: a step with an empty queue is `reach`, which moves time and the beat alone. -/
theorem idleStepLetsOneNanosecondPass : Obligations.IdleStepLetsOneNanosecondPass := by
  refine fun s hqueue => ⟨by rw [step, hqueue], ?_, State.sameBut_reach s _⟩
  rw [State.reach_now, Nat.max_eq_right (Nat.le_succ _)]

/-- A register's value at reset is 0 in a range that every register of another one stands clear of. -/
theorem regReset_of_clear {lo hi o : Nat} (hclear : ∀ e ∈ resetTable, 0 < dimsSpan e.2.1 ∧ (e.1 + dimsSpan e.2.1 ≤ lo ∨ hi ≤ e.1))
    (hlo : lo ≤ o) (hhi : o < hi) : regReset o = 0 := by
  have hnone : resetTable.find? (fun e => decide (e.1 ≤ o) && dimsHit e.2.1 (o - e.1)) = none := by
    refine List.find?_eq_none.mpr fun e he hhit => ?_
    rw [Bool.and_eq_true, decide_eq_true_eq] at hhit
    obtain ⟨hspan, hout⟩ := hclear e he
    have hin := lt_dimsSpan_of_dimsHit hspan hhit.2
    omega
  rw [regReset, hnone]

/-- The registers of the armed events are 0 at reset (R48). -/
theorem regReset_entCtl {n : Nat} (hn : n < 256) : regReset (Reg.BEAT_EVT_CTL n) = 0 :=
  regReset_of_clear (lo := Reg.BEAT_EVT_CTL 0) (hi := Reg.BEAT_EVT_CTL 256) (by decide)
    (by simp only [Reg.BEAT_EVT_CTL]; omega) (by simp only [Reg.BEAT_EVT_CTL]; omega)

/-- An entry whose register is at its reset value is IDLE (R48). -/
theorem State.entState_of_reset {s : State} {n : Nat} (hn : n < 256) (h : s.reg (Reg.BEAT_EVT_CTL n) = regReset (Reg.BEAT_EVT_CTL n)) :
    s.entState n = 0 := by
  rw [State.entState, State.get, show (F.BEAT_EVT_CTL_STATE n).off = Reg.BEAT_EVT_CTL n from rfl, h, regReset_entCtl hn]
  rfl

/-- Settles O41. -/
theorem resetStateIsQuietAndEmpty : Obligations.ResetStateIsQuietAndEmpty :=
  ⟨rfl, rfl, rfl, rfl, State.reset_mem_wf, rfl, rfl, rfl, rfl, fun _ => rfl, fun _ hn => State.entState_of_reset hn rfl⟩

/-! The node reset (R475). -/

/-- What a node reset leaves has the reset value in every register but the variant's, its power cap's and the straps'. -/
theorem State.reg_cleared_other (s : State) (ctr : Nat) (sec : SecSt) (fl : List (Nat × CarrierSt)) {o : Nat} (hid : o ≠ Reg.NCTL_ID)
    (hcap : o ≠ Reg.NCTL_PWR_CAP) (hboot : o ≠ Reg.NCTL_BOOT) : (s.cleared ctr sec fl).reg o = regReset o := by
  show ((((State.reset.setReg Reg.NCTL_ID (s.reg Reg.NCTL_ID)).set F.NCTL_PWR_CAP_CAP_W _).set F.NCTL_BOOT_STRAP _).reg o) = _
  rw [State.reg_set_other _ _ _ _ hboot, State.reg_set_other _ _ _ _ hcap, State.reg_setReg_other _ _ _ _ hid]
  rfl

/-- What a node reset leaves is of the variant that the node was. -/
theorem State.reg_cleared_id (s : State) (ctr : Nat) (sec : SecSt) (fl : List (Nat × CarrierSt)) :
    (s.cleared ctr sec fl).reg Reg.NCTL_ID = s.reg Reg.NCTL_ID := by
  show ((((State.reset.setReg Reg.NCTL_ID (s.reg Reg.NCTL_ID)).set F.NCTL_PWR_CAP_CAP_W _).set F.NCTL_BOOT_STRAP _).reg _) = _
  rw [State.reg_set_other _ _ _ _ (by decide), State.reg_set_other _ _ _ _ (by decide), State.reg_setReg_same _ _ _ rfl]

/-- What a node reset leaves has nothing to report. -/
theorem State.done_cleared (s : State) (ctr : Nat) (sec : SecSt) (fl : List (Nat × CarrierSt)) :
    s.done (s.cleared ctr sec fl) = s.cleared ctr sec fl := State.done_eq rfl rfl

/-- A node reset clears all but what outlives it. -/
theorem State.nodeReset_eq_cleared (s : State) : ∃ ctr fl, s.nodeReset = s.cleared ctr s.secReset.sec fl := ⟨_, _, rfl⟩

/-- The floor survives a reset unless it was being raised (R475). -/
theorem State.secReset_floor {s : State} (h : s.sec.raising = none) : s.secReset.sec.floor = s.sec.floor := by
  rw [State.secReset, h]

/-- Settles O43: the state that the reset leaves is built up from `State.reset`, and all that it keeps is named in it. -/
theorem nodeResetReturnsTheNodeToReset : Obligations.NodeResetReturnsTheNodeToReset := by
  intro s hlive
  obtain ⟨ctr, fl, heq⟩ := s.nodeReset_eq_cleared
  refine ⟨s.cleared ctr s.secReset.sec fl, ?_, rfl, rfl, rfl, rfl, rfl, rfl, rfl, rfl, rfl, rfl, rfl, rfl, State.secReset_floor,
    fun n hn => ?_, State.reg_cleared_id s _ _ _, fun o hid hcap hboot => State.reg_cleared_other s _ _ _ hid hcap hboot⟩
  · rw [exec, execNodeReset, State.live_next s _ hlive, heq, State.done_cleared]
  · have hne : ∀ o, o < 0xF00001001018 → Reg.BEAT_EVT_CTL n ≠ o := fun o ho => by simp only [Reg.BEAT_EVT_CTL]; omega
    exact State.entState_of_reset hn (State.reg_cleared_other s _ _ _ (hne _ (by decide)) (hne _ (by decide)) (hne _ (by decide)))

end Sys2Proof.Machine
end

section
/-! The control window as a whole (R2, R3, R16 to R21, R526): a write that a register takes, and places at which there is none. -/

namespace Sys2Proof.Machine

/-- A write to a place without a register, or to a register that the part has not, does nothing. -/
theorem State.ctlWrite_of_no_register {s : State} {o : Nat} (h : findReg (canonOff o) = none ∨ s.absentReg (canonOff o) = true) (v : Word) :
    s.ctlWrite o v = s := by
  rw [State.ctlWrite]
  split
  · rfl
  next d hreg => rw [if_pos (h.resolve_left (by rw [hreg]; exact Option.some_ne_none d))]

/-- A place without a register, or a register that the part has not, reads as 0. -/
theorem State.ctlPeek_of_no_register {s : State} {o : Nat} (h : findReg (canonOff o) = none ∨ s.absentReg (canonOff o) = true) :
    s.ctlPeek o = 0 := by
  rw [State.ctlPeek]
  split
  · rfl
  next d hreg => rw [if_pos (h.resolve_left (by rw [hreg]; exact Option.some_ne_none d))]

/-- Settles O1: the write reaches its register, which takes it. -/
theorem registerWriteTakesEffect : Obligations.RegisterWriteTakesEffect := by
  intro s o v d w hlive halign hlisted hreg hhas hvet
  rw [exec_registerWrite hlive, if_pos ⟨halign, hlisted⟩, State.ctlWrite_of_vet hreg hhas hvet]

/-- Settles O52: the write is turned away by its place, or has no register to reach. -/
theorem placesWithoutARegisterReadZero : Obligations.PlacesWithoutARegisterReadZero := by
  refine fun s o v hlive hquiet => ⟨fun hno => ⟨State.ctlPeek_of_no_register hno, ?_⟩, fun hplace => ?_⟩
  · rw [exec_registerWrite hlive, State.ctlWrite_of_no_register hno, ite_self, State.done_self s hquiet]
  · have hout : ¬ (o % 8 = 0 ∧ inControlRange o = true) := fun ⟨halign, hlisted⟩ =>
      hplace.elim (fun h => h halign) (fun h => by rw [hlisted] at h; cases h)
    rw [exec_registerWrite hlive, if_neg hout, State.done_self s hquiet]

end Sys2Proof.Machine
end

section
/-! What the commands of the rings and of the rack beat do (R28 to R53). The clauses follow the model where the manual leaves a choice:
tokens that a head advance trims (assumption log 29 and 202), credits over the capacity (30), the first offset and its sign (11 and 12), the
clock moved to the instant of a time-out (7), and what is due at a dispatch (158). -/

namespace Sys2Proof.Machine

/-! Commands in a node that runs. -/

/-- A command that names no unit, in a node that runs: it ends in what its effect leaves. -/
theorem exec_next {c : Instr} {s t u : State} (hlive : s.dead = false) (hexec : exec c s = s.live (.next t)) (heffect : t = u) :
    exec c s = .next (s.done u) := by
  rw [hexec, State.live_next s t hlive, heffect]

/-- A command on a unit that is there, in a node that runs: it ends in what its effect leaves. -/
theorem exec_unit {c : Instr} {s t u : State} {b : Bool} (hlive : s.dead = false) (hexec : exec c s = s.live (onUnit b t)) (hunit : b = true)
    (heffect : t = u) : exec c s = .next (s.done u) :=
  exec_next hlive (hexec.trans (by rw [hunit, onUnit_true])) heffect

/-! Rings. -/

/-- CREDIT_RETURN of a ring that an image has placed, in a node that runs. -/
theorem exec_creditReturn_of_placed {s : State} {r h : Nat} (hlive : s.dead = false) (hr : r < 8192) (hsize : 0 < (s.ring r).size) :
    exec (.creditReturn r h) s = .next (s.done (s.headAdvance r h)) :=
  exec_unit hlive rfl (decide_eq_true hr) (if_pos hsize)

/-- A valid tail write moves the tail, for the tail itself is no place to move to. -/
theorem State.tailWrite_of_valid {s : State} {r v : Nat} (hv : s.tailValid r v = true) :
    s.tailWrite r v = (s.putNum (s.ring r).tailAddr 8 v).setRing r { s.ring r with
      tokens := pushToken ((s.ring r).ofTile && decide (64 ≤ (s.ring r).tokens.length)) (s.ring r).tokens
        { from_ := s.tailOf r, to_ := v, since := s.now } } := by
  have hne : v ≠ s.tailOf r := fun h => by
    have := (State.tailValid_eq_false_iff s r v).mpr (.inr (.inl (Nat.le_of_eq h)))
    rw [hv] at this; cases this
  rw [State.tailWrite, if_neg hne, if_pos hv]

/-- Settles O2. -/
theorem ringWordsMoveTokensAndCredits : Obligations.RingWordsMoveTokensAndCredits := by
  refine fun s r v hlive hr hsize => ⟨fun hv hvalid => ?_, fun hv hne hinvalid => ?_, fun halign hforward htail => ?_⟩
  · rw [exec_tailWrite_of_placed hlive hr hsize hv, State.tailWrite_of_valid hvalid]
  · rw [exec_tailWrite_of_placed hlive hr hsize hv, State.tailWrite_of_invalid hne hinvalid]
  · rw [exec_creditReturn_of_placed hlive hr hsize, State.headAdvance, if_pos ⟨halign, hforward, htail⟩]

/-! Measurements and synchronisation states. -/

/-- Settles O3: the state and the size of the offset choose among the three. -/
theorem ptpMeasurementDisciplinesTime : Obligations.PtpMeasurementDisciplinesTime := by
  refine fun s m hlive hsrc => ⟨fun hstate => ?_, fun hstate hsmall => ?_, fun hstate hlarge => ?_⟩
  all_goals refine exec_next hlive rfl ((if_neg (by rw [hsrc]; decide)).trans ?_)
  · exact if_pos hstate
  · exact (if_neg hstate).trans (if_pos hsmall)
  · exact (if_neg hstate).trans (if_neg (Nat.not_le.mpr hlarge))

/-- Settles O4. -/
theorem ppsEdgeSetsTimeOnlyWithSrcOne : Obligations.PpsEdgeSetsTimeOnlyWithSrcOne := by
  refine fun s hlive hquiet => ⟨fun hsrc => ?_, fun hsrc hstate => ?_⟩
  · exact (exec_next hlive rfl (if_pos (by rw [hsrc]; rfl))).trans (congrArg _ (State.done_self s hquiet))
  · exact exec_next hlive rfl ((if_neg (by rw [hsrc]; decide)).trans (if_pos hstate))

/-- Settles O5: each command acts in the states that its rule names. -/
theorem syncStateCommandsComplete : Obligations.SyncStateCommandsComplete := by
  refine fun s hlive => ⟨fun hstate => ⟨fun hsrc => ?_, ?_⟩, fun hstate => ?_, fun hstate hheld => ?_, fun hstate => ?_⟩
  · exact exec_next hlive rfl (if_neg (by rw [hsrc]; decide))
  all_goals refine exec_next hlive rfl (if_pos ?_)
  · exact hstate
  · exact hstate
  · exact ⟨hstate, hheld⟩
  · exact hstate

/-! Armed events. -/

/-- An entry that is neither skipped nor dropped stays at the head of what is due. -/
theorem State.settleDue_of_stays {s : State} {e : Nat × Bool} {r : List (Nat × Bool)} (hdue : s.beat.due = e :: r)
    (hskip : s.entSkips e.1 = false) (hdrop : s.entDrops e = false) (fuel : Nat) : s.settleDue fuel = s := by
  cases fuel with
  | zero => rfl
  | succ fuel => simp only [State.settleDue, hdue, hskip, hdrop, Bool.false_eq_true, if_false]

/-- An entry that is armed for a later beat within the horizon becomes ARMED (R49). -/
theorem State.armEntry_of_later {s : State} {n : Nat} (hnot : s.entState n ≠ 1) (haction : s.get (F.BEAT_EVT_ACT_ACTION n) ≠ 0)
    (hvalid : s.beat.valid = true) (hnear : s.beyondHorizon (s.get (F.BEAT_EVT_BEAT_BEAT n)) = false)
    (hlater : beatAfter (s.get (F.BEAT_EVT_BEAT_BEAT n)) s.beat.beat = true) : s.armEntry n = s.setEnt n 1 := by
  simp only [State.armEntry, beq_eq_false_iff_ne.mpr hnot, beq_eq_false_iff_ne.mpr haction, hvalid, hnear, hlater, Bool.false_eq_true,
    Bool.not_true, if_false, if_true]

/-- An entry that arming leaves out of what is due is armed and no more (R49). -/
theorem State.arm_of_not_due {s : State} {n : Nat} (hdue : (s.armEntry n).beat.due = []) : s.arm n = s.armEntry n := by
  simp only [State.arm, hdue, List.any_nil, Bool.false_eq_true, false_and, if_false]

/-- A dispatch slot takes the entry at the head of what is due, if it fires (R50). -/
theorem State.dispatchSlot_of_fires {s : State} {e : Nat × Bool} {r : List (Nat × Bool)} (hdue : s.beat.due = e :: r)
    (hskip : s.entSkips e.1 = false) (hdrop : s.entDrops e = false) :
    s.dispatchSlot = if r.isEmpty then s.fire e else (s.fire e).reach ((s.fire e).now + 16) := by
  simp only [State.dispatchSlot, State.settleDue_of_stays hdue hskip hdrop, hdue]

/-- Settles O6. -/
theorem armedEventCommandsComplete : Obligations.ArmedEventCommandsComplete := by
  refine fun s n hlive hn => ⟨fun hnot haction hvalid hnear hlater hnone => ?_, fun harmed => ?_, ?_, fun hvalid => ?_,
    fun late r hdue hskip hdrop => ?_⟩
  · have harm := State.armEntry_of_later hnot haction hvalid hnear hlater
    refine exec_unit hlive rfl (decide_eq_true hn) ?_
    rw [State.arm_of_not_due (by rw [harm]; exact hnone), harm]
  · exact exec_unit hlive rfl (decide_eq_true hn) (State.disarm_of_armed harmed)
  · exact exec_next hlive rfl rfl
  · exact exec_next hlive rfl (if_pos hvalid)
  · exact exec_next hlive rfl (State.dispatchSlot_of_fires hdue hskip hdrop)

end Sys2Proof.Machine
end

section
/-! What the commands of the image loader, of panels and of tiles do (R71 to R81, R128 to R147). The clauses follow the model where the manual
leaves a choice: full loads, their failure and promotion (assumption log 170 to 172 and 175), the order of reloads (173 and 174), the clock
moved to the instant of a time-out (7), the halt of an idle tile (36), and the vector registers after an operator (28). -/

namespace Sys2Proof.Machine

/-! The image loader. -/

/-- Settles O7. -/
theorem imageLoaderCommandsComplete : Obligations.ImageLoaderCommandsComplete := by
  refine fun s hlive => ⟨fun hverifying hstaged hfull => ?_, fun a n hverifying => ?_, fun hbusy hused => ?_,
    fun i hbusy hchanged hstaged => ?_, fun hbusy => ?_, fun i bs t hfull hstaged hbodies => ?_, fun hopen hclose => ?_⟩
  all_goals refine exec_next hlive rfl ?_
  · simp [State.stage, hverifying, hstaged, hfull]
  · simp [State.stagingDone, hverifying]
  · simp [State.discard, hbusy, hused]
  · simp [State.promote, hbusy, hchanged, hstaged]
  · simp [State.applyFull, hbusy]
  · simp [State.fullDone, hfull, hstaged, hbodies]
  · simp [State.dovetailExpiry, State.closeWindow, hopen, hclose]

/-- Settles O8. -/
theorem panelReloadPhasesComplete : Obligations.PanelReloadPhasesComplete := by
  refine fun s p hlive hp => ⟨fun j d hstate hidle hjob hdefn => ?_, fun j hstate hidle hjob hdefn => ?_, fun hstate hbusy => ?_,
    fun j d t hjob hdefn hstate hloading hfull hahead hload => ?_, fun j d hjob hloading hstate => ?_, fun hstate => ?_⟩
  all_goals refine exec_unit hlive rfl (decide_eq_true hp) ?_
  · simp [State.drainDone, hstate, hidle, hjob, hdefn]
  · simp [State.drainDone, hstate, hidle, hjob, hdefn]
  · simp [State.drainTimeout, hstate, hbusy]
  · simp [State.loadStart, hjob, hdefn, hstate, hloading, hfull, hahead, hload]
  · simp [State.loadDone, hjob, hloading, hstate]
  · simp [State.activated, hstate]

/-! Tiles. -/

/-- A tile whose chain stands at a descriptor of the given operator runs it (R133). -/
theorem State.runDesc_of_fetched {s : State} {t op : Nat} {f : State → Nat → Chain → Desc → OpAcc} {step : Bool} {c : Chain}
    (hchain : (s.tile t).chain = some c) (hhalted : (s.tile t).halted = step) (hfetch : (s.fetchDesc t c).fault = .none)
    (hop : (descOf (s.fetchDesc t c).data).op = op) :
    s.runDesc t op f step = (s.fetchDesc t c).st.afterDesc t c (descOf (s.fetchDesc t c).data) step
      (f (s.fetchDesc t c).st t c (descOf (s.fetchDesc t c).data)) := by
  simp only [State.runDesc, hchain, hhalted, hfetch, hop, bne_self_eq_false, Bool.false_eq_true, if_false, if_true]

/-- Settles O9: each operator row is `runOp` of its operator and its OPCODE. -/
theorem operatorRowsRunTheirDescriptor : Obligations.OperatorRowsRunTheirDescriptor := by
  intro row hrow s t c d hlive ht hchain hhalted hfetch hdesc hop hfault
  subst hdesc
  have hexec : exec (row.1 t) s = s.live (runOp row.2.1 row.2.2 t s) := by
    simp only [List.mem_cons, List.not_mem_nil, or_false] at hrow
    rcases hrow with rfl | rfl | rfl | rfl | rfl | rfl | rfl | rfl | rfl | rfl | rfl | rfl | rfl | rfl | rfl | rfl | rfl | rfl | rfl <;> rfl
  exact exec_unit hlive hexec (decide_eq_true ht) (State.runDesc_of_fetched hchain hhalted hfetch hop)

/-- Settles O10. -/
theorem tileControlCommandsComplete : Obligations.TileControlCommandsComplete := by
  refine fun s t hlive ht => ⟨fun w r htakes hready hqueue => ?_, fun w r k ks e hstalled hqueue htokens hneeds => ?_,
    fun c hchain hhalted => ?_, ?_, fun c hchain hhalted => ?_, fun c d hchain hhalted hfetch hdesc hop => ?_⟩
  all_goals refine exec_unit hlive rfl (decide_eq_true ht) ?_
  · simp only [State.tokenTake, htakes, hready, hqueue, Bool.not_true, Bool.false_eq_true, if_false]
  · simp only [State.creditStall, hstalled, hqueue, htokens, hneeds]
  · simp only [State.tileHang, hchain, hhalted, Bool.false_eq_true, if_false]
  · rfl
  · have hsame : (s.setBit (F.TILE_DBG_CTRL_HALT t) false).tile t = s.tile t := rfl
    simp only [State.tileResume, hsame, hchain, hhalted, if_true, State.setBit_now]
  · subst hdesc
    simp only [State.tileStep, hchain]
    exact State.runDesc_of_fetched hchain hhalted hfetch hop

end Sys2Proof.Machine
end

section
/-! What the commands of inlay units and stacks do (R155 to R171, R281 to R288). The clauses follow the model where the manual leaves a
choice: marks of memory words and the word that a scrub names (assumption log 38 and 54), the header that a row command reads first (51), what a
hung command has done (55), and the clock moved to the instant of a hang (7). -/

namespace Sys2Proof.Machine

/-! Inlay units. -/

/-- A unit that is BUSY, with room for the result of the packet at its head, runs it under the operation that the packet names (R154, R157). -/
theorem State.runUnit_of_head {s : State} {k u op : Nat} {p : InlPkt} {f : InlPkt → State} (hbusy : s.unitState k u = US_BUSY)
    (hhead : (packetsOf (s.unit k u).cmds).head? = some p) (hroom : granulesOf (s.unit k u).results + p.resultRoom ≤ 256) (hop : p.op = op) :
    s.runUnit k u op f = f p := by
  simp only [State.runUnit, hbusy, hhead, Nat.not_lt.mpr hroom, hop, if_true, if_false]

/-- A row of R157 on a unit that runs the packet at its head. -/
theorem exec_runInlay {c : Instr} {s t : State} {k u op : Nat} {f : State → Nat → Nat → InlPkt → State} {p : InlPkt} (hlive : s.dead = false)
    (hexec : exec c s = s.live (runInlay op f k u s)) (hk : k < 12) (hu : u < 256) (hhas : s.hasUnit k u = true)
    (hbusy : s.unitState k u = US_BUSY) (hhead : (packetsOf (s.unit k u).cmds).head? = some p)
    (hroom : granulesOf (s.unit k u).results + p.resultRoom ≤ 256) (hop : p.op = op) (heffect : f s k u p = t) :
    exec c s = .next (s.done t) := by
  refine exec_unit hlive hexec (by simp only [hk, hu, decide_true, Bool.and_true]) ?_
  rw [if_pos hhas, State.runUnit_of_head hbusy hhead hroom hop, heffect]

/-- A scoring command that is well formed and meets no poison queues its result (R159, R163). -/
theorem State.runScore_of_ok {s : State} {k u : Nat} {p : InlPkt} {a : ScanAcc}
    (hok : (scoreOf p.bytes).ok (at_ p.bytes 2 2) p.bytes.length = true)
    (hrun : (scoreOf p.bytes).run k u ((s.unit k u).filterSlot (scoreOf p.bytes).fslot)
      ((List.range (scoreOf p.bytes).batch).map ((scoreOf p.bytes).table (s.unit k u))) (scoreOf p.bytes).count 0
      { lists := List.replicate (scoreOf p.bytes).batch {},
        st := s.heatUnit k u (scoreOf p.bytes).addr ((scoreOf p.bytes).stride * (scoreOf p.bytes).count) } = a)
    (hclean : a.bad = false) :
    s.runScore k u p = (a.st.bump (F.INL_PERF_SCORES_SCORES k) (a.passed * (scoreOf p.bytes).batch)).finishCmd k u p
      ((scoreOf p.bytes).result a) 0 := by
  simp only [State.runScore, hok, hrun, hclean, Bool.not_true, Bool.false_eq_true, if_false]

/-- A row command on an extent that is there and whose header is not poisoned goes on from its header (R281). -/
theorem State.rowHead_of_present {s : State} {k u : Nat} {p : InlPkt} {c : RowCmd} {f : State → List Byte → State}
    (hcode : ((s.heatUnit k u c.addr (64 * c.count)).unitLoad k u c.addr 64).code = E_NONE)
    (hhere : at_ ((s.heatUnit k u c.addr (64 * c.count)).unitLoad k u c.addr 64).data 28 1 % 2 = 0) :
    s.rowHead k u p c f = f ((s.heatUnit k u c.addr (64 * c.count)).unitLoad k u c.addr 64).st
      ((s.heatUnit k u c.addr (64 * c.count)).unitLoad k u c.addr 64).data := by
  simp [State.rowHead, hcode, hhere]

/-- Settles O11: each row runs the packet at the unit's head, which each well-formed case takes to its result. -/
theorem inlayCommandsProduceTheirResult : Obligations.InlayCommandsProduceTheirResult := by
  intro s k u p hlive hk hu hhas hbusy hhead hroom
  refine ⟨fun row hrow c a hop hc hok hrun hclean => ?_, fun c x hc hok hx hcode hhere => ⟨fun y hop hlen hn hin hsub hy hycode => ?_,
    fun hop hlen => ?_, fun hop hmode hlen => ?_, fun hop hmode hlen hfits hlo hhi => ?_⟩, fun hop hlen hbytes => ?_⟩
  · subst hc
    have hexec : exec (row.1 k u) s = s.live (runInlay row.2 State.runScore k u s) := by
      simp only [List.mem_cons, List.not_mem_nil, or_false] at hrow
      rcases hrow with rfl | rfl <;> rfl
    exact exec_runInlay hlive hexec hk hu hhas hbusy hhead hroom hop (State.runScore_of_ok hok hrun hclean)
  · subst hc hx
    refine exec_runInlay hlive rfl hk hu hhas hbusy hhead hroom hop ?_
    simp [State.runGather, hok, hlen, Nat.pos_iff_ne_zero.mp hn, Nat.not_lt.mpr hin, hsub, State.rowHead_of_present hcode hhere, hy, hycode]
  · subst hc hx
    refine exec_runInlay hlive rfl hk hu hhas hbusy hhead hroom hop ?_
    simp [State.runReplace, hok, hlen, State.rowHead_of_present hcode hhere]
  · subst hc hx
    refine exec_runInlay hlive rfl hk hu hhas hbusy hhead hroom hop ?_
    simp [State.runRmw, hok, hlen, hmode, State.rowHead_of_present hcode hhere]
  · subst hc hx
    refine exec_runInlay hlive rfl hk hu hhas hbusy hhead hroom hop ?_
    have hne : (rowCmdOf p.bytes).sub % 16 ≠ 4 := Nat.ne_of_lt hmode
    have hle : ¬ 4 < (rowCmdOf p.bytes).sub % 16 := Nat.not_lt.mpr (Nat.le_of_lt hmode)
    simp [State.runRmw, hok, hlen, hne, hle, hfits, hlo, hhi, State.rowHead_of_present hcode hhere]
  · refine exec_runInlay hlive rfl hk hu hhas hbusy hhead hroom hop ?_
    rw [State.runFence, if_pos ⟨hlen, hbytes⟩]

/-! Stacks and the events of their units. -/

/-- The stack of a unit that the part has is one of the part's. -/
theorem State.stack_of_hasUnit {s : State} {k u : Nat} (hhas : s.hasUnit k u = true) : k < s.nStacks := by
  rw [State.hasUnit, Bool.and_eq_true, decide_eq_true_eq] at hhas
  exact hhas.1

/-- Settles O12. -/
theorem stackAndUnitEventsComplete : Obligations.StackAndUnitEventsComplete := by
  intro s k u hlive hk hu hhas
  have hstack := State.stack_of_hasUnit hhas
  have hunit : (decide (k < 12) && decide (u < 256)) = true := by simp only [hk, hu, decide_true, Bool.and_true]
  refine ⟨fun first data hwhole hsome hfit => ?_, fun slot data hslot hok => ?_, fun o e ho he => ?_, fun hon => ?_, fun hbusy => ?_,
    fun hoff => ?_, fun v hcopying hsource => ?_⟩
  · refine exec_unit hlive rfl (decide_eq_true hk) ((if_pos hstack).trans ?_)
    rw [State.loadTslot, if_pos ⟨hwhole, hsome, hfit⟩, State.broadcast]
  · refine exec_unit hlive rfl (decide_eq_true hk) ((if_pos hstack).trans ?_)
    rw [State.loadFilter, if_pos ⟨hslot, hok⟩, State.broadcast]
  · have hword : (decide (k < 12) && decide (o < 0x800000000)) = true := by simp only [hk, ho, decide_true, Bool.and_true]
    refine ⟨fun hmark => ?_, fun hmark => ?_⟩
    all_goals
      refine exec_unit hlive rfl hword ((if_pos hstack).trans ?_)
      simp [State.scrub, he, hmark]
  · exact exec_unit hlive rfl hunit ((if_pos hhas).trans (if_neg hon))
  · exact exec_unit hlive rfl hunit ((if_pos hhas).trans (if_pos hbusy))
  · exact exec_unit hlive rfl hunit ((if_pos hhas).trans (if_pos hoff))
  · refine exec_unit hlive rfl hunit ((if_pos hhas).trans ?_)
    simp [State.inlayCopied, hcopying, hsource]

end Sys2Proof.Machine
end

section
/-! What the commands of the tier manager and of migration slots do (R178 to R197, R297). The clauses follow the model where the manual leaves a
choice: sweep limits, waiting demotions and late points (assumption log 42, 45 and 63), the copy that MIG_START lays down (46), guest rows (85),
and the clock moved to the instant of a stall (7). -/

namespace Sys2Proof.Machine

/-- Settles O13. -/
theorem tierCommandsComplete : Obligations.TierCommandsComplete := by
  refine fun s hlive => ⟨fun hvalid hperiod hfresh => ?_, fun u v hu hlow hroom hv => ?_, fun p x hstate hx => ⟨fun hcode => ?_, fun hcode => ?_⟩,
    fun p d hdemo hthin hplain => ?_, fun p d t hdemo hthin hplain hheld hadmit => ?_, fun p hwaits => ?_, fun src i q hq hpast hflash => ?_,
    fun src i n w hq hw hpast hflash => ?_, fun p g hp hin hg => ⟨fun hstate => ?_, fun hstate => ?_⟩⟩
  · exact exec_next hlive rfl (if_pos ⟨hvalid, hperiod, hfresh⟩)
  · subst hu hv
    refine ⟨fun p hfull => ?_, fun hnone hlevel => ?_⟩
    all_goals refine exec_next hlive rfl (congrArg State.settleNet ?_)
    · simp [State.demotionSweep, hlow, hroom, hfull]
    · simp [State.demotionSweep, hlow, hroom, hnone, hlevel]
  · subst hx
    exact exec_next hlive rfl (congrArg State.settleNet (by simp [State.promotionDone, hstate, hcode]))
  · subst hx
    exact exec_next hlive rfl (congrArg State.settleNet (by simp [State.promotionDone, hstate, hcode, E_MEDIA, E_NONE, E_CAPACITY]))
  · exact exec_next hlive rfl (congrArg State.settleNet (by simp only [State.demotionEnd, hdemo, hthin, hplain, Bool.false_eq_true, if_true, if_false]))
  · exact exec_next hlive rfl (congrArg State.settleNet
      (by simp only [State.demotionEnd, hdemo, hthin, hplain, hheld, hadmit, Bool.false_eq_true, if_false]))
  · exact exec_next hlive rfl rfl
  · exact exec_next hlive rfl (by simp only [State.lsLatePoint, hq, hpast, hflash, Bool.and_self, if_true])
  · exact exec_next hlive rfl (by simp only [State.lsLatePoint, State.gwLatePoint, hq, hw, hpast, hflash, Bool.and_self, if_true])
  · subst hp hg
    refine exec_next hlive rfl (congrArg State.settleNet ?_)
    simp [State.zeroPage, Nat.not_le.mpr hin, hstate]
  · subst hp hg
    refine exec_next hlive rfl (congrArg State.settleNet ?_)
    rcases hstate with hstate | hstate <;> simp [State.zeroPage, Nat.not_le.mpr hin, hstate]

/-- Settles O14. -/
theorem migrationCommandsComplete : Obligations.MigrationCommandsComplete := by
  refine fun s k hlive hk => ⟨fun hstate hkind => ?_, fun hstate hkind => ?_, fun p x d hstate hkind hp hx hd hdest => ?_,
    fun x hstate hkind hx hcode => ?_, fun hstate => ?_, fun hstate => ?_, fun hstate => ?_, fun hstate => ?_, fun hstate hkind hthin => ?_,
    fun x hstate hkind hsent hfree hx hcode => ?_, fun hstate hkind hsent => ⟨?_, ?_⟩,
    fun node table row d p data u htable hd hlen hplace hguest hu => ?_⟩
  · exact exec_unit hlive rfl (decide_eq_true hk) (by simp only [State.migStart, hstate, hkind, ne_eq, not_true_eq_false, if_true, if_false])
  · exact exec_unit hlive rfl (decide_eq_true hk) (by simp [State.migStart, hstate, hkind])
  · subst hp hx
    refine exec_unit hlive rfl (decide_eq_true hk) ((if_neg (not_not_intro hstate)).trans ((if_pos hkind).trans ?_))
    simp [State.migCopyPage, hd, hdest]
  · subst hx
    refine exec_unit hlive rfl (decide_eq_true hk) ((if_neg (not_not_intro hstate)).trans ((if_neg (by rw [hkind]; decide)).trans ?_))
    simp [State.migCopyRow, hcode]
  · exact exec_unit hlive rfl (decide_eq_true hk) (if_pos hstate)
  · exact exec_unit hlive rfl (decide_eq_true hk) (if_pos hstate)
  · exact exec_unit hlive rfl (decide_eq_true hk) (if_pos hstate)
  · exact exec_unit hlive rfl (decide_eq_true hk) (if_pos hstate)
  · exact exec_unit hlive rfl (decide_eq_true hk) (congrArg State.settleNet (if_neg (by rw [hthin]; decide)))
  · subst hx
    refine exec_unit hlive rfl (decide_eq_true hk) ?_
    simp [State.rowCutSend, hstate, hkind, hsent, hfree, hcode]
  · exact exec_unit hlive rfl (decide_eq_true hk) (if_pos ⟨hstate, hkind, hsent⟩)
  · exact exec_unit hlive rfl (decide_eq_true hk) (if_pos ⟨hstate, hkind, hsent⟩)
  · subst hu
    refine exec_unit hlive rfl (decide_eq_true htable) ?_
    simp [State.rowInstall, hd, hlen, hplace, hguest]

end Sys2Proof.Machine
end

section
/-! What the commands of the list scanner, the walker and the selection unit do (R199 to R271). The clauses follow the model where the manual
leaves a choice: what a panel answers is computed by the row that ends its work (assumption log 58), windows close at each multiple of GATHER
(60), updates have their whole effect in their row (65), shadows read the shard as it stands (67), the walker's slots, records and stores (68 to
70), one payload lookup at a time (75), SOURCE 0 (77), TIE_OUT (78), and the clock moved to the instant of an idle limit (7). -/

namespace Sys2Proof.Machine

/-! The list scanner. -/

/-- A command that names a ring, in a node that runs. -/
theorem exec_ring {c : Instr} {s t u : State} {ring : Nat} (hlive : s.dead = false) (hring : ring < 8192)
    (hexec : exec c s = s.live (onUnit (decide (ring < 8192)) t)) (heffect : t = u) : exec c s = .next (s.done u) :=
  exec_unit hlive hexec (decide_eq_true hring) heffect

/-- An update of a vector list is taken from its ring by the row of its operation (R212). -/
theorem State.lsUpdateAt_of_head {s : State} {ring : Nat} {m : List Byte} {r : Req} {del : Bool}
    (hhead : s.headReq ring U_SEARCH T_UPDATE_VEC = some (m, r))
    (hlist : (s.gwSlot (at_ r.payload 1 1) (at_ r.payload 2 2)).isNone = true) (hop : (at_ r.payload 0 1 == 2) = del) :
    s.lsUpdateAt ring del = (s.popMsg ring m).lsUpdate r m := by
  simp only [State.lsUpdateAt, hhead, hlist, hop, and_self, if_true]

/-- Settles O15. -/
theorem listScanCommandsComplete : Obligations.ListScanCommandsComplete := by
  refine fun s hlive => ⟨fun ring m r u n d q hring hhead hu hslot hq hok hdeadline hcancel => ?_,
    fun src i q x hq hstage hsent hwork hlate hx hcode => ?_, fun src i q x hq hstage hsent hwork hlate hx hcode => ?_,
    fun hvalid hgather hfresh => ?_, fun tag x u qs flash hx hsent hwork hu hqs hflash hno => ?_,
    fun k u p t c hk hunit hhas hresult hc => ?_, fun src i q x hq hstage hsent hwork hlate hx hcode => ⟨fun hre => ?_, fun hre => ?_⟩,
    fun src i q keys hsent hq hstage hwork => ?_, fun ring m r hring hhead hlist => ⟨fun hop => ?_, fun hop => ?_⟩,
    fun n x hn hoff hx => ⟨fun hcode hreason u hu => ?_, fun hcode hreason => ?_⟩, fun n u hn hu => ?_,
    fun w j rest x hshim hshadows htarget hx hcode => ?_⟩
  · subst hu hq
    refine exec_ring hlive hring rfl ?_
    rw [hhead]
    simp [State.takeQueryLs, hslot, hok, hdeadline, hcancel]
  · subst hx
    exact exec_next hlive rfl (by simp [State.lsCoarseDone, hq, hstage, hsent, hwork, hlate, hcode])
  · subst hx
    exact exec_next hlive rfl (by simp [State.lsTableDone, hq, hstage, hsent, hwork, hlate, hcode])
  · exact exec_next hlive rfl (if_pos ⟨hvalid, hgather, hfresh⟩)
  · subst hu hqs hno
    exact exec_next hlive rfl (by simp [State.lsDenseDone, hx, hsent, hwork, hflash])
  · refine exec_unit hlive rfl (by simp only [hk, hunit, decide_true, Bool.and_true]) ((if_pos hhas).trans ?_)
    simp only [State.thinResult, hresult, hc]
  · subst hx
    exact exec_next hlive rfl (by simp [State.lsRerankDone, hq, hstage, hsent, hwork, hlate, hcode, hre])
  · subst hx
    exact exec_next hlive rfl (by simp [State.lsRerankDone, hq, hstage, hsent, hwork, hlate, hcode, hre])
  · exact exec_next hlive rfl (by simp [State.modelDone, hsent, hq, hstage, hwork])
  · exact exec_ring hlive hring rfl (State.lsUpdateAt_of_head hhead hlist (beq_eq_false_iff_ne.mpr hop))
  · exact exec_ring hlive hring rfl (State.lsUpdateAt_of_head hhead hlist (beq_iff_eq.mpr hop))
  · subst hx hu
    exact exec_unit hlive rfl (decide_eq_true hn) (by simp [State.lsEnable, hoff, hcode, hreason])
  · subst hx
    exact exec_unit hlive rfl (decide_eq_true hn) (by simp [State.lsEnable, hoff, hcode, hreason])
  · subst hu
    exact exec_unit hlive rfl (decide_eq_true hn) rfl
  · subst hx
    exact exec_next hlive rfl (by simp [State.shadowDone, hshim, hshadows, htarget, hcode])

/-! The walker. -/

/-- An update of a graph that its ring's die has a slot for, and that its shard and the journal take, does what its operation says (R240 to
R245). -/
theorem State.gwUpdateAt_of_taken {s : State} {ring n : Nat} {m : List Byte} {r : Req} {d : GwDesc} {mine : Nat → Bool}
    {f : State → Req → List Byte → Nat → GwDesc → State} (hhead : s.headReq ring U_SEARCH T_UPDATE_VEC = some (m, r))
    (hslot : s.gwSlot (at_ r.payload 1 1) (at_ r.payload 2 2) = some (n, d)) (hmine : mine (at_ r.payload 0 1) = true)
    (hfree : s.shardBusy n = false) (hroom : (s.freeSlot (s.ringDie ring)).isNone = false) (hok : gwUpdateOk d r.payload = true)
    (hdeadline : (s.popMsg ring m).deadlinePassed r.deadline = false) (hcancel : (s.popMsg ring m).cancelled r.src r.reqId = false)
    (hjournal : (s.popMsg ring m).journalRoom = true) : s.gwUpdateAt ring mine f = f (s.popMsg ring m) r m n d := by
  simp only [State.gwUpdateAt, hhead, hslot, hmine, hfree, hroom, hok, hdeadline, hcancel, hjournal, Bool.not_true, Bool.or_self,
    Bool.false_eq_true, if_false]

/-- Settles O16. -/
theorem walkerCommandsComplete : Obligations.WalkerCommandsComplete := by
  refine fun s hlive => ⟨fun ring m r n d w hring hhead hslot hw hok hdeadline hcancel hopen => ?_,
    fun n w u hn hfree hw hu hdeadline hcancel => ?_, fun n w x y hn hw hphase hsent hwork hlate hentered hx hcode hy => ?_,
    fun n w hn hw hphase hcancel hflash => ⟨fun c hc hmore => ?_, fun hc => ?_⟩,
    fun n w c r x hn hw hphase hsent hwork hcands hx hcode => ?_,
    fun ring m r n d u hring hhead hslot hfree hroom hu hok hdeadline hcancel hjournal => ?_,
    fun n x hn hoff hx => ⟨fun hcode hreason u hu => ?_, fun hcode hreason => ?_⟩, fun n u hn hu => ?_⟩
  · subst hw
    refine exec_ring hlive hring rfl ?_
    rw [hhead]
    simp [State.takeQueryGw, hslot, hok, hdeadline, hcancel, hopen]
  · subst hu
    refine exec_unit hlive rfl (decide_eq_true hn) ?_
    rw [State.walkStart, if_pos hfree, hw]
    exact (if_neg (ne_true_of_eq_false hdeadline)).trans (if_neg (ne_true_of_eq_false hcancel))
  · subst hy
    refine exec_unit hlive rfl (decide_eq_true hn) ?_
    have hready : ¬ (w.phase ≠ .score ∨ s.unsent T_GW_SCORE w.r.src w.r.reqId = true) := by simp [hphase, hsent]
    simp only [State.gwScoreDone, hw, if_neg hready, hwork, hlate, hx, hcode, ne_eq, not_true_eq_false, Bool.false_eq_true, if_false]
    rw [if_pos hentered]
  · exact exec_unit hlive rfl (decide_eq_true hn) (by simp [State.walkExpansion, hw, hphase, hcancel, hflash, hc, hmore])
  · exact exec_unit hlive rfl (decide_eq_true hn) (by simp [State.walkExpansion, hw, hphase, hcancel, hflash, hc])
  · subst hx
    exact exec_unit hlive rfl (decide_eq_true hn) (by simp [State.gwPairDone, hw, hphase, hsent, hwork, hcands, hcode])
  · subst hu
    refine ⟨fun hop => ?_, fun hop => ?_, fun hop => ?_, fun hop => ?_⟩
    all_goals
      exact exec_ring hlive hring rfl
        (State.gwUpdateAt_of_taken hhead hslot (by rw [hop]; rfl) hfree hroom hok hdeadline hcancel hjournal)
  · subst hx hu
    exact exec_unit hlive rfl (decide_eq_true hn) (by simp [State.gwEnable, hoff, hcode, hreason])
  · subst hx
    exact exec_unit hlive rfl (decide_eq_true hn) (by simp [State.gwEnable, hoff, hcode, hreason])
  · subst hu
    exact exec_unit hlive rfl (decide_eq_true hn) rfl

end Sys2Proof.Machine
end

section
/-! What the commands of the selection unit and of the tables do (R257 to R296). The clauses follow the model where the manual leaves a choice:
panel answers computed by the row (assumption log 58), one payload lookup at a time (75), SOURCE 0 (77), TIE_OUT (78), the order of row
commands (79), epoch 0 on enable (83), and the clock moved to the instant of a time-out (7). -/

namespace Sys2Proof.Machine

/-! Selection. -/

/-- Settles O17. -/
theorem selectionCommandsComplete : Obligations.SelectionCommandsComplete := by
  refine fun s hlive => ⟨fun src i j p d hj hsent hwork hcancel hp hd => ⟨fun hmore u hu => ?_, fun hend => ?_⟩, fun p hop => ?_,
    fun b hb hopen hfinal => ?_, fun b u hb hopen hu => ?_, fun src i j q a t hj hask hanswer => ?_⟩
  · subst hp hd hu
    refine exec_next hlive rfl ?_
    simp only [State.topkDone, hj, hsent, hwork, hcancel, Bool.false_eq_true, if_false]
    exact if_neg hmore
  · subst hp hd
    refine exec_next hlive rfl ?_
    simp only [State.topkDone, hj, hsent, hwork, hcancel, Bool.false_eq_true, if_false]
    exact if_pos hend
  · exact exec_next hlive rfl (if_pos (beq_iff_eq.mpr hop))
  · exact exec_unit hlive rfl (decide_eq_true hb) (if_pos ⟨hopen, hfinal⟩)
  · subst hu
    exact exec_unit hlive rfl (decide_eq_true hb) (if_pos hopen)
  · exact exec_next hlive rfl (by simp only [State.payDone, hj, hask, hanswer])

/-! Tables. -/

/-- An update of rows is taken from its ring by the row of its operation (R288). -/
theorem State.updateAt_of_head {s : State} {ring : Nat} {m : List Byte} {r : Req} {mine : Nat → Bool}
    (hhead : s.headReq ring U_TABLES T_UPDATE_ROW = some (m, r)) (hmine : mine (at_ r.payload 0 1) = true) :
    s.updateAt ring mine = (s.popMsg ring m).takeUpdate r m := by
  simp only [State.updateAt, hhead, hmine, if_true]

/-- A TABLE_OP that is well formed, in time and not cancelled does what its operation says (R293). -/
theorem State.tableOpAt_of_taken {s : State} {ring : Nat} {m : List Byte} {r : Req} {d : TblDesc} {mine : Nat → Bool}
    {f : State → Req → TblDesc → State} (hhead : s.headReq ring U_TABLES T_TABLE_OP = some (m, r)) (hmine : mine (at_ r.payload 0 1) = true)
    (hdesc : (s.popMsg ring m).tblDesc (at_ r.payload 1 1) (at_ r.payload 2 2) = some d) (hlen : r.payload.length = 32)
    (hop : 1 ≤ at_ r.payload 0 1 ∧ at_ r.payload 0 1 ≤ 3) (hdeadline : (s.popMsg ring m).deadlinePassed r.deadline = false)
    (hcancel : (s.popMsg ring m).cancelled r.src r.reqId = false) : s.tableOpAt ring mine f = f (s.popMsg ring m) r d := by
  have hform : ¬ (r.payload.length ≠ 32 ∨ at_ r.payload 0 1 = 0 ∨ 3 < at_ r.payload 0 1) := by omega
  simp only [State.tableOpAt, hhead, hmine, hdesc, hdeadline, hcancel, if_neg hform, Bool.not_true, Bool.false_eq_true, if_false]

/-- Settles O18. -/
theorem tableCommandsComplete : Obligations.TableCommandsComplete := by
  refine fun s hlive => ⟨fun ring m r u d q x hring hhead hu hdesc hcode hcancel hq hx => ?_,
    fun k u p t q hk hunit hhas hresult hswap hq => ?_, fun ring m r hring hhead => ⟨fun hop => ?_, fun hop => ?_, fun hop => ?_⟩,
    fun ring m r u d hring hhead hu hdesc hlen hdeadline hcancel => ⟨fun hop hdouble hsteady => ?_, fun hop hdouble hswitching => ?_,
      fun p hop hpin htable hreal => ?_, fun w v hop hsome hlo hhi harray hswap hroom hreal hw hv => ?_⟩,
    fun t ht hswitching => ?_, fun t w u p v ht hw hu hresult htag hok => ?_, fun t x u ht hoff hx hcode hreason hu => ?_,
    fun t x ht hoff hx hcode hreason => ?_, fun t u ht hu => ?_⟩
  · subst hu
    refine exec_ring hlive hring rfl ?_
    rw [hhead]
    simp only [State.takeLookup, hdesc, hcode, hcancel, ne_eq, not_true_eq_false, Bool.false_eq_true, if_false]
    subst hq hx
    rfl
  · refine exec_unit hlive rfl (by simp only [hk, hunit, decide_true, Bool.and_true]) ((if_pos hhas).trans ?_)
    simp only [State.rowCommandDone, hresult, hswap, hq, Bool.false_eq_true, if_false]
  · exact exec_ring hlive hring rfl (State.updateAt_of_head hhead (by rw [hop]; rfl))
  · exact exec_ring hlive hring rfl (State.updateAt_of_head hhead (by rw [hop]; rfl))
  · exact exec_ring hlive hring rfl (State.updateAt_of_head hhead (by rw [hop]; rfl))
  · subst hu
    refine exec_ring hlive hring rfl
      ((State.tableOpAt_of_taken hhead (by rw [hop]; rfl) hdesc hlen (by omega) hdeadline hcancel).trans ?_)
    rw [hdouble]
    exact if_neg (ne_true_of_eq_false hsteady)
  · subst hu
    refine exec_ring hlive hring rfl
      ((State.tableOpAt_of_taken hhead (by rw [hop]; rfl) hdesc hlen (by omega) hdeadline hcancel).trans ?_)
    rw [hdouble]
    exact if_pos hswitching
  · subst hu
    refine exec_ring hlive hring rfl
      ((State.tableOpAt_of_taken hhead (by rw [hop]; rfl) hdesc hlen (by omega) hdeadline hcancel).trans ?_)
    simp only [hpin, htable, hreal, ne_eq, not_true_eq_false, Bool.false_eq_true, if_false]
  · subst hu hw hv
    refine exec_ring hlive hring rfl
      ((State.tableOpAt_of_taken hhead (by rw [hop]; rfl) hdesc hlen (by omega) hdeadline hcancel).trans ?_)
    have hrows : ¬ (at_ r.payload 12 4 = 0 ∨ at_ r.payload 8 4 < d.rowBase ∨ d.rowBase + d.rows < at_ r.payload 8 4 + at_ r.payload 12 4 ∨
        (!(s.popMsg ring m).arrayOk (at_ r.payload 16 6) (at_ r.payload 12 4 * d.srcBytes)) = true) := by
      simp only [harray, Bool.not_true, Bool.false_eq_true, or_false]
      omega
    have hfree : ¬ (((s.popMsg ring m).swap d.table).isSome = true ∨ 16 ≤ ((s.popMsg ring m).tbl.swaps.filterMap Prod.snd).length) :=
      not_or.mpr ⟨ne_true_of_eq_false hswap, Nat.not_le.mpr hroom⟩
    exact (if_neg hrows).trans ((if_neg hfree).trans (if_neg (ne_true_of_eq_false hreal)))
  · exact exec_unit hlive rfl (decide_eq_true ht) (if_pos hswitching)
  · subst hu
    exact exec_unit hlive rfl (decide_eq_true ht) (by simp [State.swapCommit, hw, hresult, htag, hok])
  · subst hx hu
    have hwhy : (if (s.load (s.get (F.TBL_DESC_BASE_ADDR t)) 128).code ≠ E_NONE then 3
        else (s.load (s.get (F.TBL_DESC_BASE_ADDR t)) 128).st.tblReason t (s.load (s.get (F.TBL_DESC_BASE_ADDR t)) 128).data) = 0 :=
      (if_neg (not_not_intro hcode)).trans hreason
    exact exec_unit hlive rfl (decide_eq_true ht) ((if_neg hoff).trans (if_pos hwhy))
  · subst hx
    exact exec_unit hlive rfl (decide_eq_true ht) (by simp [State.tblEnable, hoff, hcode, hreason])
  · subst hu
    exact exec_unit hlive rfl (decide_eq_true ht) rfl

end Sys2Proof.Machine
end

section
/-! What the commands of the text unit do (R309 to R323). The clauses follow the model where the manual leaves a choice: the grammar that a
stream keeps (assumption log 89), the header of a prompt's work (90), and the clock moved to the instant of an idle limit (7). -/

namespace Sys2Proof.Machine

/-- A stream request at the head of its ring is served by the row of its operation (R310). -/
theorem State.serveStream_of_head {s : State} {ring : Nat} {m : List Byte} {r : Req} {op : Nat → Bool} {f : State → Req → State}
    (hhead : s.headReq ring U_TEXT T_TEXT_STREAM = some (m, r)) (hop : op (at_ r.payload 0 1) = true) :
    s.serveStream ring op f = f (s.popMsg ring m) r := by
  simp only [State.serveStream, State.headStream, hhead, hop, if_true]

/-- Panel failures of no work do nothing. -/
theorem State.textFails_of_none {s : State} (h : s.fails = []) : s.textFails = s := by
  simp only [State.textFails, h, List.filter_nil, List.foldl_nil]

/-- Settles O19. -/
theorem textCommandsComplete : Obligations.TextCommandsComplete := by
  refine fun s hlive => ⟨fun ring m r u x o v hring hhead hu hok htok hcode hcancel ho hv hfits => ?_,
    fun ring m r hring hhead => ⟨fun hop => ?_, fun n x a y hop hstream hopen hlen htok hcode hy => ?_,
      fun n x a y ids hop hstream hallowed hopen hlen hwhole htok hcode hids hknown hy => ?_, fun n x hop hstream hlen hempty => ?_⟩,
    fun ring m r x hring hfails hhead hstream hserial hawaiting hlen => ?_, fun n x t v hn hstream hfetching hstate htok hcode hv hvcode => ?_,
    fun n x hn hstream => ⟨fun hidle => ?_, fun hdeadline hvalid hpast => ?_⟩,
    fun g x hg hoff hx => ⟨fun hreason u hu => ?_, fun why hwhy hreason => ?_⟩, fun g u hg hu => ?_⟩
  · subst hu ho hv
    refine exec_ring hlive hring rfl ?_
    rw [hhead]
    simp only [State.takeQueryText, hok, htok, hcode, hcancel, Nat.not_lt.mpr hfits, Bool.not_true, ne_eq, not_true_eq_false,
      Bool.false_eq_true, if_false]
  · refine exec_ring hlive hring rfl ((State.serveStream_of_head hhead (by rw [hop]; rfl)).trans ?_)
    exact if_pos hop
  · subst hy
    refine exec_ring hlive hring rfl ((State.serveStream_of_head hhead (by rw [hop]; rfl)).trans ?_)
    simp only [State.takeInput, hstream, hopen, hlen, htok, hcode, Bool.not_true, ne_eq, not_true_eq_false, Bool.false_eq_true, or_self,
      if_false]
  · subst hy hids
    refine exec_ring hlive hring rfl ((State.serveStream_of_head hhead (by rw [hop]; rfl)).trans ?_)
    simp only [State.takeControl, hstream, hallowed, hopen, hlen, hwhole, htok, hcode, hknown, Bool.not_true, ne_eq, not_true_eq_false,
      Bool.false_eq_true, or_self, if_false]
  · refine exec_ring hlive hring rfl ((State.serveStream_of_head hhead (by rw [hop]; rfl)).trans ?_)
    simp only [State.takeClose, hstream, hlen, hempty, Bool.not_true, ne_eq, not_true_eq_false, Bool.false_eq_true, or_self, if_false]
  · refine exec_ring hlive hring rfl ?_
    simp only [State.textFails_of_none hfails, hhead, State.takeGen, hstream]
    exact if_pos ⟨hserial, hawaiting, hlen⟩
  · subst hv
    refine exec_unit hlive rfl (decide_eq_true hn) ?_
    simp [State.maskFetched, hstream, hfetching, Nat.not_le.mpr hstate, htok, hcode, hvcode]
  · exact exec_unit hlive rfl (decide_eq_true hn) (by simp only [State.streamIdle, hstream, hidle, Bool.false_eq_true, if_false])
  · refine exec_unit hlive rfl (decide_eq_true hn) ?_
    rw [State.streamDeadline, hstream]
    exact if_pos ⟨hdeadline, hvalid, by rw [hpast]; rfl⟩
  · subst hx hu
    exact exec_unit hlive rfl (decide_eq_true hg) (by simp [State.gramEnable, hoff, hreason])
  · subst hx hwhy
    exact exec_unit hlive rfl (decide_eq_true hg) (by simp [State.gramEnable, hoff, hreason, beq_eq_false_iff_ne.mpr hreason])
  · subst hu
    exact exec_unit hlive rfl (decide_eq_true hg) rfl

end Sys2Proof.Machine
end

section
/-! What the commands of the flash carriers and the STORAGE requests do (R327 to R354, R464). The clauses follow the model where the manual
leaves a choice: superblocks, media answers and contents as operands (assumption log 96 to 98 and 107), ADOPT at once (103), what FORMAT and
SANITISE leave (104), hours and thermal events (105) and the credit of a victim (106). -/

namespace Sys2Proof.Machine

/-! Carriers. -/

/-- A command of a socket, in a node that runs: it ends in what its effect leaves. -/
theorem exec_socket {c : Instr} {s t u : State} {b : Bool} (hlive : s.dead = false) (hexec : exec c s = s.told (onUnit b (s.carPhysical t)))
    (hunit : b = true) (heffect : t = u) : exec c s = .next (s.done u) := by
  rw [hexec, hunit, State.carPhysical, hlive, heffect]
  rfl

/-- A control of a carrier that is at rest, in a state that takes it, is accepted and done (R329, R335). -/
theorem State.carCtrl_of_taken {s : State} {c : Nat} {states : List Nat} {f : State → State} (hrest : (s.car c).running = 0)
    (hstate : states.contains (s.carState c) = true) : s.carCtrl c states f = f (s.carResult c FR_OK) := by
  rw [State.carCtrl, if_neg (not_not_intro hrest), if_pos hstate]

/-- Settles O20. -/
theorem carrierCommandsComplete : Obligations.CarrierCommandsComplete := by
  refine fun s c hlive hc => ⟨fun model owner tier blocks u habsent hsocket hu hlo hhi => ?_, fun u v w hpresent hu hv hthere hw => ?_,
    fun cert response nand code hstate hcode => ?_, fun hstate => ⟨?_, fun hserving => ?_⟩, fun hrest hstate u hu hid hroom => ?_,
    fun x hx hrunning => ?_, fun hrest hstate u hu hid => ?_, fun hrest hstate => ⟨?_, ?_⟩, fun hstate hops => ?_, fun hrest hstate => ?_,
    fun x residue u hx hrunning hu => ?_⟩
  · subst hu
    refine exec_socket hlive rfl (decide_eq_true hc) ?_
    rw [State.carInsert, if_neg (not_or.mpr ⟨not_not_intro habsent, Nat.not_le.mpr hsocket⟩)]
    exact if_pos ⟨hlo, hhi⟩
  · subst hu hv hw
    refine exec_socket hlive rfl (decide_eq_true hc) ?_
    rw [State.carRemoved, if_neg (by rw [hpresent]; decide)]
    exact if_neg hthere
  · subst hcode
    exact exec_unit hlive rfl (decide_eq_true hc) (if_neg (not_not_intro hstate))
  · refine exec_unit hlive rfl (decide_eq_true hc) ?_
    rw [State.mountDone, if_pos hstate, if_pos rfl]
  · refine exec_unit hlive rfl (decide_eq_true hc) ?_
    rw [State.mountDone, if_pos hstate, if_neg Bool.false_ne_true]
    exact if_neg (by rw [hserving]; exact Bool.false_ne_true)
  · subst hu
    refine exec_unit hlive rfl (decide_eq_true hc) ((State.carCtrl_of_taken hrest (by rcases hstate with h | h <;> rw [h] <;> rfl)).trans ?_)
    exact (if_neg (ne_true_of_eq_false hid)).trans (if_neg (Nat.not_lt.mpr hroom))
  · subst hx
    exact exec_unit hlive rfl (decide_eq_true hc) (if_neg (not_not_intro hrunning))
  · subst hu
    refine exec_unit hlive rfl (decide_eq_true hc) ((State.carCtrl_of_taken hrest (by rw [hstate]; rfl)).trans ?_)
    exact if_neg (ne_true_of_eq_false hid)
  · exact exec_unit hlive rfl (decide_eq_true hc) (State.carCtrl_of_taken hrest (by rcases hstate with h | h <;> rw [h] <;> rfl))
  · exact exec_unit hlive rfl (decide_eq_true hc) (State.carCtrl_of_taken hrest (by rcases hstate with h | h <;> rw [h] <;> rfl))
  · exact exec_unit hlive rfl (decide_eq_true hc) (by simp [State.detachDone, hstate, hops])
  · exact exec_unit hlive rfl (decide_eq_true hc) (State.carCtrl_of_taken hrest (by rcases hstate with h | h | h <;> rw [h] <;> rfl))
  · subst hx hu
    exact exec_unit hlive rfl (decide_eq_true hc) (if_neg (not_not_intro hrunning))

/-! STORAGE requests and the media. -/

/-- A STORAGE request at the head of its ring that may go on is done by the row of its operation (R336). -/
theorem State.storage_of_head {s : State} {ring : Nat} {m : List Byte} {r : Req} {op : Nat → Bool}
    (hhead : s.headReq ring U_FLASH T_STORAGE = some (m, r)) (hop : op (at_ r.payload 0 1) = true)
    (hcode : (s.popMsg ring m).storageCode r = E_NONE) : s.storage ring op = (s.popMsg ring m).storageDo r := by
  simp only [State.storage, State.headStorage, hhead, hop, hcode, if_true]

/-- Settles O21. -/
theorem storageCommandsComplete : Obligations.StorageCommandsComplete := by
  refine fun s hlive => ⟨fun row hrow ring m r hring hhead hop hcode => ?_, fun c residue o u v hc ho hheld hu hv => ?_,
    fun c src i fails o u v hc hu ho hwrite hbegun hheld hv => ?_, fun c b cls bits retries uncorr hc hcls hserving hb => ?_,
    fun c x n v b u hc hx hvictim hmode hheld hserving hv hb hu => ?_, fun c o hc hops hwrite hbegun hlate => ?_,
    fun c t u hc hpowered hu => ?_, fun c hc hpowered => ?_, fun c k hc hpowered hmounted hk => ?_⟩
  · simp only [List.mem_cons, List.not_mem_nil, or_false] at hrow
    rcases hrow with rfl | rfl | rfl | rfl | rfl
    all_goals exact exec_ring hlive hring rfl (State.storage_of_head hhead (by rw [hop]; rfl) hcode)
  · subst hu hv
    refine exec_unit hlive rfl (decide_eq_true hc) ?_
    rw [State.secureDone, ho]
    exact if_neg (ne_true_of_eq_false hheld)
  · subst hu hv
    refine exec_unit hlive rfl (decide_eq_true hc) ?_
    simp only [State.programDone, ho, hwrite, hbegun, hheld, Bool.not_true, ne_eq, not_true_eq_false, Bool.false_eq_true, or_self, if_false]
  · refine exec_unit hlive rfl ?_ (if_pos ⟨hserving, hb⟩)
    simp only [hc, hcls, decide_true, Bool.and_true]
  · subst hx hv hb hu
    refine exec_unit hlive rfl (decide_eq_true hc) ?_
    simp only [State.victimFreed, hvictim, hmode, hheld, hserving, Bool.not_true, Bool.false_eq_true, or_self, if_false]
  · refine exec_unit hlive rfl (decide_eq_true hc) ?_
    simp [State.writeDeadline, hops, hwrite, hbegun, hlate]
  · subst hu
    exact exec_unit hlive rfl (decide_eq_true hc) (if_neg (by rw [hpowered]; decide))
  · exact exec_unit hlive rfl (decide_eq_true hc) (if_neg (by rw [hpowered]; decide))
  · subst hk
    exact exec_unit hlive rfl (decide_eq_true hc) (if_neg (by rw [hpowered, hmounted]; decide))

end Sys2Proof.Machine
end

section
/-! What the commands of the port, of traffic, of the fabric and of connections do (R359 to R426). The clauses follow the model where the manual
leaves a choice: link outcomes and FEC counts as operands (assumption log 108 and 109), one sample per boundary (117), the gate's position (118)
and the earliest instant of a slot (119), the packets of a row's own operation (182) and the own loop (196), repeats first (191), one rise per
beat (193), idle ends (195), and the clock moved to the instant of a timer (7). -/

namespace Sys2Proof.Machine

/-! The port. -/

/-- A link change outside negotiation shows the new state and the lanes that the mode has (R361). -/
theorem State.linkChange_of_plain {s : State} {st lanes peer : Nat} (henabled : s.bit F.PORT_CFG_ENABLE = true) (hlo : 2 ≤ st) (hhi : st ≤ 6)
    (hfrom : s.linkState ≠ LK_NEGOTIATING) (htraining : st = LK_TRAINING → crMode s.port.mode = true) (hto : st ≠ LK_NEGOTIATING) :
    s.linkChange st lanes peer = (s.setLink st).setLanes (lanes &&& modeLanes s.port.mode) := by
  have hrange : ¬ ((!s.bit F.PORT_CFG_ENABLE) = true ∨ st = 0 ∨ 6 < st) := by
    rw [henabled]
    simp only [Bool.not_true, Bool.false_eq_true, false_or]
    omega
  have hmode : ¬ (st = LK_TRAINING ∧ (!crMode s.port.mode) = true) := fun ⟨h, hno⟩ => by
    rw [htraining h] at hno
    exact Bool.false_ne_true hno
  rw [State.linkChange, if_neg hrange, if_neg hto, if_neg hfrom, if_neg hmode]

/-- Settles O22. -/
theorem portCommandsComplete : Obligations.PortCommandsComplete := by
  refine fun s hlive => ⟨fun u hoff hu => ?_, ?_, fun st lanes peer henabled hlo hhi hfrom htraining hto => ?_,
    fun f share hup hlong hshort hfcs htype haddr => ?_, fun qs hup => ?_, fun c u hc hpaused hu => ?_,
    fun c n u v hc hsent hu hstill hv => ?_, fun a b u hu => ⟨fun hmany hquiet => ?_, fun hfew => ?_⟩⟩
  · subst hu
    exact exec_next hlive rfl (if_neg (ne_true_of_eq_false hoff))
  · exact exec_next hlive rfl rfl
  · exact exec_next hlive rfl (State.linkChange_of_plain henabled hlo hhi hfrom htraining hto)
  · refine exec_next hlive rfl ?_
    simp [State.frameReceived, hup, Nat.not_lt.mpr hlong, Nat.not_lt.mpr hshort, hfcs, htype, haddr]
  · exact exec_next hlive rfl (if_pos hup)
  · subst hu
    exact exec_unit hlive rfl (decide_eq_true hc) (if_neg hpaused)
  · subst hu hv
    refine exec_unit hlive rfl (decide_eq_true hc) ?_
    rw [State.pfcRefresh, if_neg hsent]
    exact if_neg hstill
  · subst hu
    exact exec_next hlive rfl ((if_pos hmany).trans (if_neg (ne_true_of_eq_false hquiet)))
  · subst hu
    exact exec_next hlive rfl (if_neg (Nat.not_le.mpr hfew))

/-! Traffic. -/

/-- Settles O23. -/
theorem trafficCommandsComplete : Obligations.TrafficCommandsComplete := by
  refine fun s hlive => ⟨fun u hup hu => ⟨fun f rest hqueue heligible htokens hstill => ?_, fun c v f rest hexpress hpick hqueue => ?_⟩,
    fun l hlist hvalid hentry => ?_, fun hen hvalid hperiod hfresh => ?_, fun u f rest hu hqueue htokens => ?_, ?_⟩
  · subst hu
    refine exec_next hlive rfl ?_
    simp only [State.txSlot, hup, hqueue, heligible, htokens, hstill, ne_eq, not_true_eq_false, and_self, if_true, if_false]
  · subst hu
    refine exec_next hlive rfl ?_
    simp only [State.txSlot, hup, hexpress, hpick, hqueue, ne_eq, not_true_eq_false, Bool.false_eq_true, false_and, if_false]
  · exact exec_next hlive rfl (by simp only [State.gateBoundary, hlist, hvalid, hentry, Bool.not_true, ne_eq, not_true_eq_false,
      Bool.false_eq_true, if_false])
  · exact exec_next hlive rfl (if_pos ⟨hen, hvalid, hperiod, hfresh⟩)
  · subst hu
    refine exec_next hlive rfl ?_
    simp only [State.shaperReady, hqueue]
    exact if_neg (Nat.sub_ne_zero_of_lt htokens)
  · exact exec_next hlive rfl rfl

/-! The fabric's operations. -/

/-- Settles O24. -/
theorem fabricRowsTakeTheirPacket : Obligations.FabricRowsTakeTheirPacket := by
  refine fun s hlive => ⟨fun row hrow => ?_, fun p hop => ?_, fun p hop => ?_, fun row hrow => ?_, fun x hwaits hx => ?_,
    fun src i c hc => ?_⟩
  · simp only [List.mem_cons, List.not_mem_nil, or_false] at hrow
    rcases hrow with rfl | rfl | rfl | rfl | rfl | rfl | rfl
    all_goals exact ⟨fun p hop => exec_next hlive rfl (if_pos (beq_iff_eq.mpr hop)), exec_next hlive rfl rfl⟩
  · exact exec_next hlive rfl (if_pos (beq_iff_eq.mpr hop))
  · exact exec_next hlive rfl (if_pos (beq_iff_eq.mpr hop))
  · simp only [List.mem_cons, List.not_mem_nil, or_false] at hrow
    rcases hrow with rfl | rfl
    all_goals
      refine ⟨fun p hop htype => exec_next hlive rfl (if_pos ?_), exec_next hlive rfl rfl⟩
      exact Bool.and_eq_true_iff.mpr ⟨beq_iff_eq.mpr hop, beq_iff_eq.mpr htype⟩
  · subst hx
    exact exec_next hlive rfl (if_neg (by rw [List.isEmpty_iff]; exact hwaits))
  · exact exec_next hlive rfl (by simp only [hc])

/-! Connections. -/

/-- Settles O25. -/
theorem connectionCommandsComplete : Obligations.ConnectionCommandsComplete := by
  refine fun s hlive => ⟨fun a k c u hk hc hu => ?_, fun a u c hu hc hfew => ?_, fun a hmine => ?_, fun a k x hk hc hx => ?_,
    fun peer cls hcls k hk => ⟨fun path c u hc hmode hu => ?_, fun c p r u hc hout hu => ⟨fun hagain => ?_, fun hlost => ?_⟩,
      fun c hc happlied hgap => ?_, fun c u hc hheld hpart happlied hu => ?_, fun c u hc hout hwaits hops hu => ?_,
      fun path c t hc ht hpenal => ?_, fun c hc hvalid hbeat hseen => ?_, fun c hc hhold => ?_, fun c hc hwaits hhold => ?_⟩⟩
  · subst hk hu
    exact exec_next hlive rfl (by simp only [State.onAck, hc])
  · subst hu
    exact exec_next hlive rfl (by simp only [State.onNakRnr, hc, Nat.not_le.mpr hfew, if_false])
  · exact exec_next hlive rfl (by simp only [State.onNakErr, hmine, if_true])
  · subst hk hx
    have hsome : ¬ (((s.bump F.SKO_CNT_RX_PACKETS 1).txOf (connKey a.peer a.cls)).isNone = true) := by
      rw [Option.isNone_iff_eq_none, ← ne_eq, ← Option.isSome_iff_ne_none]
      exact hc
    exact exec_next hlive rfl (congrArg State.ncSettle (if_neg hsome))
  · subst hk hu
    exact exec_unit hlive rfl (decide_eq_true hcls) (by simp only [State.onCnp, hc, Nat.not_le.mpr hmode, if_false])
  · subst hk hu
    exact exec_unit hlive rfl (decide_eq_true hcls)
      (congrArg State.ncSettle (by simp only [State.rtoTimeout, hc, hout, Nat.not_le.mpr hagain, if_false]))
  · subst hk hu
    exact exec_unit hlive rfl (decide_eq_true hcls) (congrArg State.ncSettle (by simp only [State.rtoTimeout, hc, hout, hlost, if_true]))
  · subst hk
    have hno : (if c.gapTold then none else c.gapSince.map (· + s.get F.SKO_CFG_REORDER_NS)) = none := by rw [hgap, Option.map_none, ite_self]
    refine exec_unit hlive rfl (decide_eq_true hcls) ?_
    simp only [State.ackTimer, hc, hno, if_neg happlied, earlier, Bool.or_false]
  · subst hk hu
    exact exec_unit hlive rfl (decide_eq_true hcls) (by simp [State.connIdle, hc, hheld, hpart, happlied])
  · subst hk hu
    exact exec_unit hlive rfl (decide_eq_true hcls) (by simp [State.connIdle, hc, hout, hwaits, hops])
  · subst hk ht
    exact exec_unit hlive rfl (decide_eq_true hcls) (by simp only [State.penaltyOver, hc, hpenal, if_false])
  · subst hk
    exact exec_unit hlive rfl (decide_eq_true hcls) (by simp [State.rateIncrease, hc, hvalid, hbeat, hseen])
  · subst hk
    exact exec_unit hlive rfl (decide_eq_true hcls) (by simp only [State.rnrWait, hc, hhold, if_true])
  · subst hk
    exact exec_unit hlive rfl (decide_eq_true hcls) (by simp only [State.paceRelease, hc, hwaits, hhold, Bool.or_self, Bool.false_eq_true,
      if_false])

end Sys2Proof.Machine
end

section
/-! What the commands of movers, check units, the parity engine, identity and resets do (R429 to R507). The clauses follow the model where the
manual leaves a choice: pieces, WAITING and KIND (assumption log 120 to 122), the lines and the start row of a parity job (125 and 127), M0 with
both digests (128), read-backs as operands (129), REVOKE_VKEY at once (133), scoped resets at their start and what they keep (136, 141 and 142),
and the clock moved to the instant of a time-out (7). -/

namespace Sys2Proof.Machine

/-! Movers. -/

/-- A channel that runs nothing takes the descriptor at its head under the operation that it names (R433). -/
theorem State.movRun_of_head {s : State} {n op : Nat} {x : Acc} (hstate : s.movState n = MV_IDLE ∨ s.movState n = MV_WAITING)
    (hfree : (s.movCh n).run = none) (hhead : s.movHead n = some x) (hcode : x.code = E_NONE) (hop : mdOp x.data = op) :
    s.movRun n op = x.st.movStart n x.data := by
  simp only [State.movRun, hfree, Option.isNone_none, and_true, if_pos hstate, hhead, hcode, hop, ne_eq, not_true_eq_false, true_or, if_true,
    if_false]

/-- Settles O26. -/
theorem moverCommandsComplete : Obligations.MoverCommandsComplete := by
  refine fun s n hlive hn => ⟨fun hown hstate hring => ?_, fun row hrow x hstate hfree hhead hcode hop => ?_,
    fun r u v q hrun hu hv hq hpos hreads hwrites => ?_, fun line hline u hu => ?_, fun t ht hperiod => ?_,
    fun r hrun hpaced hpend hpos hraised => ?_, fun hown hstate => ?_, fun hown hstate => ?_, fun hown hstate => ?_, fun hown hstate => ?_,
    fun r hown hrun hpaced => ?_⟩
  · exact exec_unit hlive rfl (decide_eq_true hn) (by simp [State.movEnable, hown, hstate, hring])
  · simp only [List.mem_cons, List.not_mem_nil, or_false] at hrow
    rcases hrow with rfl | rfl | rfl | rfl | rfl | rfl
    all_goals exact exec_unit hlive rfl (decide_eq_true hn) (State.movRun_of_head hstate hfree hhead hcode hop)
  · subst hu hv
    exact exec_unit hlive rfl (decide_eq_true hn) (by simp [State.movDone, hrun, hq, hpos, hreads, hwrites])
  · subst hu
    exact exec_unit hlive rfl (decide_eq_true hline) rfl
  · exact exec_unit hlive rfl (decide_eq_true ht) (if_neg hperiod)
  · exact exec_unit hlive rfl (decide_eq_true hn) (by simp [State.movStall, hrun, hpaced, hpend, hpos, hraised])
  · refine exec_unit hlive rfl (decide_eq_true hn) ?_
    rcases hstate with hstate | hstate <;> simp [State.movStop, hown, hstate]
  · exact exec_unit hlive rfl (decide_eq_true hn) (by simp [State.movStop, hown, hstate, MV_RUNNING, MV_IDLE, MV_WAITING])
  · exact exec_unit hlive rfl (decide_eq_true hn) (if_pos ⟨by rw [hown]; rfl, hstate⟩)
  · exact exec_unit hlive rfl (decide_eq_true hn) (if_pos ⟨by rw [hown]; rfl, hstate⟩)
  · exact exec_unit hlive rfl (decide_eq_true hn) (by simp [State.movKick, hrun, hpaced, hown])

/-! Check units and the parity engine. -/

/-- A write to a unit that a channel holds is counted and no more (R442). -/
theorem State.chkWrite_of_held {s : State} {u : Nat} (hheld : s.chkHeld u = true) (f : State → State) :
    s.chkWrite u f = s.bump (F.CHK_CTRL_IGNORED u) 1 := if_pos hheld

/-- A queue whose turn it is starts the job at its head under the operation that it names (R447). -/
theorem State.parRun_of_head {s : State} {q op : Nat} {x : Acc} (hturn : s.parTurn q = true) (hhead : s.parHead q = some x)
    (hcode : x.code = E_NONE) (hop : pjOp x.data = op) : s.parRun q op = x.st.parStart q x.data E_NONE := by
  simp only [State.parRun, hturn, hhead, hcode, hop, ne_eq, not_true_eq_false, true_or, if_true, if_false]

/-- Settles O27. -/
theorem checkAndParityCommandsComplete : Obligations.CheckAndParityCommandsComplete := by
  refine fun s hlive => ⟨fun u hu hfree => ⟨?_, fun v => ?_, fun v k hk => ?_⟩, fun u v hu hheld => ?_,
    fun u hu => ⟨fun hmatch hquiet => ?_, fun hmatch => ?_⟩, fun q hq row hrow x hturn hhead hcode hop => ?_,
    fun q r u hq hjob hqueue hu => ⟨fun hcode => ?_, fun f hcode hf hok => ?_⟩, fun hoff hring => ?_, fun hhalted => ⟨?_, ?_⟩⟩
  · exact exec_unit hlive rfl (decide_eq_true hu) (State.chkWrite_of_free hfree _)
  · exact exec_unit hlive rfl (decide_eq_true hu) (State.chkWrite_of_free hfree _)
  · exact exec_unit hlive rfl (decide_eq_true hu) ((if_neg hk).trans (State.chkWrite_of_free hfree _))
  · exact exec_unit hlive rfl (decide_eq_true hu) (State.chkWrite_of_held hheld _)
  · exact (exec_unit hlive rfl (decide_eq_true hu) (if_pos hmatch)).trans (congrArg _ (State.done_self s hquiet))
  · exact exec_unit hlive rfl (decide_eq_true hu) (if_neg (ne_true_of_eq_false hmatch))
  · simp only [List.mem_cons, List.not_mem_nil, or_false] at hrow
    rcases hrow with rfl | rfl | rfl | rfl
    all_goals exact exec_unit hlive rfl (decide_eq_true hq) (State.parRun_of_head hturn hhead hcode hop)
  · subst hu
    exact exec_unit hlive rfl (decide_eq_true hq) (congrArg State.ncStep (by simp [State.parDone, hjob, hqueue, hcode]))
  · subst hu hf
    exact exec_unit hlive rfl (decide_eq_true hq) (congrArg State.ncStep (by simp [State.parDone, hjob, hqueue, hcode, hok]))
  · exact exec_next hlive rfl (by simp [State.parEnable, hoff, hring])
  · exact exec_next hlive rfl (if_pos hhalted)
  · exact exec_next hlive rfl (if_pos hhalted)

/-! Identity. -/

/-- A command of the identity block while none runs does what it says (R465). -/
theorem State.secDo_of_idle {s : State} (hidle : s.secRuns = false) (f : State → State) : s.secDo f = f s :=
  if_neg (ne_true_of_eq_false hidle)

/-- A quote or a certificate whose place is allowed and holds no graph is begun (R459). -/
theorem State.beginQuote_of_ok {s : State} {n : Nat} {k : List Byte} {f : List Byte → List Byte} (hidle : s.bit F.SEC_STATUS_QUOTE_BUSY = false)
    (hsecret : s.sec.secret = some k) (hplace : s.secAddrOk (s.get F.SEC_ARG_ADDR) n = true) (hgraph : touchesGraph (s.get F.SEC_ARG_ADDR) n = false) :
    s.beginQuote n f = (State.setBit { s with sec := { s.sec with quote := some ⟨s.get F.SEC_ARG_ADDR, f k⟩ } }
      F.SEC_STATUS_QUOTE_BUSY true).secResult SR_OK := by
  simp only [State.beginQuote, hidle, hsecret, hplace, hgraph, Bool.not_true, Bool.false_eq_true, or_self, if_false]

/-- A vendor slot that another one of the active image stands beside is revoked at once (R464). -/
theorem State.revoke_of_other {s : State} {k j : Nat} {i : Image} {v : VendorSlot} (hk : k < 4) (hactive : s.img.active = some i)
    (hj : j ∈ i.vendor) (hother : j ≠ k) (hslot : s.sec.slots[j]? = some v) (hgood : v.revoked = false) :
    s.revoke k = ((State.showFuses { s with sec := { s.sec with slots := s.sec.slots.mapIdx fun i v =>
      if i = k then { v with revoked := true } else v } }).extendM0).secResult SR_OK := by
  have hany : (i.vendor.any fun j => j != k && (match s.sec.slots[j]? with
      | some v => !v.revoked
      | none => false)) = true :=
    List.any_eq_true.mpr ⟨j, hj, by simp [hslot, hother, hgood]⟩
  rw [State.revoke, decide_eq_true hk, hactive]
  exact if_pos hany

/-- Settles O28. -/
theorem identityCommandsComplete : Obligations.IdentityCommandsComplete := by
  refine fun s hlive => ⟨fun x k hidle hid hplace hx hsecret hcode => ?_, fun c got u hclaim hu => ⟨fun hgot => ?_, fun hgot => ?_⟩,
    fun k hidle hfree hsecret => ⟨fun hplace hgraph => ?_, fun b hplace hgraph hb => ?_⟩, fun q x hquote hx hcode => ?_,
    fun n hidle hlo hhi => ?_, fun n hidle hn => ?_, fun i hidle hactive hfloor => ?_, fun f hraising => ?_,
    fun k i j v hidle hk hactive hj hother hslot hgood => ?_⟩
  · subst hx
    have haddr : ¬ (!s.secAddrOk (s.get F.SEC_ARG_ADDR) 626) = true := by rw [hplace]; decide
    refine exec_next hlive rfl ((State.secDo_of_idle hidle _).trans
      ((if_neg (ne_true_of_eq_false hid)).trans ((if_neg haddr).trans ?_)))
    dsimp only
    rw [hsecret]
    exact if_neg (not_not_intro hcode)
  · subst hu hgot
    exact exec_next hlive rfl (by simp only [State.claimReadback, hclaim, if_true])
  · subst hu
    exact exec_next hlive rfl (by simp only [State.claimReadback, hclaim, hgot, if_false])
  · exact exec_next hlive rfl ((State.secDo_of_idle hidle _).trans (State.beginQuote_of_ok hfree hsecret hplace hgraph))
  · subst hb
    exact exec_next hlive rfl ((State.secDo_of_idle hidle _).trans (State.beginQuote_of_ok hfree hsecret hplace hgraph))
  · subst hx
    exact exec_next hlive rfl (by simp only [State.quoteDone, hquote, hcode, if_true])
  · exact exec_unit hlive rfl (decide_eq_true (by omega)) ((State.secDo_of_idle hidle _).trans (if_pos ⟨hlo, hhi⟩))
  · exact exec_unit hlive rfl (decide_eq_true (by omega)) ((State.secDo_of_idle hidle _).trans (if_neg (by omega)))
  · refine exec_next hlive rfl ((State.secDo_of_idle hidle _).trans ?_)
    simp only [State.raiseFloor, hactive, Nat.not_le.mpr hfloor, if_false]
  · exact exec_next hlive rfl (by simp only [State.floorRaised, hraising])
  · exact exec_unit hlive rfl (decide_eq_true (by omega))
      ((State.secDo_of_idle hidle _).trans (State.revoke_of_other hk hactive hj hother hslot hgood))

/-! Resets. -/

/-- A CONTROL request at the head of its ring, of the right length, is served by the row of its operation (R493). -/
theorem State.control_of_head {s : State} {ring : Nat} {m : List Byte} {r : Req} {op : Nat → Bool} {f : State → Req → State}
    (hhead : s.headReq ring U_NCTL T_CONTROL = some (m, r)) (hop : op (at_ r.payload 0 1) = true) (hlen : r.payload.length = 32) :
    s.control ring op f = f (s.popMsg ring m) r := by
  simp only [State.control, State.headControl, hhead, hop, hlen, if_true]

/-- A reset by CONTROL of a scope that is there begins, if none runs (R493). -/
theorem State.controlReset_of_ok {s : State} {r : Req} (hop : at_ r.payload 0 1 = 1) (hscope : 0 < at_ r.payload 1 1)
    (hok : s.scopeOk (at_ r.payload 1 1) (at_ r.payload 2 2) = true) (hidle : s.ctl.reset = none) :
    s.controlReset r = s.beginReset (at_ r.payload 1 1) (at_ r.payload 2 2) (some r) := by
  simp only [State.controlReset, hop, hok, hidle, Nat.ne_of_gt hscope, Bool.or_true, Bool.not_true, ne_eq, not_true_eq_false, Bool.false_eq_true,
    Option.isSome_none, or_self, if_false]

/-- Settles O29. -/
theorem resetCommandsComplete : Obligations.ResetCommandsComplete := by
  refine fun s => ⟨fun hlive => ?_, fun scope inst hlive hlo hhi hinst hok hidle => ?_,
    fun r u hlive hreset hu => ⟨fun hreq => ?_, fun q hreq => ?_⟩, fun ring m r u hlive hring hhead hop hlen hu hscope hok hidle => ?_,
    fun ns hns => ?_, fun ns hns hquiet => ?_, fun straps hlow => ?_, fun hhigh => ?_⟩
  · exact exec_next hlive rfl rfl
  · refine exec_next hlive rfl ?_
    simp only [State.resetGo, Nat.mod_eq_of_lt hhi, Nat.mod_eq_of_lt hinst, Nat.ne_of_gt hlo, hok, hidle, Bool.not_true, Bool.false_eq_true,
      Option.isSome_none, if_false]
  · subst hu
    exact exec_next hlive rfl (by simp only [State.resetDone, hreset, hreq])
  · subst hu
    exact exec_next hlive rfl (by simp only [State.resetDone, hreset, hreq])
  · subst hu
    exact exec_ring hlive hring rfl
      ((State.control_of_head hhead (by rw [hop]; rfl) hlen).trans (State.controlReset_of_ok hop hscope hok hidle))
  · have hlong : ¬ (1000 ≤ ns ∧ ns < 10000) := by omega
    rw [exec, execResetInput, State.resetInput, if_neg hlong, decide_eq_true hns]
    rfl
  · have hshort : ¬ (1000 ≤ ns ∧ ns < 10000) := by omega
    rw [exec, execResetInput, State.resetInput, if_neg hshort, decide_eq_false (by omega), decide_eq_false (by omega)]
    exact congrArg _ (State.done_self s hquiet)
  · rw [exec, execResetRelease, State.resetRelease, hlow]
    rfl
  · rw [exec, execClockLoss, hhigh]
    rfl

end Sys2Proof.Machine
end

section
/-! What the commands of seals, recoveries, windows, startup and power do (R270, R343, R351, R478 to R499, R510 to R518). The clauses follow the
model where the manual leaves a choice: cut, stream, scratch place, SYS records, overlap and group codes (assumption log 143 to 149), the length
of rehearsals and the trim rotation (150 and 155), startup contents as operands (129), keys only into empty slots (130), a carrier given up at
once (162), memory zeroed once more (165), the count of eight and the RAISES of an alert (167), SOURCE and items (168), readings as operands
(169), and the clock moved to the instant of a time-out (7). -/

namespace Sys2Proof.Machine

/-! Seals and recoveries. -/

/-- A rebuild that the node accepts opens the first slot that runs none (R486). -/
theorem State.rebuild_of_accepted {s : State} {r : Req} {g : GroupDesc} {k : Nat} (hcode : s.rebuildCode r.payload = E_NONE)
    (hgroup : s.epochs.group = some g) (hslot : (recSlots.find? fun k => !s.recLive k) = some k) {v : State}
    (hv : ((((((s.closeRecords (at_ r.payload 4 1) (at_ r.payload 8 4) (at_ r.payload 12 4)).setRecState k RS_RUNNING 0).set
      (F.NCTL_REC_STATE_SRC_POS k) (at_ r.payload 4 1)).set (F.NCTL_REC_CUR_CURSOR k) (at_ r.payload 8 4)).set
      (F.NCTL_REC_CUR_LAST k) (at_ r.payload 12 4)).set (F.NCTL_REC_STATE_LOST k) (addPos (at_ r.payload 16 4) g.pos)) = v) :
    s.rebuild r = (v.setRec k { req := some r, first := at_ r.payload 8 4, mask := at_ r.payload 16 4, buf := at_ r.payload 20 6,
                                seq := v.seqAfter }).recStep k := by
  simp only [State.rebuild, hcode, ne_eq, not_true_eq_false, if_false, hgroup, hslot, hv]

/-- A held recovery is resumed (R490). -/
theorem State.recResume_of_held {s v : State} {r : Req} {g : GroupDesc} {k : Nat} (hk : at_ r.payload 2 2 = k) (hle : k ≤ 7)
    (hgroup : s.epochs.group = some g) (hheld : s.recState k = RS_HELD)
    (hv : (s.setRecState k RS_RUNNING 0).set (F.NCTL_REC_STATE_LOST k) (addPos (s.recSlot k).mask g.pos) = v) :
    s.recResume r = ((v.setRec k { s.recSlot k with stage := 0, got := [], ask := none, seq := v.seqAfter }).answer U_NCTL r E_NONE).recStep k := by
  simp only [State.recResume, hk, Nat.not_lt.mpr hle, if_false, hgroup, hheld, ne_eq, not_true_eq_false, hv]

/-- A recovery that is held or runs is abandoned (R490). -/
theorem State.recAbandon_of_live {s : State} {r : Req} {k : Nat} (hk : at_ r.payload 2 2 = k) (hle : k ≤ 7) (hrec : s.recLive k = true) :
    s.recAbandon r = ((s.writeCursor k false).2.recEnd k RS_ABANDONED 0).answer U_NCTL r E_NONE := by
  simp only [State.recAbandon, hk, Nat.not_lt.mpr hle, hrec, Bool.not_true, Bool.false_eq_true, if_false]

/-- A first RELEASE drops the log entries of the epochs up to its own (R484). -/
theorem State.release_of_first {s v : State} {r : Req} (hfirst : s.epochs.released = none)
    (hv : { s with epochs := { s.epochs with released := some (at_ r.payload 8 4)
                                             log := s.epochs.log.filter fun x => decide (at_ r.payload 8 4 < x.epoch) } } = v) :
    s.release r = (if v.sealState = SL_HELD ∧ v.get F.NCTL_UEPOCH_HELD ≤ at_ r.payload 8 4 then v.freeHalf else v).writeLog.answer
      U_NCTL r E_NONE := by
  simp only [State.release, hfirst, hv]

/-- A RESEAL that names the epoch that is held begins to seal it again (R485). -/
theorem State.resealHeld_of_held {s : State} {r : Req} (hgroup : s.epochs.group.isNone = false) (hheld : s.sealState = SL_HELD)
    (hepoch : s.get F.NCTL_UEPOCH_HELD = at_ r.payload 8 4) :
    s.resealHeld r = State.beginSeal { s with epochs := { s.epochs with reseal := some r } } :=
  if_neg fun h => h.elim (fun h => absurd h (ne_true_of_eq_false hgroup)) fun h => h.elim (· hheld) (· hepoch)

/-- Settles O30. -/
theorem sealAndRecoveryCommandsComplete : Obligations.SealAndRecoveryCommandsComplete := by
  refine fun s hlive => ⟨fun hvalid hperiod hdue => ?_, fun t g l ht hstate hfail hanswered hgroup hl => ?_,
    fun ring m r u hring hhead hlen hu => ⟨fun g k v hop hcode hgroup hslot hv => ?_, fun g k v hop hk hle hgroup hheld hv => ?_,
      fun k hop hk hle hrec => ?_, fun v hop hfirst hv => ?_, fun hop hgroup hheld hepoch => ?_⟩,
    fun k x a b c t hk hstate hx hstage hask hcode => ?_,
    fun x g u hoff hx hcode halign hg => ⟨fun hreason hu hlast => ?_, fun why hreason hne => ?_⟩⟩
  · exact exec_next hlive rfl (if_pos (Or.inr ⟨hvalid, hperiod, hdue⟩))
  · subst hl
    exact exec_next hlive rfl
      (by simp only [State.sealEnd, ht, hstate, hfail, hanswered, hgroup, ne_eq, not_true_eq_false, Bool.not_true, Bool.false_eq_true, if_false])
  · subst hu
    exact exec_ring hlive hring rfl
      ((State.control_of_head hhead (by rw [hop]; rfl) hlen).trans (State.rebuild_of_accepted hcode hgroup hslot hv))
  · subst hu
    exact exec_ring hlive hring rfl
      ((State.control_of_head hhead (by rw [hop]; rfl) hlen).trans (State.recResume_of_held hk hle hgroup hheld hv))
  · subst hu
    exact exec_ring hlive hring rfl ((State.control_of_head hhead (by rw [hop]; rfl) hlen).trans (State.recAbandon_of_live hk hle hrec))
  · subst hu
    exact exec_ring hlive hring rfl ((State.control_of_head hhead (by rw [hop]; rfl) hlen).trans (State.release_of_first hfirst hv))
  · subst hu
    exact exec_ring hlive hring rfl
      ((State.control_of_head hhead (by rw [hop]; rfl) hlen).trans (State.resealHeld_of_held hgroup hheld hepoch))
  · subst hx
    exact exec_unit hlive rfl (decide_eq_true hk)
      (by simp only [State.rebuildStripe, hstate, hstage, hask, hcode, ne_eq, not_true_eq_false, or_self, if_false])
  · exact exec_next hlive rfl (by
      simp only [State.groupEnable, hoff, hx, hcode, halign, hg, hreason, hu, hlast, ne_eq, not_true_eq_false, or_self, Bool.false_eq_true,
        if_false, if_true])
  · exact exec_next hlive rfl (by
      simp only [State.groupEnable, hoff, hx, hcode, halign, hg, hreason, hne, ne_eq, not_true_eq_false, not_false_eq_true, or_self,
        Bool.false_eq_true, if_false, if_true])

/-! Windows. -/

/-- The end of a trim of a unit that stood in TRIM resumes the unit, tells a failure, and goes on while the window is open (R497). -/
theorem State.trimmed_of_trim {s v : State} {k u : Nat} {ok : Bool} (htrim : (s.stkSt k).trimming = some u) (hstate : s.unitState k u = US_TRIM)
    (hv : (s.setStk k { s.stkSt k with trimming := none }).resumeUnit k u = v) :
    s.trimmed k ok = (let w := if ok then v else v.raise EV_INLAY_TRIM_FAIL (k * 256 + u) []
      if w.windowFor 1 then w.trimNext k else w) := by
  have hbusy : US_TRIM ≠ US_BUSY := by decide
  cases ok <;> simp [State.trimmed, htrim, hbusy, hstate, hv]

/-- Settles O31. -/
theorem windowCommandsComplete : Obligations.WindowCommandsComplete := by
  refine fun s hlive => ⟨fun n c u hn hc hu => ⟨fun hkind => ?_, fun hkind => ?_⟩, fun w hw hopen => ?_,
    fun k x u hk hstack hx hu => ⟨?_, ?_⟩, fun k u v hk hstack htrim hstate hv => ⟨fun hwin => ?_, fun hwin => ?_, fun hwin => ?_⟩,
    fun c cls offsets x hc hcls hserve hx hmark hshim => ⟨?_, ?_⟩, fun src i h u hfind hu hroom => ?_,
    fun src i j q u hj hlate hask hu => ?_⟩
  · exact exec_unit hlive rfl (decide_eq_true hn) (by simp only [State.rehearsalEnd, hc, hu, if_neg hkind])
  · exact exec_unit hlive rfl (decide_eq_true hn) (by simp only [State.rehearsalEnd, hc, hu, if_pos hkind])
  · exact exec_next hlive rfl (by simp only [hw, hopen, State.shimClose, Bool.false_eq_true, if_false])
  · exact exec_unit hlive rfl (decide_eq_true hk) ((if_pos hstack).trans (by simp only [State.retrained, hx, hu, if_true]))
  · exact exec_unit hlive rfl (decide_eq_true hk)
      ((if_pos hstack).trans (by simp only [State.retrained, hx, hu, Bool.false_eq_true, if_false]))
  · exact exec_unit hlive rfl (decide_eq_true hk)
      (((if_pos hstack).trans (State.trimmed_of_trim htrim hstate hv)).trans (by simp only [hwin, if_true]))
  · exact exec_unit hlive rfl (decide_eq_true hk)
      (((if_pos hstack).trans (State.trimmed_of_trim htrim hstate hv)).trans (by simp only [hwin, if_true, Bool.false_eq_true, if_false]))
  · exact exec_unit hlive rfl (decide_eq_true hk)
      (((if_pos hstack).trans (State.trimmed_of_trim htrim hstate hv)).trans (by simp only [hwin, Bool.false_eq_true, if_false]))
  · exact exec_unit hlive rfl (by simp only [hc, hcls, decide_true, Bool.and_self])
      (by simp only [State.classDone, hserve, hx, hmark, hshim, and_self, if_true])
  · exact exec_unit hlive rfl (by simp only [hc, hcls, decide_true, Bool.and_self])
      (by simp only [State.classDone, hserve, hx, hmark, hshim, and_self, if_true, Bool.false_eq_true, if_false])
  · subst hu
    exact exec_next hlive rfl (by simp only [State.delayLand, hfind, hroom, if_true])
  · exact exec_next hlive rfl (by simp only [State.payDeadline, hj, hlate, hask, hu, if_true])

/-! Startup. -/

/-- Settles O32. -/
theorem startupCommandsComplete : Obligations.StartupCommandsComplete := by
  refine fun s hlive => ⟨fun keys hphase hslots => ?_, fun helper a b rail boot u hphase hdone hu => ?_, fun u hphase hdone hu => ?_,
    fun c hphase hc => ⟨fun hready => ?_, fun hoff hread hboot => ?_, fun hmount => ?_⟩, fun c i hc hfree hactive hstate hlen u hu => ?_,
    fun c u i hsave hu hactive => ⟨fun hstate => ?_, ?_⟩⟩
  · exact exec_next hlive rfl (by simp only [State.romDone, hphase, hslots, List.isEmpty_nil, ne_eq, not_true_eq_false, if_false, if_true])
  · exact exec_next hlive rfl (by
      simp only [State.identityDone, hphase, hdone, hu, ne_eq, not_true_eq_false, Bool.false_eq_true, or_self, if_false])
  · have hin : [BP_IDENTITY, BP_MEMORY].contains s.phaseNow = true := by rcases hphase with h | h <;> rw [h] <;> rfl
    exact exec_next hlive rfl (by simp only [State.memoryDone, hin, hdone, hu, Bool.not_true, Bool.false_eq_true, or_self, if_false])
  · subst hc
    exact exec_next hlive rfl (by simp only [State.bootSlotRead, hphase, ne_eq, not_true_eq_false, if_false, if_pos hready])
  · subst hc
    exact exec_next hlive rfl (by
      simp only [State.bootSlotRead, hphase, hoff, hread, hboot, ne_eq, not_true_eq_false, or_self, Bool.false_eq_true, if_false])
  · subst hc
    exact exec_next hlive rfl (if_pos ⟨hphase, hmount⟩)
  · exact exec_next hlive rfl (by
      simp only [State.bootSave, hc, hfree, hactive, hstate, Nat.not_lt.mpr hlen, hu, ne_eq, not_true_eq_false, or_self, if_false])
  · exact exec_next hlive rfl (by simp only [State.bootSaveDone, hsave, hu, hactive, hstate, and_self, if_true])
  · exact exec_next hlive rfl (by simp only [State.bootSaveDone, hsave, hu, hactive, Bool.false_eq_true, false_and, if_false])

/-! Power. -/

/-- Settles O33. -/
theorem powerCommandsComplete : Obligations.PowerCommandsComplete := by
  refine fun s hlive => ⟨fun readings rd hrd => ⟨?_, rfl⟩,
    fun watts dies stks t u hot ht hu hhot hcalm => ⟨fun hover => ?_, fun hcool hcap hhyst hdie hstk v hv => ?_⟩,
    fun dies stks t u ht hu hhit hcalm => ?_, fun dies stks t u ht hu hcool => ?_, fun c hc => ?_⟩
  · subst hrd
    exact exec_next hlive rfl rfl
  · subst ht
    exact exec_next hlive rfl (by simp only [State.powerEval, hu, hhot, hcalm, hover, Bool.false_eq_true, if_false, if_true])
  · have hunder : decide (u.get F.NCTL_PWR_CAP_CAP_W < watts) = false := decide_eq_false (Nat.not_lt.mpr hcap)
    subst ht
    exact exec_next hlive rfl (by
      simp only [State.powerEval, hu, hhot, hcalm, hunder, hcool, hhyst, hdie, hstk, hv, Bool.or_self, Bool.false_eq_true, and_self, if_false,
        if_true])
  · subst ht
    exact exec_next hlive rfl (by
      simp only [State.thermalAlert, hu, hhit, hcalm, Bool.not_true, Bool.false_eq_true, or_self, if_false])
  · subst ht
    exact exec_next hlive rfl (by simp only [State.thermalRelease, hu, hcool, if_true])
  · exact exec_unit hlive rfl (decide_eq_true hc) rfl

end Sys2Proof.Machine
end

section
/-! A calculus of frames: what a composition of updates changes is what its pieces change together. -/

namespace Sys2Proof.Machine

/-! Composition. -/

/-- A frame holds with more parts left free. -/
theorem State.sameBut_within {xs ys : List Part} {s t : State} (hs : ∀ p, p ∈ xs → p ∈ ys) (h : s.sameBut xs t) : s.sameBut ys t :=
  State.sameBut_mono h hs

/-- One change after another changes what both change. -/
theorem State.sameBut.andThen {xs ys : List Part} {s t u : State} (h : s.sameBut xs t) (g : t.sameBut ys u) : s.sameBut (xs ++ ys) u :=
  State.sameBut_trans (State.sameBut_mono h fun _ => List.mem_append_left _) (State.sameBut_mono g fun _ => List.mem_append_right _)

/-- A choice between two changes changes what one of them changes. -/
theorem State.sameBut_ite {xs ys : List Part} {s t u : State} {c : Prop} [Decidable c] (h : s.sameBut xs t) (g : s.sameBut ys u) :
    s.sameBut (xs ++ ys) (if c then t else u) := by
  split
  · exact State.sameBut_mono h fun _ => List.mem_append_left _
  · exact State.sameBut_mono g fun _ => List.mem_append_right _

/-- A choice between two results that carry a state. -/
theorem State.sameBut_iteSnd {α : Type} {xs ys : List Part} {s : State} {x y : α × State} {c : Prop} [Decidable c] (h : s.sameBut xs x.2)
    (g : s.sameBut ys y.2) : s.sameBut (xs ++ ys) (if c then x else y).2 := by
  rw [apply_ite Prod.snd]
  exact State.sameBut_ite h g

/-- A change that may be left out. -/
theorem State.sameBut_ifElseSelf {xs : List Part} {s t : State} {c : Prop} [Decidable c] (h : s.sameBut xs t) :
    s.sameBut xs (if c then t else s) :=
  State.sameBut_mono (State.sameBut_ite h (State.sameBut_refl [] s)) fun _ hp => (List.mem_append.mp hp).elim id (absurd · List.not_mem_nil)

/-- A change that may be left out, in the other order. -/
theorem State.sameBut_ifSelfElse {xs : List Part} {s t : State} {c : Prop} [Decidable c] (h : s.sameBut xs t) :
    s.sameBut xs (if c then s else t) :=
  State.sameBut_ite (State.sameBut_refl [] s) h

/-! Updates of one part. -/

theorem State.sameBut_beat (s : State) (x : BeatSt) : s.sameBut [.beat] { s with beat := x } := by
  intro p hp
  cases p with
  | beat => exact absurd (.head _) hp
  | _ => rfl

theorem State.sameBut_port (s : State) (x : PortSt) : s.sameBut [.port] { s with port := x } := by
  intro p hp
  cases p with
  | port => exact absurd (.head _) hp
  | _ => rfl

theorem State.sameBut_ctl (s : State) (x : CtlSt) : s.sameBut [.ctl] { s with ctl := x } := by
  intro p hp
  cases p with
  | ctl => exact absurd (.head _) hp
  | _ => rfl

theorem State.sameBut_freeCtr (s : State) (x : Nat) : s.sameBut [.freeCtr] { s with freeCtr := x } := by
  intro p hp
  cases p with
  | freeCtr => exact absurd (.head _) hp
  | _ => rfl

theorem State.sameBut_setRing (s : State) (r : Nat) (v : RingSt) : s.sameBut [.rings] (s.setRing r v) := by
  intro p hp
  cases p with
  | rings => exact absurd (.head _) hp
  | _ => rfl

theorem State.sameBut_setMovCh (s : State) (n : Nat) (v : MovCh) : s.sameBut [.mov] (s.setMovCh n v) := by
  intro p hp
  cases p with
  | mov => exact absurd (.head _) hp
  | _ => rfl

/-! From the frame of an effect to the frame of a command. -/

/-- A command with no unit to name changes what its effect changes, and what the report of its events changes. -/
theorem changesOnly_of {xs ys : List Part} {c : Instr} {f : State → State} (hs : ∀ p, p ∈ xs ++ reports → p ∈ ys ++ reports)
    (hexec : ∀ s, exec c s = s.live (.next (f s))) (h : ∀ s : State, s.sameBut xs (f s)) : changesOnly ys c :=
  fun s _ e => State.sameBut_mono (State.live_frame (h s) ((hexec s).symm.trans e)) hs

/-- What a command on a unit leaves: nothing on a unit that is not there. -/
theorem State.live_unit_frame {xs : List Part} {s t u : State} {b : Bool} (h : s.sameBut xs u) (e : s.live (onUnit b u) = .next t) :
    s.sameBut (xs ++ reports) t := by
  cases b with
  | true => exact State.live_frame h e
  | false =>
    cases hdead : s.dead with
    | true => rw [State.live_dead _ _ hdead] at e; cases e; exact State.sameBut_refl _ s
    | false => rw [State.live, hdead] at e; cases e

/-- A command on a unit changes what its effect changes, and what the report of its events changes. -/
theorem changesOnly_of_unit {xs ys : List Part} {c : Instr} {b : State → Bool} {f : State → State}
    (hs : ∀ p, p ∈ xs ++ reports → p ∈ ys ++ reports) (hexec : ∀ s, exec c s = s.live (onUnit (b s) (f s)))
    (h : ∀ s : State, s.sameBut xs (f s)) : changesOnly ys c :=
  fun s _ e => State.sameBut_mono (State.live_unit_frame (h s) ((hexec s).symm.trans e)) hs

end Sys2Proof.Machine
end

section
/-! What the beat unit's commands and the expiries leave as it was (R38 to R53, R143, R196, R383, R387, R403, R411, R435, R494). The clock moves
to the instant of an expiry (assumption log 7). -/

namespace Sys2Proof.Machine

/-! The table of armed events. -/

theorem State.setEnt_frame (s : State) (n st : Nat) : s.sameBut [.regs] (s.setEnt n st) :=
  State.sameBut_within (by decide) ((State.sameBut_set s _ _).andThen (State.sameBut_set _ _ _))

theorem State.disarm_frame (s : State) (n : Nat) : s.sameBut [.beat, .regs] (s.disarm n) :=
  State.sameBut_ifElseSelf ((State.sameBut_beat s _).andThen (State.setEnt_frame _ _ _))

theorem State.addDue_frame (s : State) (e : Nat × Bool) : s.sameBut [.beat] (s.addDue e) :=
  State.sameBut_beat s _

theorem State.collectDue_frame (s : State) (last : Nat) : s.sameBut [.beat] (s.collectDue last) :=
  State.sameBut_foldl _ (fun t _ => State.addDue_frame t _) _ s

/-- An entry that is skipped or dropped takes its new state and raises its event in a slot of its own. -/
theorem State.settled_frame (s : State) (due : List (Nat × Bool)) (n st code source : Nat) (items : List Nat) :
    s.sameBut [.beat, .evt, .regs]
      (((State.slotOpens { s with beat := { s.beat with due := due } }).setEnt n st).raise code source items).slotCloses :=
  State.sameBut_within (by decide) (((((State.sameBut_beat s _).andThen (State.sameBut_evt _ _)).andThen (State.setEnt_frame _ _ _)).andThen
    (State.sameBut_raise _ _ _ _)).andThen (State.sameBut_evt _ _))

theorem State.settleDue_frame (fuel : Nat) : ∀ s : State, s.sameBut [.beat, .evt, .regs] (s.settleDue fuel) := by
  induction fuel with
  | zero => exact fun s => State.sameBut_refl _ s
  | succ fuel ih =>
    intro s
    unfold State.settleDue
    split
    · exact State.sameBut_refl _ s
    · exact State.sameBut_within (by decide) (State.sameBut_ite ((State.settled_frame s _ _ _ _ _ _).andThen (ih _))
        (State.sameBut_ifElseSelf ((State.settled_frame s _ _ _ _ _ _).andThen (ih _))))

/-! Local time and the synchronisation states. -/

theorem State.moveTime_frame (s : State) (t : Nat) : s.sameBut [.beat, .evt, .regs] (s.moveTime t) :=
  State.sameBut_within (by decide) ((State.sameBut_beat s _).andThen (State.sameBut_ite
    (((State.sameBut_beat _ _).andThen (State.collectDue_frame _ _)).andThen (State.settleDue_frame _ _))
    (State.sameBut_ite (State.sameBut_beat _ _) (State.sameBut_beat _ _))))

theorem State.toSync_frame (s : State) (n : SyncState) : s.sameBut [.beat, .evt] (s.toSync n) :=
  State.sameBut_ifSelfElse ((State.sameBut_beat s _).andThen (State.sameBut_raise _ _ _ _))

theorem State.toAcquiring_frame (s : State) : s.sameBut [.beat, .evt] s.toAcquiring :=
  State.sameBut_within (by decide) ((State.sameBut_beat s _).andThen (State.toSync_frame _ _))

theorem State.toHoldover_frame (s : State) : s.sameBut [.beat, .evt] s.toHoldover :=
  State.sameBut_ifElseSelf (State.sameBut_within (by decide) ((State.sameBut_beat s _).andThen (State.toSync_frame _ _)))

theorem State.applyStep_frame (s : State) (d : Int) : s.sameBut [.beat, .evt, .regs] (s.applyStep d) :=
  State.sameBut_within (by decide) ((((State.sameBut_beat s _).andThen (State.moveTime_frame _ _)).andThen (State.toAcquiring_frame _)).andThen
    (State.sameBut_raise _ _ _ _))

theorem State.firstTime_frame (s : State) (t : Nat) : s.sameBut [.beat, .evt, .regs] (s.firstTime t) := by
  have hdue (s : State) : s.sameBut [.beat] s.firstDue := State.sameBut_foldl _ (fun t _ => State.addDue_frame t _) _ s
  have hhorizon (s : State) : s.sameBut [.regs, .evt] s.firstHorizon :=
    State.sameBut_foldl _ (fun t _ => (State.setEnt_frame t _ _).andThen (State.sameBut_raise _ _ _ _)) _ s
  exact State.sameBut_within (by decide) (((((State.sameBut_beat s _).andThen (hdue _)).andThen (State.settleDue_frame _ _)).andThen
    (State.toAcquiring_frame _)).andThen (hhorizon _))

theorem State.smallMeas_frame (s : State) (o : Int) : s.sameBut [.beat, .evt] (s.smallMeas o) := by
  unfold State.smallMeas
  dsimp only
  split
  · exact State.sameBut_within (by decide) ((State.sameBut_beat s _).andThen (State.sameBut_ite
      ((State.sameBut_beat _ _).andThen (State.sameBut_ifElseSelf (State.toSync_frame _ _))) (State.sameBut_beat _ _)))
  · exact State.sameBut_within (by decide) ((State.sameBut_beat s _).andThen (State.sameBut_ifSelfElse (State.toAcquiring_frame _)))
  · exact State.sameBut_within (by decide) ((State.sameBut_beat s _).andThen (State.toAcquiring_frame _))

theorem State.largeMeas_frame (s : State) (o : Int) : s.sameBut [.beat, .evt, .regs] (s.largeMeas o) :=
  State.sameBut_within (by decide) (State.sameBut_ite (State.sameBut_beat s _) ((State.sameBut_beat s _).andThen (State.sameBut_ifSelfElse
    (State.sameBut_ite (State.applyStep_frame _ _)
      (((State.sameBut_beat _ _).andThen (State.toSync_frame _ _)).andThen (State.sameBut_raise _ _ _ _))))))

theorem State.noteMeas_frame (s : State) (o : Int) : s.sameBut [.beat] (s.noteMeas o) :=
  State.sameBut_beat s _

/-- A PPS edge with SRC = 1. -/
theorem changesOnly_ppsEdge : changesOnly [.beat] .ppsEdge :=
  changesOnly_of (by decide) (fun _ => rfl) fun s => State.sameBut_ifSelfElse
    (((State.noteMeas_frame s _).andThen (State.sameBut_set _ _ _)).andThen (State.sameBut_ite (State.firstTime_frame _ _)
      (((State.moveTime_frame _ _).andThen (State.smallMeas_frame _ _)).andThen (State.sameBut_beat _ _))))

theorem changesOnly_ptpMeasurement (n : Nat) : changesOnly [.beat] (.ptpMeasurement n) :=
  changesOnly_of (by decide) (fun _ => rfl) fun s => State.sameBut_ifSelfElse ((State.noteMeas_frame s _).andThen
    (State.sameBut_ite (State.firstTime_frame _ _) (State.sameBut_ite (State.smallMeas_frame _ _) (State.largeMeas_frame _ _))))

/-! Gates, connections and cancel holds. -/

theorem State.markSample_frame (s : State) : s.sameBut [.ts] s.markSample :=
  State.sameBut_foldl _ (fun t _ => State.sameBut_ifElseSelf (State.sameBut_ts t _)) _ s

theorem State.settleGates_frame (s : State) : s.sameBut [.ts] s.settleGates :=
  State.sameBut_within (by decide) ((State.sameBut_ts s _).andThen (State.markSample_frame _))

theorem State.gateBoundary_frame (s : State) : s.sameBut [.now, .beat, .ts] s.gateBoundary := by
  unfold State.gateBoundary
  split
  · exact State.sameBut_refl _ s
  · exact State.sameBut_within (by decide) (State.sameBut_ifSelfElse (State.sameBut_ite (State.settleGates_frame s)
      ((State.sameBut_reach s _).andThen (State.settleGates_frame _))))

theorem State.fillTokens_frame (s : State) : s.sameBut [.ts] s.fillTokens :=
  State.sameBut_ts s _

theorem State.shaperReady_frame (s : State) : s.sameBut [.now, .beat, .ts] s.shaperReady := by
  unfold State.shaperReady
  dsimp only
  split
  · exact State.sameBut_within (by decide) (State.fillTokens_frame s)
  · exact State.sameBut_within (by decide) ((State.fillTokens_frame s).andThen (State.sameBut_ifSelfElse
      ((State.sameBut_reach _ _).andThen (State.fillTokens_frame _))))

theorem State.setConn_frame (s : State) (k : Nat) (c : TxConn) : s.sameBut [.sko] (s.setConn k c) :=
  State.sameBut_sko s _

theorem State.setRx_frame (s : State) (k : Nat) (c : RxConn) : s.sameBut [.sko] (s.setRx k c) :=
  State.sameBut_sko s _

theorem State.paceRelease_frame (s : State) (k : Nat) : s.sameBut ([.now, .beat] ++ reports) (s.paceRelease k) := by
  unfold State.paceRelease
  split
  · exact State.sameBut_refl _ s
  · exact State.sameBut_ifSelfElse ((State.sameBut_reach s _).andThen (State.pump_frame _ _))

theorem State.rnrWait_frame (s : State) (k : Nat) : s.sameBut ([.now, .beat] ++ reports) (s.rnrWait k) := by
  unfold State.rnrWait
  split
  · exact State.sameBut_refl _ s
  · exact State.sameBut_within (by decide) (State.sameBut_ifElseSelf
      (((State.sameBut_reach s _).andThen (State.setConn_frame _ _ _)).andThen (State.pump_frame _ _)))

theorem State.freeCancel_frame (s : State) (src reqId : Nat) : s.sameBut [.sko, .regs] (s.freeCancel src reqId) :=
  (State.sameBut_sko s _).andThen (State.sameBut_set _ _ _)

/-- A waiting control packet goes to its queue or stays waiting. -/
theorem State.flushCtl_frame (c : Nat) (l : List (Nat × TxBody)) : ∀ s : State, s.sameBut reports (s.flushCtl c l) := by
  induction l with
  | nil => exact fun s => State.sameBut_refl _ s
  | cons e r ih =>
    exact fun s => State.sameBut_within (by decide) (State.sameBut_ite ((State.enqueue_frame s _ _ _).andThen (ih _))
      ((State.sameBut_sko s _).andThen (ih _)))

theorem State.pumpCtl_frame (s : State) (c : Nat) : s.sameBut reports (s.pumpCtl c) :=
  State.sameBut_within (by decide) (State.sameBut_ifSelfElse ((State.sameBut_sko s _).andThen (State.flushCtl_frame _ _ _)))

theorem State.sendCtl_frame (s : State) (c : Nat) (b : TxBody) : s.sameBut reports (s.sendCtl c b) :=
  State.sameBut_within (by decide) (((State.sameBut_sko s _).andThen (State.pumpCtl_frame _ _)).andThen (State.sameBut_bump _ _ _))

theorem State.sendAck_frame (s : State) (k syndrome code opId : Nat) :
    s.sameBut ([.freeCtr] ++ reports) (s.sendAck k syndrome code opId) := by
  unfold State.sendAck
  split
  · exact State.sameBut_refl _ s
  · exact State.sameBut_within (by decide) (((State.sameBut_freeCtr s _).andThen (State.setRx_frame _ _ _)).andThen (State.sendCtl_frame _ _ _))

theorem State.ackTimer_frame (s : State) (k : Nat) : s.sameBut ([.now, .beat, .freeCtr] ++ reports) (s.ackTimer k) := by
  unfold State.ackTimer
  split
  · exact State.sameBut_refl _ s
  · dsimp only
    split
    · exact State.sameBut_refl _ s
    · exact State.sameBut_within (by decide) (((State.sameBut_reach s _).andThen (State.setRx_frame _ _ _)).andThen (State.sendAck_frame _ _ _ _ _))

theorem State.penaltyOver_frame (s : State) (k path : Nat) : s.sameBut [.now, .beat, .sko] (s.penaltyOver k path) := by
  unfold State.penaltyOver
  split
  · exact State.sameBut_refl _ s
  · exact State.sameBut_ifSelfElse ((State.sameBut_reach s _).andThen (State.setConn_frame _ _ _))

theorem State.connIdle_frame (s : State) (k : Nat) (incoming : Bool) : s.sameBut [.now, .beat, .sko, .regs] (s.connIdle k incoming) := by
  have hend (x : SkoSt) (t : Nat) : s.sameBut [.now, .beat, .sko, .regs] (State.countConns { s.reach t with sko := x }) :=
    ((State.sameBut_reach s t).andThen (State.sameBut_sko _ x)).andThen (State.sameBut_set _ _ _)
  unfold State.connIdle
  split <;> split
  · exact State.sameBut_ifElseSelf (hend _ _)
  · exact State.sameBut_refl _ s
  · exact State.sameBut_ifElseSelf (hend _ _)
  · exact State.sameBut_refl _ s

/-! Stalls and rehearsals. -/

theorem State.setMigState_frame (s : State) (k st : Nat) : s.sameBut [.regs] (s.setMigState k st) :=
  State.sameBut_within (by decide) ((State.sameBut_set s _ _).andThen (State.sameBut_set _ _ _))

theorem State.creditStall_frame (s : State) (t : Nat) : s.sameBut [.now, .beat, .rings, .regs, .evt] (s.creditStall t) := by
  unfold State.creditStall
  split
  · exact State.sameBut_refl _ s
  · split
    · exact State.sameBut_refl _ s
    · dsimp only
      split
      · exact (((State.sameBut_reach s _).andThen (State.sameBut_setRing _ _ _)).andThen (State.sameBut_setBit _ _ _)).andThen
          (State.sameBut_raise _ _ _ _)
      · exact State.sameBut_refl _ s

theorem State.setMovRun_frame (s : State) (n : Nat) (r : Option MovRun) : s.sameBut [.mov, .regs] (s.setMovRun n r) :=
  (State.sameBut_setMovCh s _ _).andThen (State.sameBut_set _ _ _)

theorem State.movStall_frame (s : State) (n : Nat) : s.sameBut [.now, .beat, .mov, .regs, .evt] (s.movStall n) := by
  unfold State.movStall
  split
  · exact State.sameBut_ifElseSelf
      (((State.sameBut_reach s _).andThen (State.setMovRun_frame _ _ _)).andThen (State.sameBut_raise _ _ _ _))
  · exact State.sameBut_refl _ s

theorem State.setScript_frame (s : State) (n : Nat) (v : Option Script) : s.sameBut [.ctl, .regs] (s.setScript n v) :=
  (State.sameBut_ctl s _).andThen (State.sameBut_set _ _ _)

theorem State.countFlights_frame (s : State) : s.sameBut [.regs, .sko] s.countFlights :=
  (State.sameBut_set s _ _).andThen (State.sameBut_ifElseSelf (State.sameBut_sko _ _))

theorem State.endSilent_frame (s : State) (n : Nat) : s.sameBut [.sko, .regs] (s.endSilent n) :=
  State.sameBut_foldl _ (fun t _ => State.sameBut_within (by decide) ((State.sameBut_sko t _).andThen (State.countFlights_frame _))) _ s

theorem State.rehearsalEnd_frame (s : State) (n : Nat) : s.sameBut ([.now, .beat, .ctl] ++ reports) (s.rehearsalEnd n) := by
  unfold State.rehearsalEnd
  split
  · exact State.sameBut_refl _ s
  · exact State.sameBut_within (by decide) ((((State.sameBut_reach s _).andThen (State.setScript_frame _ _ _)).andThen
      (State.sameBut_raise _ _ _ _)).andThen (State.sameBut_ifElseSelf (State.endSilent_frame _ _)))

theorem changesOnly_cancelHoldExpiry (src reqId : Nat) : changesOnly [.now, .beat] (.cancelHoldExpiry src reqId) := by
  intro s t e
  refine State.sameBut_mono (State.live_frame (xs := [.now, .beat, .sko, .regs]) ?_ e) (by decide)
  split
  · exact (State.sameBut_reach s _).andThen (State.freeCancel_frame _ _ _)
  · exact State.sameBut_refl _ s

/-- Settles O53. -/
theorem clockCommandsChangeOnlyTheBeat : Obligations.ClockCommandsChangeOnlyTheBeat := by
  refine ⟨List.forall_mem_cons.mpr ⟨?_, List.forall_mem_cons.mpr ⟨?_, List.forall_mem_cons.mpr ⟨?_, List.forall_mem_singleton.mpr ?_⟩⟩⟩,
    fun n => ⟨?_, changesOnly_ptpMeasurement n⟩, ?_,
    List.forall_mem_cons.mpr ⟨?_, List.forall_mem_cons.mpr ⟨?_, List.forall_mem_cons.mpr ⟨?_, List.forall_mem_singleton.mpr ?_⟩⟩⟩,
    fun a b => ⟨?_, ?_, changesOnly_cancelHoldExpiry a b, ?_⟩, fun a b c => ?_, fun a b c => ?_, fun n => ⟨?_, ?_, ?_, ?_⟩⟩
  · exact changesOnly_of (by decide) (fun _ => rfl) fun s => State.sameBut_foldl _ (fun t n => State.disarm_frame t n) _ s
  · exact changesOnly_of (by decide) (fun _ => rfl) fun s => State.sameBut_ifElseSelf (State.sameBut_beat s _)
  · exact changesOnly_of (by decide) (fun _ => rfl) fun s => State.sameBut_ifElseSelf (State.applyStep_frame s _)
  · exact changesOnly_ppsEdge
  · exact changesOnly_of_unit (by decide) (fun _ => rfl) fun s => State.disarm_frame s n
  · exact changesOnly_of (by decide) (fun _ => rfl) fun s =>
      State.sameBut_ite (State.sameBut_port s _) ((State.sameBut_port s _).andThen (State.toHoldover_frame _))
  · exact changesOnly_of (by decide) (fun _ => rfl) fun s =>
      State.sameBut_ifElseSelf ((State.sameBut_reach s _).andThen (State.toHoldover_frame _))
  · exact changesOnly_of (by decide) (fun _ => rfl) fun s =>
      State.sameBut_ifElseSelf ((State.sameBut_reach s _).andThen (State.toSync_frame _ _))
  · exact changesOnly_of (by decide) (fun _ => rfl) State.gateBoundary_frame
  · exact changesOnly_of (by decide) (fun _ => rfl) State.shaperReady_frame
  · exact changesOnly_of_unit (by decide) (fun _ => rfl) fun s => State.paceRelease_frame s _
  · exact changesOnly_of_unit (by decide) (fun _ => rfl) fun s => State.rnrWait_frame s _
  · exact changesOnly_of_unit (by decide) (fun _ => rfl) fun s => State.ackTimer_frame s _
  · exact changesOnly_of_unit (by decide) (fun _ => rfl) fun s => State.penaltyOver_frame s _ _
  · exact changesOnly_of_unit (by decide) (fun _ => rfl) fun s => State.connIdle_frame s _ _
  · exact changesOnly_of_unit (by decide) (fun _ => rfl) fun s => State.sameBut_ifElseSelf
      (((State.sameBut_reach s _).andThen (State.setMigState_frame _ _ _)).andThen (State.sameBut_raise _ _ _ _))
  · exact changesOnly_of_unit (by decide) (fun _ => rfl) fun s => State.creditStall_frame s _
  · exact changesOnly_of_unit (by decide) (fun _ => rfl) fun s => State.rehearsalEnd_frame s _
  · exact changesOnly_of_unit (by decide) (fun _ => rfl) fun s => State.movStall_frame s _

end Sys2Proof.Machine
end

section
/-! What the commands of the port, of connections and of carriers leave as it was (R330 to R350, R359 to R367, R394, R426). The clock moves to
the instant of an expiry (assumption log 7). -/

namespace Sys2Proof.Machine

/-! The port. -/

theorem State.skoLinkUp_frame (s : State) : s.sameBut [.regs, .sko] s.skoLinkUp :=
  (State.sameBut_set s _ _).andThen (State.sameBut_sko _ _)

theorem State.setLink_frame (s : State) (n : Nat) : s.sameBut [.port, .regs, .sko, .evt] (s.setLink n) :=
  State.sameBut_within (by decide) (State.sameBut_ifSelfElse (((((State.sameBut_ifElseSelf (State.sameBut_port s _)).andThen
    (State.sameBut_set _ _ _)).andThen (State.sameBut_set _ _ _)).andThen
    (State.sameBut_ifElseSelf ((State.sameBut_set _ _ _).andThen (State.skoLinkUp_frame _)))).andThen (State.sameBut_raise _ _ _ _)))

theorem State.portEnable_frame (s : State) : s.sameBut [.port, .regs, .sko, .evt] s.portEnable :=
  State.sameBut_within (by decide) (State.sameBut_ifSelfElse
    (((State.sameBut_setBit s _ _).andThen (State.sameBut_port _ _)).andThen (State.setLink_frame _ _)))

theorem State.setLanes_frame (s : State) (m : Nat) : s.sameBut [.regs] (s.setLanes m) :=
  State.sameBut_set s _ _

theorem State.linkChange_frame (s : State) (st lanes peer : Nat) : s.sameBut [.port, .regs, .sko, .evt] (s.linkChange st lanes peer) := by
  have hlink (u : State) (n m : Nat) : u.sameBut [.port, .regs, .sko, .evt] ((u.setLink n).setLanes m) :=
    State.sameBut_within (by decide) ((State.setLink_frame u n).andThen (State.setLanes_frame _ m))
  have hmode : s.sameBut [.port, .regs, .sko, .evt] (match anMode s.port.adv peer with
      | some m => ({ s with port := { s.port with mode := m } }.setLink st).setLanes (lanes &&& modeLanes m)
      | none => s) := by
    split
    · exact State.sameBut_within (by decide) ((State.sameBut_port s _).andThen (hlink _ _ _))
    · exact State.sameBut_refl _ s
  exact State.sameBut_within (by decide) (State.sameBut_ifSelfElse (State.sameBut_ite (State.sameBut_ifElseSelf (hlink s _ _))
    (State.sameBut_ite hmode (State.sameBut_ifSelfElse (hlink s _ _)))))

theorem State.pfcReceived_frame (s : State) (qs : List (Nat × Nat)) : s.sameBut [.port, .ts] (s.pfcReceived qs) :=
  (State.sameBut_foldl _ (fun t _ => State.sameBut_ifElseSelf (State.sameBut_port t _)) _ s).andThen (State.markSample_frame _)

theorem State.fecWindow_frame (s : State) (corrected uncorrected : Nat) :
    s.sameBut [.regs, .port, .evt] (s.fecWindow corrected uncorrected) :=
  State.sameBut_within (by decide) (((State.sameBut_bump s _ _).andThen (State.sameBut_bump _ _ _)).andThen (State.sameBut_ite
    (State.sameBut_ifSelfElse ((State.sameBut_port _ _).andThen (State.sameBut_raise _ _ _ _))) (State.sameBut_port _ _)))

theorem State.sendPfc_frame (s : State) (c q : Nat) : s.sameBut [.port] (s.sendPfc c q) :=
  State.sameBut_port s _

theorem State.setShare_frame (s : State) (c n : Nat) : s.sameBut [.port] (s.setShare c n) := by
  have hsend (u : State) (q : Nat) (x : PortSt) : u.sameBut [.port] { u.sendPfc c q with port := x } :=
    State.sameBut_trans (State.sendPfc_frame u c q) (State.sameBut_port _ x)
  exact State.sameBut_trans (State.sameBut_port s _) (State.sameBut_ifElseSelf
    (State.sameBut_within (by decide) (State.sameBut_ite (State.sameBut_ifElseSelf (hsend _ _ _)) (State.sameBut_ifElseSelf (hsend _ _ _)))))

theorem State.pfcExpiry_frame (s : State) (c : Nat) : s.sameBut [.now, .beat, .port] (s.pfcExpiry c) :=
  State.sameBut_ifSelfElse ((State.sameBut_reach s _).andThen (State.sameBut_port _ _))

theorem State.pfcRefresh_frame (s : State) (c n : Nat) : s.sameBut [.now, .beat, .port] (s.pfcRefresh c n) :=
  State.sameBut_within (by decide) (State.sameBut_ifSelfElse (((State.sameBut_reach s _).andThen (State.setShare_frame _ _ _)).andThen
    (State.sameBut_ifSelfElse ((State.sendPfc_frame _ _ _).andThen (State.sameBut_port _ _)))))

/-! The port's next frame. -/

theorem State.takePn_frame (s : State) : s.sameBut [.regs, .port, .evt] s.takePn.2 :=
  State.sameBut_within (by decide) (State.sameBut_iteSnd
    ((State.sameBut_bump s _ _).andThen
      (State.sameBut_ifSelfElse ((State.sameBut_port _ _).andThen (State.sameBut_raise _ _ _ _))))
    ((State.sameBut_ite (State.sameBut_port s _) (State.sameBut_setReg s _ _)).andThen
      (State.sameBut_ifElseSelf (State.sameBut_raise _ _ _ _))))

theorem State.expressLate_frame (s : State) (soj : Nat) (f : QFrame) : s.sameBut reports (s.expressLate soj f) :=
  State.sameBut_within (by decide) (State.sameBut_ifElseSelf ((State.sameBut_bump s _ _).andThen
    (State.sameBut_ifSelfElse ((State.sameBut_ts _ _).andThen (State.sameBut_raise _ _ _ _)))))

/-- The packet number of a frame that is protected, if one is left. -/
theorem State.framePn_frame (s : State) (c : Prop) [Decidable c] :
    s.sameBut [.regs, .port, .evt] (if c then (match s.takePn with | (some n, s) => (some (some n), s) | (none, s) => (none, s))
      else (some none, s) : Option (Option Nat) × State).2 := by
  have h := State.takePn_frame s
  refine State.sameBut_within (by decide) (State.sameBut_iteSnd (xs := [.regs, .port, .evt]) ?_ (State.sameBut_refl [] s))
  split <;> (rename_i heq; rw [heq] at h; exact h)

theorem State.sendFrame_frame (s : State) (c : Nat) (f : QFrame) (rest : List QFrame) :
    s.sameBut ([.port] ++ reports) (s.sendFrame c f rest) := by
  have hpn := (State.sameBut_ts s { s.ts with queue := smPut (fun _ => []) s.ts.queue c rest }).andThen (State.framePn_frame _
    ((s.bit F.PORT_SEC_CFG_EN && !(f.body.isPtp && s.bit F.PORT_PTP_CFG_PTP_BYPASS)) = true))
  unfold State.sendFrame
  dsimp only
  split
  · exact State.sameBut_within (by decide) hpn
  · exact State.sameBut_within (by decide) ((((hpn.andThen (State.sameBut_ts _ _)).andThen (State.sameBut_bump _ _ _)).andThen
      (State.sameBut_ifElseSelf (State.expressLate_frame _ _ _))).andThen (State.sameBut_port _ _))

theorem State.pumpClass_frame (s : State) (c : Nat) : s.sameBut reports (s.pumpClass c) :=
  State.sameBut_trans (State.pumpCtl_frame s c) (State.sameBut_foldl _ (fun t k => State.pump_frame t k) _ _)

theorem State.drrPick_frame (s : State) : s.sameBut [.ts] s.drrPick.2 := by
  unfold State.drrPick
  rw [apply_ite Prod.snd]
  exact State.sameBut_ifElseSelf (State.sameBut_ts s _)

theorem State.txSlot_frame (s : State) : s.sameBut ([.now, .beat, .port] ++ reports) s.txSlot := by
  have hgo (u : State) (c : Nat) : u.sameBut ([.port] ++ reports) (match u.tsQueue c with
      | [] => u
      | f :: rest => (u.sendFrame c f rest).pumpClass c) := by
    split
    · exact State.sameBut_refl _ u
    · exact State.sameBut_within (by decide) ((State.sendFrame_frame u _ _ _).andThen (State.pumpClass_frame _ _))
  have hpick (u : State) : u.sameBut ([.port] ++ reports) (match u.drrPick with
      | (some c, s) => (match s.tsQueue c with
        | [] => s
        | f :: rest => (s.sendFrame c f rest).pumpClass c)
      | (none, s) => s) := by
    have h := State.drrPick_frame u
    split <;> (rename_i heq; rw [heq] at h)
    · exact State.sameBut_within (by decide) (h.andThen (hgo _ _))
    · exact State.sameBut_within (by decide) h
  exact State.sameBut_within (by decide) (State.sameBut_ifSelfElse (((State.sameBut_reach s _).andThen (State.fillTokens_frame _)).andThen
    (State.sameBut_ite ((State.sameBut_ts _ _).andThen (hgo _ 7)) (hpick _))))

/-! Connections. -/

theorem State.rateIncrease_frame (s : State) (k : Nat) : s.sameBut reports (s.rateIncrease k) := by
  unfold State.rateIncrease
  split
  · exact State.sameBut_refl _ s
  · exact State.sameBut_within (by decide) (State.sameBut_ifSelfElse (State.sameBut_ite (State.setConn_frame s _ _)
      ((State.setConn_frame s _ _).andThen (State.pump_frame _ _))))

theorem State.onCnp_frame (s : State) (k path : Nat) : s.sameBut [.regs, .sko] (s.onCnp k path) := by
  unfold State.onCnp
  split
  · exact State.sameBut_refl _ s
  · exact State.sameBut_ifSelfElse ((State.sameBut_bump s _ _).andThen (State.setConn_frame _ _ _))

/-! Carriers. -/

theorem State.setCar_frame (s : State) (c : Nat) (v : CarrierSt) : s.sameBut [.fl] (s.setCar c v) := by
  intro p hp
  cases p with
  | fl => exact absurd (.head _) hp
  | _ => rfl

theorem State.flShow_frame (s : State) : s.sameBut [.regs] s.flShow :=
  State.sameBut_within (by decide) (((State.sameBut_set s _ _).andThen (State.sameBut_set _ _ _)).andThen (State.sameBut_set _ _ _))

theorem State.setCarState_frame (s : State) (c st : Nat) : s.sameBut [.regs, .evt] (s.setCarState c st) :=
  State.sameBut_within (by decide) (State.sameBut_ifSelfElse ((((State.sameBut_set s _ _).andThen (State.flShow_frame _)).andThen
    (State.sameBut_set _ _ _)).andThen (State.sameBut_raise _ _ _ _)))

theorem State.carResult_frame (s : State) (c r : Nat) : s.sameBut [.regs] (s.carResult c r) :=
  State.sameBut_set s _ _

/-- A command of FL_CAR_CTRL changes its result beside what it does where it is taken (R332). -/
theorem State.carCtrl_frame {xs : List Part} {f : State → State} (s : State) (c : Nat) (states : List Nat)
    (h : ∀ t : State, t.sameBut xs (f t)) : s.sameBut (.regs :: xs) (s.carCtrl c states f) :=
  State.sameBut_mono (State.sameBut_ite (State.carResult_frame s _ _)
    (State.sameBut_ite ((State.carResult_frame s _ _).andThen (h _)) (State.carResult_frame s _ _)))
    (fun p hp => by simpa [or_comm] using hp)

theorem State.carRun_frame (s : State) (c k : Nat) : s.sameBut [.fl] (s.carRun c k) :=
  State.setCar_frame s _ _

theorem State.carGo_frame (s : State) (c : Nat) : s.sameBut [.regs, .evt] (s.carGo c) :=
  State.setCarState_frame s _ _

theorem State.mirrorHealth_frame (s : State) (c : Nat) : s.sameBut [.fl] (s.mirrorHealth c) :=
  State.setCar_frame s _ _

theorem State.judgeSpare_frame (s : State) (c : Nat) : s.sameBut [.fl, .evt, .regs] (s.judgeSpare c) :=
  State.sameBut_within (by decide) ((State.sameBut_ifElseSelf ((State.setCar_frame s _ _).andThen (State.sameBut_raise _ _ _ _))).andThen
    (State.sameBut_ifElseSelf (((State.setCar_frame _ _ _).andThen (State.setCarState_frame _ _ _)).andThen
      (State.sameBut_raise _ _ _ _))))

theorem State.flJudge_frame (s : State) (c : Nat) : s.sameBut [.fl, .evt, .regs] (s.flJudge c) :=
  State.sameBut_within (by decide) (((((State.sameBut_set s _ _).andThen (State.sameBut_set _ _ _)).andThen (State.flShow_frame _)).andThen
    (State.sameBut_ifElseSelf (State.sameBut_raise _ _ _ _))).andThen (State.judgeSpare_frame _ _))

theorem State.sanitiseDone_frame (s : State) (c residue : Nat) : s.sameBut [.fl, .evt, .regs] (s.sanitiseDone c residue) :=
  State.sameBut_within (by decide) (State.sameBut_ifSelfElse ((((State.setCar_frame s _ _).andThen (State.setCarState_frame _ _ _)).andThen
    (State.flJudge_frame _ _)).andThen (State.sameBut_ifSelfElse (State.sameBut_raise _ _ _ _))))

theorem State.classDone_frame (s : State) (c cls : Nat) (offsets : List Nat) (better : Bool) :
    s.sameBut [.fl, .regs, .evt] (s.classDone c cls offsets better) :=
  State.sameBut_ifElseSelf (((State.setCar_frame s _ _).andThen (State.sameBut_bump _ _ _)).andThen
    (State.sameBut_ifSelfElse (State.sameBut_raise _ _ _ _)))

theorem State.carInsert_frame (s : State) (c : Nat) (kept : Bool) (model : Nat) (owner : List Byte) (tier : Nat)
    (blocks : List (Nat × List Byte)) : s.sameBut [.fl, .regs, .evt] (s.carInsert c kept model owner tier blocks) :=
  State.sameBut_ifSelfElse ((State.setCar_frame s _ _).andThen (State.sameBut_ifElseSelf (State.setCarState_frame _ _ _)))

/-- What a socket does to a node that is held reaches the carriers alone. -/
theorem State.carPhysical_frame {xs : List Part} {s t : State} (h : s.sameBut xs t) (hfl : Part.fl ∈ xs) :
    s.sameBut xs (s.carPhysical t) := by
  unfold State.carPhysical
  split
  · intro p hp
    cases p with
    | fl => exact absurd hfl hp
    | freeCtr => exact h .freeCtr hp
    | _ => rfl
  · exact h

/-- A command of a socket changes what its effect changes, and what the report of its events changes. -/
theorem State.told_unit_frame {xs : List Part} {s t u : State} {b : Bool} (h : s.sameBut xs u) (e : s.told (onUnit b u) = .next t) :
    s.sameBut (xs ++ reports) t := by
  cases b with
  | true => cases e; exact State.done_frame h
  | false => cases e

theorem changesOnly_carrierInsert (c : Nat) (kept : Bool) (model : Nat) (owner : List Byte) (tier : Nat) (blocks : List (Nat × List Byte)) :
    changesOnly [.fl] (.carrierInsert c kept model owner tier blocks) :=
  fun s _ e => State.sameBut_mono
    (State.told_unit_frame (State.carPhysical_frame (State.carInsert_frame s c kept model owner tier blocks) (by decide)) e) (by decide)

/-- Settles O54. -/
theorem portAndCarrierCommandsChangeOnlyTheirUnit : Obligations.PortAndCarrierCommandsChangeOnlyTheirUnit := by
  refine ⟨List.forall_mem_cons.mpr ⟨?_, List.forall_mem_singleton.mpr ?_⟩, fun a b c => ?_, fun q => ?_, fun a b => ?_, ?_, fun a => ?_,
    fun a b => ?_, ?_, fun a b => ?_, fun a b c => ?_, ?_, fun k => ⟨?_, ?_, ?_, ?_, ?_, ?_, ?_⟩, fun k r => ?_, fun k a b c => ?_,
    changesOnly_carrierInsert⟩
  · exact changesOnly_of (by decide) (fun _ => rfl) State.portEnable_frame
  · exact changesOnly_of (by decide) (fun _ => rfl) fun s =>
      ((State.sameBut_setBit s _ _).andThen (State.setLink_frame _ _)).andThen (State.setLanes_frame _ _)
  · exact changesOnly_of (by decide) (fun _ => rfl) fun s => State.linkChange_frame s a b c
  · exact changesOnly_of (by decide) (fun _ => rfl) fun s => State.sameBut_ifElseSelf (State.pfcReceived_frame s q)
  · exact changesOnly_of (by decide) (fun _ => rfl) fun s => State.fecWindow_frame s a b
  · exact changesOnly_of (by decide) (fun _ => rfl) State.txSlot_frame
  · exact changesOnly_of_unit (by decide) (fun _ => rfl) fun s => State.pfcExpiry_frame s a
  · exact changesOnly_of_unit (by decide) (fun _ => rfl) fun s => State.pfcRefresh_frame s a b
  · exact changesOnly_of (by decide) (fun _ => rfl) State.settleFlags_frame
  · exact changesOnly_of_unit (by decide) (fun _ => rfl) fun s => State.rateIncrease_frame s _
  · exact changesOnly_of_unit (by decide) (fun _ => rfl) fun s => (State.sameBut_bump s _ _).andThen (State.onCnp_frame _ _ _)
  · exact changesOnly_of (by decide) (fun _ => rfl) State.sameBut_telSnap
  · exact changesOnly_of_unit (by decide) (fun _ => rfl) fun s => State.carCtrl_frame s k _ fun t => State.sameBut_ite (State.carResult_frame t _ _)
      (State.sameBut_ite (State.carResult_frame t _ _) (State.carRun_frame t _ _))
  · exact changesOnly_of_unit (by decide) (fun _ => rfl) fun s => State.carCtrl_frame s k _ fun t => State.sameBut_ite (State.carResult_frame t _ _)
      ((State.setCar_frame t _ _).andThen (State.carGo_frame _ _))
  · exact changesOnly_of_unit (by decide) (fun _ => rfl) fun s => State.carCtrl_frame s k _ fun t =>
      (State.carRun_frame t _ _).andThen (State.setCarState_frame _ _ _)
  · exact changesOnly_of_unit (by decide) (fun _ => rfl) fun s => State.sameBut_ifSelfElse
      (((State.mirrorHealth_frame s k).andThen (State.carRun_frame _ _ _)).andThen (State.setCarState_frame _ _ _))
  · exact changesOnly_of_unit (by decide) (fun _ => rfl) fun s => State.carCtrl_frame s k _ fun t => State.setCarState_frame t _ _
  · exact changesOnly_of_unit (by decide) (fun _ => rfl) fun s => State.sameBut_ifSelfElse
      ((State.setCar_frame s _ _).andThen (State.mirrorHealth_frame _ _))
  · exact changesOnly_of_unit (by decide) (fun _ => rfl) fun s => State.sameBut_ifSelfElse ((State.setCar_frame s _ _).andThen
      (State.sameBut_ifSelfElse ((State.sameBut_setBit _ _ _).andThen (State.sameBut_raise _ _ _ _))))
  · exact changesOnly_of_unit (by decide) (fun _ => rfl) fun s => State.sanitiseDone_frame s k r
  · exact changesOnly_of_unit (by decide) (fun _ => rfl) fun s => State.classDone_frame s k a b c

end Sys2Proof.Machine
end

section
/-! What the commands of tiles, inlay units, stacks, index slots, tables and grammars leave as it was (R147, R155 to R171, R178, R197, R199, R228,
R275, R319). The clock moves to the instant of a hang (assumption log 7). -/

namespace Sys2Proof.Machine

/-! Updates of one part. -/

theorem State.setTile_frame (s : State) (t : Nat) (v : TileSt) : s.sameBut [.tiles] (s.setTile t v) := by
  intro p hp
  cases p with
  | tiles => exact absurd (.head _) hp
  | _ => rfl

theorem State.sameBut_ls (s : State) (x : LsSt) : s.sameBut [.ls] { s with ls := x } := by
  intro p hp
  cases p with
  | ls => exact absurd (.head _) hp
  | _ => rfl

theorem State.sameBut_gw (s : State) (x : GwSt) : s.sameBut [.gw] { s with gw := x } := by
  intro p hp
  cases p with
  | gw => exact absurd (.head _) hp
  | _ => rfl

theorem State.sameBut_tbl (s : State) (x : TblSt) : s.sameBut [.tbl] { s with tbl := x } := by
  intro p hp
  cases p with
  | tbl => exact absurd (.head _) hp
  | _ => rfl

theorem State.sameBut_txt (s : State) (x : TxtSt) : s.sameBut [.txt] { s with txt := x } := by
  intro p hp
  cases p with
  | txt => exact absurd (.head _) hp
  | _ => rfl

theorem State.sameBut_tier (s : State) (x : TierSt) : s.sameBut [.tier] { s with tier := x } := by
  intro p hp
  cases p with
  | tier => exact absurd (.head _) hp
  | _ => rfl

theorem State.sameBut_inl (s : State) (x : SMap InlSt) : s.sameBut [.inl] { s with inl := x } := by
  intro p hp
  cases p with
  | inl => exact absurd (.head _) hp
  | _ => rfl

theorem State.setStk_frame (s : State) (k : Nat) (v : StkSt) : s.sameBut [.stk] (s.setStk k v) := by
  intro p hp
  cases p with
  | stk => exact absurd (.head _) hp
  | _ => rfl

theorem State.setEcc_frame (s : State) (k v : Nat) : s.sameBut [.ecc] (s.setEcc k v) := by
  intro p hp
  cases p with
  | ecc => exact absurd (.head _) hp
  | _ => rfl

theorem State.raiseAs_frame (s : State) (rh code source : Nat) (detail : List Nat) (tenant reqId : Nat) :
    s.sameBut [.evt] (s.raiseAs rh code source detail tenant reqId) :=
  State.sameBut_evt s _

/-! Tiles, index slots, tables and grammars. -/

theorem State.tileResume_frame (s : State) (t : Nat) : s.sameBut [.tiles, .regs] (s.tileResume t) := by
  unfold State.tileResume
  dsimp only
  split
  · exact State.sameBut_within (by decide) ((State.sameBut_setBit s _ _).andThen
      (State.sameBut_ifElseSelf ((State.setTile_frame _ _ _).andThen (State.sameBut_set _ _ _))))
  · exact State.sameBut_within (by decide) (State.sameBut_setBit s _ _)

/-- The three fields of a control register that a disabled slot, table or grammar shows. -/
theorem State.showOff_frame (s : State) (en state reason : RegField) :
    s.sameBut [.regs] (((s.setBit en false).set state 0).set reason 0) :=
  State.sameBut_within (by decide) (((State.sameBut_setBit s _ _).andThen (State.sameBut_set _ _ _)).andThen (State.sameBut_set _ _ _))

/-! Migration slots. -/

theorem State.setMig_frame (s : State) (k : Nat) (m : MigSt) : s.sameBut [.tier] (s.setMig k m) :=
  State.sameBut_tier s _

theorem State.markFrame_frame (s : State) (k f : Nat) (b : Bool) : s.sameBut [.tier, .regs] (s.markFrame k f b) :=
  State.sameBut_within (by decide) (((State.sameBut_tier s _).andThen (State.sameBut_set _ _ _)).andThen
    (State.sameBut_ifSelfElse ((State.sameBut_setBit _ _ _).andThen (State.sameBut_tier _ _))))

theorem State.dropCopy_frame (s : State) (k : Nat) : s.sameBut [.tier, .regs, .fl] (s.dropCopy k) :=
  State.sameBut_within (by decide) ((State.sameBut_ite (State.markFrame_frame s _ _ false)
    (State.sameBut_ifElseSelf (State.setCar_frame s _ _))).andThen (State.setMig_frame _ _ _))

theorem State.migFail_frame (s : State) (k reason : Nat) : s.sameBut [.tier, .regs, .fl] (s.migFail k reason) :=
  State.sameBut_within (by decide) (((State.dropCopy_frame s _).andThen (State.setMigState_frame _ _ _)).andThen (State.sameBut_set _ _ _))

/-! Inlay units. -/

theorem State.setUnitState_frame (s : State) (k u st : Nat) : s.sameBut [.regs] (s.setUnitState k u st) :=
  State.sameBut_within (by decide) ((State.sameBut_set s _ _).andThen (State.sameBut_set _ _ _))

theorem State.setUnit_frame (s : State) (k u : Nat) (v : InlSt) : s.sameBut [.inl, .regs] (s.setUnit k u v) :=
  State.sameBut_within (by decide) ((((State.sameBut_inl s _).andThen (State.sameBut_set _ _ _)).andThen (State.sameBut_set _ _ _)).andThen
    (State.sameBut_ifElseSelf (State.sameBut_set _ _ _)))

theorem State.settleUnit_frame (s : State) (k u : Nat) : s.sameBut [.inl, .regs] (s.settleUnit k u) :=
  State.setUnit_frame s k u _

theorem State.takeOffline_frame (s : State) (k u : Nat) : s.sameBut [.inl, .regs, .evt] (s.takeOffline k u) :=
  State.sameBut_within (by decide) (((State.setUnitState_frame s _ _ _).andThen (State.setUnit_frame _ _ _ _)).andThen (State.sameBut_raise _ _ _ _))

theorem State.inlayParity_frame (s : State) (k u : Nat) : s.sameBut [.inl, .regs, .evt] (s.inlayParity k u) :=
  State.sameBut_within (by decide) (State.sameBut_ite (State.sameBut_setBit s _ _)
    ((State.sameBut_setBit s _ _).andThen (State.takeOffline_frame _ _ _)))

theorem State.inlayOnline_frame (s : State) (k u : Nat) : s.sameBut [.inl, .regs] (s.inlayOnline k u) :=
  State.sameBut_within (by decide) (State.sameBut_ifElseSelf ((State.setUnitState_frame s _ _ _).andThen (State.setUnit_frame _ _ _ _)))

theorem State.inlayHang_frame (s : State) (k u : Nat) : s.sameBut [.now, .beat, .inl, .regs, .evt] (s.inlayHang k u) :=
  State.sameBut_within (by decide) (State.sameBut_ifElseSelf
    (((State.sameBut_reach s _).andThen (State.sameBut_setBit _ _ _)).andThen (State.takeOffline_frame _ _ _)))

theorem State.inlayCopied_frame (s : State) (k u : Nat) : s.sameBut [.freeCtr, .inl, .regs] (s.inlayCopied k u) :=
  State.sameBut_within (by decide) (State.sameBut_ifElseSelf ((((State.sameBut_ite (State.sameBut_bump s _ _) (State.sameBut_freeCtr s _)).andThen
    (State.setUnitState_frame _ _ _ _)).andThen (State.setUnit_frame _ _ _ _)).andThen (State.settleUnit_frame _ _ _)))

theorem State.sendItem_frame (s : State) (k u : Nat) (i : InlItem) : s.sameBut [.inl, .regs] (s.sendItem k u i) :=
  State.sameBut_within (by decide) (State.sameBut_ifSelfElse (State.sameBut_ite (State.setUnit_frame s _ _ _)
    ((State.setUnit_frame s _ _ _).andThen (State.settleUnit_frame _ _ _))))

theorem State.broadcast_frame (s : State) (k : Nat) (i : InlItem) (n : Nat) : s.sameBut [.inl, .regs] (s.broadcast k i n) :=
  State.sameBut_within (by decide) ((State.sameBut_bump s _ _).andThen (State.sameBut_foldl _ (fun t u => State.sendItem_frame t k u i) _ _))

theorem State.resumeUnit_frame (s : State) (k u : Nat) : s.sameBut [.inl, .regs] (s.resumeUnit k u) :=
  State.sameBut_within (by decide) (((State.setUnitState_frame s _ _ _).andThen (State.setUnit_frame _ _ _ _)).andThen (State.settleUnit_frame _ _ _))

/-! Trims and retraining. -/

theorem State.trimNext_frame (s : State) (k : Nat) : s.sameBut [.stk, .regs] (s.trimNext k) := by
  unfold State.trimNext
  refine State.sameBut_ifSelfElse ?_
  split
  · exact State.sameBut_refl _ s
  · exact (State.setStk_frame s _ _).andThen (State.sameBut_ifElseSelf (State.setUnitState_frame _ _ _ _))

theorem State.trimmed_frame (s : State) (k : Nat) (ok : Bool) : s.sameBut [.inl, .stk, .regs, .evt] (s.trimmed k ok) := by
  unfold State.trimmed
  dsimp only
  split
  · exact State.sameBut_refl _ s
  · exact State.sameBut_within (by decide) (State.sameBut_ifSelfElse ((((State.setStk_frame s _ _).andThen
      (State.sameBut_ifElseSelf (State.resumeUnit_frame _ _ _))).andThen (State.sameBut_ifElseSelf (State.sameBut_raise _ _ _ _))).andThen
      (State.sameBut_ifElseSelf (State.trimNext_frame _ _))))

theorem State.retrained_frame (s : State) (k : Nat) (ok : Bool) : s.sameBut [.stk, .regs, .evt] (s.retrained k ok) := by
  unfold State.retrained
  dsimp only
  split
  · exact State.sameBut_refl _ s
  · exact ((State.setStk_frame s _ _).andThen (State.sameBut_setBit _ _ _)).andThen
      (State.sameBut_ifSelfElse (State.sameBut_raise _ _ _ _))

/-! Marks of memory words. -/

theorem State.countCe_frame (s : State) (k : Nat) : s.sameBut [.regs] (s.countCe k) :=
  State.sameBut_within (by decide) (State.sameBut_ite (State.sameBut_bump s _ _) (State.sameBut_bump s _ _))

theorem State.poisonWord_frame (s : State) (rh k : Nat) : s.sameBut [.ecc, .regs, .evt] (s.poisonWord rh k) :=
  State.sameBut_within (by decide) ((State.setEcc_frame s _ _).andThen (State.sameBut_ite (State.sameBut_bump _ _ _)
    (((State.sameBut_bump _ _ _).andThen (State.sameBut_ifSelfElse
      (((State.sameBut_set _ _ _).andThen (State.sameBut_set _ _ _)).andThen (State.sameBut_setBit _ _ _)))).andThen
      (State.raiseAs_frame _ _ _ _ _ _ _))))

theorem State.scrub_frame (s : State) (k o : Nat) : s.sameBut [.ecc, .regs, .evt] (s.scrub k o) := by
  unfold State.scrub
  dsimp only
  split
  · exact State.sameBut_within (by decide) (State.sameBut_ite ((State.countCe_frame s _).andThen (State.setEcc_frame _ _ _))
      (State.sameBut_ifElseSelf (State.poisonWord_frame s _ _)))
  · exact State.sameBut_refl _ s

/-- What a read of memory may change: marks, their counts and events, and the scripts of rehearsals (R168, R495). -/
def readParts : List Part := [.ecc, .regs, .evt, .ctl]

theorem State.readMarks_frame (s : State) (a n : Nat) : s.sameBut readParts (s.readMarks a n).1 := by
  have hword (t : State) (e : Nat × Nat) : t.sameBut readParts (t.readWord e).1 := by
    unfold State.readWord
    split
    · exact State.sameBut_within (by decide) (State.countCe_frame t _)
    · split
      · exact State.sameBut_within (by decide) (State.poisonWord_frame t _ _)
      · exact State.sameBut_refl _ t
  have hwords (l : List (Nat × Nat)) : ∀ p : State × Bool,
      p.1.sameBut readParts (l.foldl (fun p e => let q := p.1.readWord e; (q.1, p.2 || q.2)) p).1 := by
    induction l with
    | nil => exact fun p => State.sameBut_refl _ _
    | cons e r ih =>
      intro p
      rw [List.foldl_cons]
      exact State.sameBut_trans (hword p.1 e) (ih ((p.1.readWord e).1, p.2 || (p.1.readWord e).2))
  exact hwords _ (s, false)

theorem State.injectMedia_frame (s : State) (n target source : Nat) : s.sameBut readParts (s.injectMedia n target source) := by
  have hinjected : s.sameBut [.ctl, .regs] (s.injected n) := by
    unfold State.injected
    split
    · exact State.sameBut_refl _ s
    · exact (State.sameBut_ctl s _).andThen (State.sameBut_bump _ _ _)
  exact State.sameBut_within (by decide) (hinjected.andThen (State.raiseAs_frame _ _ _ _ _ _ _))

theorem State.loadPhys_frame (s : State) (a n : Nat) : s.sameBut readParts (s.loadPhys a n).st := by
  cases hscript : s.stackScript a with
  | none =>
    have hmarks := State.readMarks_frame s a n
    rw [State.loadPhys, hscript]
    dsimp only
    split <;> exact hmarks
  | some m => rw [State.loadPhys, hscript]; exact State.injectMedia_frame s _ _ _

/-- An access in two parts leaves what its last part leaves. -/
theorem Acc.join_frame {xs : List Part} {s : State} {x y : Acc} {c d : Prop} [Decidable c] [Decidable d] {code : Nat} {b : List Byte}
    (hx : s.sameBut xs x.st) (hy : s.sameBut xs y.st) : s.sameBut xs (if c then x else if d then y else ⟨code, b, y.st⟩).st := by
  split
  · exact hx
  · split <;> exact hy

theorem State.unitLoad_frame (s : State) (k u loc n : Nat) : s.sameBut readParts (s.unitLoad k u loc n).st := by
  have hfirst := State.loadPhys_frame s (unitAddr k u loc) (min n (65536 - loc % 65536))
  exact Acc.join_frame hfirst (State.sameBut_trans hfirst (State.loadPhys_frame _ _ _))

/-! The commands of a unit. -/

theorem State.heatUnit_frame (s : State) (k u loc n : Nat) : s.sameBut [.tier] (s.heatUnit k u loc n) := by
  unfold State.heatUnit
  refine State.sameBut_ifSelfElse (State.sameBut_foldl _ (fun t p => ?_) _ s)
  split
  · exact State.sameBut_tier t _
  · exact State.sameBut_refl _ t

theorem State.finishCmd_frame (s : State) (k u : Nat) (p : InlPkt) (bytes : List Byte) (aux : Nat) :
    s.sameBut [.inl, .regs] (s.finishCmd k u p bytes aux) :=
  State.sameBut_within (by decide) (((State.setUnit_frame s _ _ _).andThen (State.settleUnit_frame _ _ _)).andThen
    (State.sameBut_ifElseSelf (State.setUnitState_frame _ _ _ _)))

theorem State.badPacket_frame (s : State) (k u : Nat) (p : InlPkt) : s.sameBut [.inl, .regs, .evt] (s.badPacket k u p) :=
  State.sameBut_within (by decide) (((State.sameBut_setBit s _ _).andThen (State.finishCmd_frame _ _ _ _ _ _)).andThen (State.sameBut_raise _ _ _ _))

theorem State.poisonCmd_frame (s : State) (k u : Nat) (p : InlPkt) : s.sameBut [.inl, .regs] (s.poisonCmd k u p) :=
  State.sameBut_within (by decide) ((State.sameBut_setBit s _ _).andThen (State.finishCmd_frame _ _ _ _ _ _))

/-- A unit that runs the packet at its head changes what the packet's command does, or answers a malformed packet. -/
theorem State.runUnit_frame {xs : List Part} {f : InlPkt → State} (s : State) (k u op : Nat) (h : ∀ p, s.sameBut xs (f p)) :
    s.sameBut (xs ++ [.inl, .regs, .evt]) (s.runUnit k u op f) := by
  have hbad (p : InlPkt) := State.badPacket_frame s k u p
  unfold State.runUnit
  refine State.sameBut_ifElseSelf ?_
  split
  · exact State.sameBut_refl _ s
  · refine State.sameBut_ifSelfElse (State.sameBut_ite (h _) ?_)
    exact State.sameBut_ifSelfElse (hbad _)

/-- A run goes on in the state that its read left, or ends in it. -/
theorem ScanAcc.goOn_frame {s : State} {x : Acc} {c : Prop} [Decidable c] (a : ScanAcc) (f : ScanAcc → List Byte → ScanAcc)
    (hx : s.sameBut readParts x.st) (h : ∀ (b : ScanAcc) d, b.st.sameBut readParts (f b d).st) :
    s.sameBut readParts (if c then f { a with st := x.st } x.data else { a with bad := true, st := x.st }).st := by
  split
  · exact State.sameBut_trans hx (h { a with st := x.st } _)
  · exact hx

theorem ScanAcc.read_frame (a : ScanAcc) (k u loc n : Nat) (f : ScanAcc → List Byte → ScanAcc)
    (h : ∀ (b : ScanAcc) d, b.st.sameBut readParts (f b d).st) : a.st.sameBut readParts (a.read k u loc n f).st :=
  ScanAcc.goOn_frame a f (State.unitLoad_frame a.st k u loc n) h

theorem ScoreCmd.scoreSlot_frame (c : ScoreCmd) (k u : Nat) (tables : List (List Byte)) (j : Nat) (code : List Byte) (a : ScanAcc) :
    a.st.sameBut readParts (c.scoreSlot k u tables j code a).st := by
  unfold ScoreCmd.scoreSlot
  dsimp only
  split
  · exact ScanAcc.read_frame { a with passed := a.passed + 1 } k u _ _ _ fun b _ => State.sameBut_refl _ b.st
  · exact State.sameBut_refl _ a.st

theorem ScoreCmd.slot_frame (c : ScoreCmd) (k u : Nat) (filter : List Byte) (tables : List (List Byte)) (j : Nat) (a : ScanAcc) :
    a.st.sameBut readParts (c.slot k u filter tables j a).st := by
  have hcode (b : ScanAcc) : b.st.sameBut readParts
      (b.read k u (c.addr + c.stride * j) c.codeBytes fun a d => c.scoreSlot k u tables j d a).st :=
    ScanAcc.read_frame b k u _ _ _ fun b d => ScoreCmd.scoreSlot_frame c k u tables j d b
  have hattr (b : ScanAcc) : b.st.sameBut readParts (if c.fen then
      b.read k u (c.attrAt j) 8 fun a d => if filterPass filter c.fany (leNat d) then
        a.read k u (c.addr + c.stride * j) c.codeBytes fun a d => c.scoreSlot k u tables j d a else a
      else b.read k u (c.addr + c.stride * j) c.codeBytes fun a d => c.scoreSlot k u tables j d a).st := by
    split
    · refine ScanAcc.read_frame b k u _ _ _ fun b d => ?_
      split
      · exact hcode b
      · exact State.sameBut_refl _ b.st
    · exact hcode b
  unfold ScoreCmd.slot
  dsimp only
  split
  · exact hattr a
  · refine ScanAcc.read_frame a k u _ _ _ fun b d => ?_
    split
    · exact State.sameBut_refl _ b.st
    · exact hattr b

theorem ScoreCmd.run_frame (c : ScoreCmd) (k u : Nat) (filter : List Byte) (tables : List (List Byte)) (n : Nat) :
    ∀ (j : Nat) (a : ScanAcc), a.st.sameBut readParts (c.run k u filter tables n j a).st := by
  induction n with
  | zero => exact fun _ a => State.sameBut_refl _ a.st
  | succ n ih =>
    intro j a
    have hslot := ScoreCmd.slot_frame c k u filter tables j a
    unfold ScoreCmd.run
    dsimp only
    split
    · exact hslot
    · exact State.sameBut_trans hslot (ih _ _)

theorem State.runScore_frame (s : State) (k u : Nat) (p : InlPkt) : s.sameBut (readParts ++ [.inl, .tier]) (s.runScore k u p) :=
  State.sameBut_within (by decide) (State.sameBut_ite (State.badPacket_frame s _ _ _)
    ((((State.heatUnit_frame s k u _ _).andThen (ScoreCmd.run_frame _ k u _ _ _ 0 ⟨_, 0, false, _⟩)).andThen (State.sameBut_bump _ _ _)).andThen
      (State.sameBut_ite (State.poisonCmd_frame _ _ _ _) (State.finishCmd_frame _ _ _ _ _ _))))

theorem State.runGather_frame (s : State) (k u : Nat) (p : InlPkt) :
    s.sameBut (readParts ++ [.freeCtr, .inl, .tier]) (s.runGather k u p) := by
  have hread (t : State) (c : RowCmd) (g0 n : Nat) (h : List Byte) : t.sameBut (readParts ++ [.freeCtr, .inl])
      (let pin := c.sub % 2 == 1 && c.double
       let i := if pin then pinnedSlot h c.epoch t.free else readSlot c.double h
       let t := if pin && decide (c.epoch < headTag h 0) && decide (c.epoch < headTag h 1) then t.nextFree else t
       let x := t.unitLoad k u (c.slotAt i + 64 * g0) (64 * n)
       if x.code ≠ E_NONE then x.st.poisonCmd k u p
       else
         let g := inlHead c.tag 0 IS_OK 0 0 0 ++ (h.drop (12 * i)).take 8 ++ leBytes 1 i ++ (h.drop 28).take 1
         x.st.finishCmd k u p (padTo 64 g ++ x.data) (headTag h i)) :=
    State.sameBut_within (by decide) (((State.sameBut_ifElseSelf (State.sameBut_freeCtr t _)).andThen (State.unitLoad_frame _ k u _ _)).andThen
      (State.sameBut_ite (State.poisonCmd_frame _ _ _ _) (State.finishCmd_frame _ _ _ _ _ _)))
  exact State.sameBut_within (by decide) (State.sameBut_ite (State.badPacket_frame s _ _ _)
    (((State.heatUnit_frame s k u _ _).andThen (State.unitLoad_frame _ k u _ _)).andThen
      (State.sameBut_ite (State.poisonCmd_frame _ _ _ _) (State.sameBut_ite (State.finishCmd_frame _ _ _ _ _ _) (hread _ _ _ _ _)))))

/-- A command of an inlay unit changes what its run changes, and what the report of its events changes. -/
theorem changesOnly_of_inlay {xs ys : List Part} {op stack unit : Nat} {c : Instr} {f : State → Nat → Nat → InlPkt → State}
    (hs : ∀ p, p ∈ (xs ++ [.inl, .regs, .evt]) ++ reports → p ∈ ys ++ reports) (hexec : ∀ s, exec c s = s.live (runInlay op f stack unit s))
    (h : ∀ (s : State) k u p, s.sameBut xs (f s k u p)) : changesOnly ys c :=
  changesOnly_of_unit hs hexec fun s => State.sameBut_ifElseSelf (State.runUnit_frame s stack unit op fun p => h s stack unit p)

/-- Settles O55. -/
theorem unitCommandsChangeOnlyTheirUnit : Obligations.UnitCommandsChangeOnlyTheirUnit := by
  refine ⟨fun n => ⟨?_, ?_, ?_, ?_, ?_, ?_, ?_, ?_⟩, fun k u => ⟨?_, ?_, ?_, ?_, ?_⟩, fun k a d => ⟨?_, ?_⟩, fun k o => ?_, fun k b => ?_,
    fun k b => ?_, ?_, fun k u => ⟨?_, ?_, ?_⟩⟩
  · exact changesOnly_of_unit (by decide) (fun _ => rfl) fun s => State.sameBut_setBit s _ _
  · exact changesOnly_of_unit (by decide) (fun _ => rfl) fun s => State.tileResume_frame s n
  · exact changesOnly_of_unit (by decide) (fun _ => rfl) fun s => (State.showOff_frame s _ _ _).andThen (State.sameBut_ls _ _)
  · exact changesOnly_of_unit (by decide) (fun _ => rfl) fun s => (State.showOff_frame s _ _ _).andThen (State.sameBut_gw _ _)
  · exact changesOnly_of_unit (by decide) (fun _ => rfl) fun s => (State.showOff_frame s _ _ _).andThen (State.sameBut_tbl _ _)
  · exact changesOnly_of_unit (by decide) (fun _ => rfl) fun s => (State.showOff_frame s _ _ _).andThen (State.sameBut_txt _ _)
  · exact changesOnly_of_unit (by decide) (fun _ => rfl) fun s => State.sameBut_ifElseSelf
      (((State.setMig_frame s _ _).andThen (State.setMigState_frame _ _ _)).andThen (State.sameBut_set _ _ _))
  · exact changesOnly_of_unit (by decide) (fun _ => rfl) fun s => State.sameBut_ifElseSelf (State.migFail_frame s _ _)
  · exact changesOnly_of_inlay (by decide) (fun _ => rfl) fun s k u p =>
      State.sameBut_ite (State.finishCmd_frame s _ _ _ _ _) (State.badPacket_frame s _ _ _)
  · exact changesOnly_of_unit (by decide) (fun _ => rfl) fun s => State.sameBut_ifElseSelf (State.inlayParity_frame s k u)
  · exact changesOnly_of_unit (by decide) (fun _ => rfl) fun s => State.sameBut_ifElseSelf (State.inlayOnline_frame s k u)
  · exact changesOnly_of_unit (by decide) (fun _ => rfl) fun s => State.sameBut_ifElseSelf (State.inlayHang_frame s k u)
  · exact changesOnly_of_unit (by decide) (fun _ => rfl) fun s => State.sameBut_ifElseSelf (State.inlayCopied_frame s k u)
  · exact changesOnly_of_unit (by decide) (fun _ => rfl) fun s => State.sameBut_ifElseSelf
      (State.sameBut_ite (State.broadcast_frame s k _ _) (State.sameBut_raise s _ _ _))
  · exact changesOnly_of_unit (by decide) (fun _ => rfl) fun s => State.sameBut_ifElseSelf
      (State.sameBut_ite (State.broadcast_frame s k _ _) (State.sameBut_raise s _ _ _))
  · exact changesOnly_of_unit (by decide) (fun _ => rfl) fun s => State.sameBut_ifElseSelf (State.scrub_frame s k o)
  · exact changesOnly_of_unit (by decide) (fun _ => rfl) fun s => State.sameBut_ifElseSelf (State.retrained_frame s k b)
  · exact changesOnly_of_unit (by decide) (fun _ => rfl) fun s => State.sameBut_ifElseSelf (State.trimmed_frame s k b)
  · exact changesOnly_of (by decide) (fun _ => rfl) fun s => State.sameBut_ifElseSelf (State.sameBut_tier s _)
  · exact changesOnly_of_inlay (by decide) (fun _ => rfl) State.runScore_frame
  · exact changesOnly_of_inlay (by decide) (fun _ => rfl) State.runScore_frame
  · exact changesOnly_of_inlay (by decide) (fun _ => rfl) State.runGather_frame

end Sys2Proof.Machine
end

section
/-! What the commands of movers, check units, identity, images and power that store nothing leave as it was (R71 to R75, R435 to R442, R449, R456
to R465, R498, R516 to R518). -/

namespace Sys2Proof.Machine

theorem State.sameBut_sec (s : State) (x : SecSt) : s.sameBut [.sec] { s with sec := x } := by
  intro p hp
  cases p with
  | sec => exact absurd (.head _) hp
  | _ => rfl

theorem State.sameBut_img (s : State) (x : ImgSt) : s.sameBut [.img] { s with img := x } := by
  intro p hp
  cases p with
  | img => exact absurd (.head _) hp
  | _ => rfl

/-! Movers and check units. -/

theorem State.request_frame (s : State) (line k : Nat) : s.sameBut [.mov, .regs] (s.request line k) := by
  unfold State.request
  refine State.sameBut_foldl _ (fun t e => ?_) _ s
  split
  · exact State.sameBut_within (by decide) (State.sameBut_ifElseSelf ((State.setMovRun_frame t _ _).andThen (State.sameBut_bump _ _ _)))
  · exact State.sameBut_refl _ t

theorem State.movStop_frame (s : State) (n : Nat) : s.sameBut [.regs, .mov] (s.movStop n) :=
  State.sameBut_within (by decide) (State.sameBut_ifSelfElse (State.sameBut_ite (State.sameBut_set s _ _) (State.sameBut_ite (State.sameBut_set s _ _)
    (State.sameBut_ifElseSelf (State.sameBut_setMovCh s _ _)))))

theorem State.movKick_frame (s : State) (n : Nat) : s.sameBut [.mov, .regs] (s.movKick n) := by
  unfold State.movKick
  split
  · exact State.sameBut_within (by decide) (State.sameBut_ifElseSelf ((State.setMovRun_frame s _ _).andThen (State.sameBut_bump _ _ _)))
  · exact State.sameBut_refl _ s

/-- A write to a check unit that a descriptor holds is counted and does nothing else (R442). -/
theorem State.chkWrite_frame (s : State) (u : Nat) (f : State → State) (h : s.sameBut [.regs] (f s)) : s.sameBut [.regs] (s.chkWrite u f) :=
  State.sameBut_within (by decide) (State.sameBut_ite (State.sameBut_bump s _ _) h)

theorem State.setTwo_frame (s : State) (f g : RegField) (v w : Nat) : s.sameBut [.regs] ((s.set f v).set g w) :=
  State.sameBut_within (by decide) ((State.sameBut_set s _ _).andThen (State.sameBut_set _ _ _))

theorem State.chkCheck_frame (s : State) (u : Nat) : s.sameBut [.regs, .evt] (s.chkCheck u) :=
  State.sameBut_within (by decide) (State.sameBut_ifSelfElse
    (((State.sameBut_setBit s _ _).andThen (State.sameBut_bump _ _ _)).andThen (State.sameBut_raise _ _ _ _)))

/-! Identity. -/

/-- A command of the identity block changes its result beside what it does while none runs (R465). -/
theorem State.secDo_frame (s : State) (f : State → State) (h : s.sameBut [.sec, .regs, .evt] (f s)) :
    s.sameBut [.sec, .regs, .evt] (s.secDo f) :=
  State.sameBut_within (by decide) (State.sameBut_ite (State.sameBut_set s _ _) h)

theorem State.beginQuote_frame (s : State) (n : Nat) (f : List Byte → List Byte) : s.sameBut [.sec, .regs, .evt] (s.beginQuote n f) := by
  unfold State.beginQuote
  refine State.sameBut_within (by decide) (State.sameBut_ite (State.sameBut_set s _ _) (ys := [.sec, .regs]) ?_)
  split
  · exact State.sameBut_within (by decide) (State.sameBut_set s _ _)
  · exact State.sameBut_within (by decide) (State.sameBut_ite (State.sameBut_set s _ _)
      (((State.sameBut_sec s _).andThen (State.sameBut_setBit _ _ _)).andThen (State.sameBut_set _ _ _)))

theorem State.raiseFloor_frame (s : State) : s.sameBut [.sec, .regs, .evt] s.raiseFloor := by
  unfold State.raiseFloor
  split
  · exact State.sameBut_within (by decide) (State.sameBut_set s _ _)
  · exact State.sameBut_within (by decide) (State.sameBut_ifSelfElse ((State.sameBut_sec s _).andThen (State.sameBut_set _ _ _)))

theorem State.extend_frame (s : State) (reg row : Nat) (tag d : List Byte) : s.sameBut [.sec, .regs, .evt] (s.extend reg row tag d) :=
  State.sameBut_within (by decide) ((State.sameBut_sec s _).andThen (State.sameBut_ite ((State.sameBut_sec _ _).andThen (State.sameBut_set _ _ _))
    ((State.sameBut_setBit _ _ _).andThen
      (State.sameBut_ifSelfElse ((State.sameBut_sec _ _).andThen (State.sameBut_raise _ _ _ _))))))

theorem State.extendM0_frame (s : State) : s.sameBut [.sec, .regs, .evt] s.extendM0 :=
  State.sameBut_trans (State.extend_frame s _ _ _ _) (State.extend_frame _ _ _ _ _)

theorem State.showFuses_frame (s : State) : s.sameBut [.regs] s.showFuses :=
  State.setTwo_frame s _ _ _ _

/-- Fuses that change are shown and measured (R457). -/
theorem State.fused_frame (s : State) (x : SecSt) : s.sameBut [.sec, .regs, .evt] (State.showFuses { s with sec := x }).extendM0 :=
  State.sameBut_within (by decide) (((State.sameBut_sec s x).andThen (State.showFuses_frame _)).andThen (State.extendM0_frame _))

theorem State.floorRaised_frame (s : State) : s.sameBut [.sec, .regs, .evt] s.floorRaised := by
  unfold State.floorRaised
  split
  · exact State.sameBut_refl _ s
  · exact State.sameBut_within (by decide) ((State.fused_frame s _).andThen (State.sameBut_raise _ _ _ _))

theorem State.ownBy_frame (s : State) (rec : Option (List Byte)) (b : Bool) : s.sameBut [.sec, .regs] (s.ownBy rec b) := by
  unfold State.ownBy
  dsimp only
  split <;> exact State.sameBut_within (by decide) ((State.sameBut_sec s _).andThen (State.setTwo_frame _ _ _ _ _))

theorem State.claimReadback_frame (s : State) (got : List Byte) : s.sameBut [.sec, .regs, .evt] (s.claimReadback got) := by
  unfold State.claimReadback
  split
  · exact State.sameBut_refl _ s
  · exact State.sameBut_within (by decide) ((State.sameBut_sec s _).andThen (State.sameBut_ite
      (((State.ownBy_frame _ _ _).andThen (State.extend_frame _ _ _ _ _)).andThen (State.sameBut_raise _ _ _ _)) (State.sameBut_set _ _ _)))

theorem State.extendBy_frame (s : State) (arg : Nat) : s.sameBut [.sec, .regs, .evt] (s.extendBy arg) :=
  State.sameBut_within (by decide) (State.sameBut_ite ((State.extend_frame s _ _ _ _).andThen (State.sameBut_set _ _ _)) (State.sameBut_set s _ _))

theorem State.revoke_frame (s : State) (k : Nat) : s.sameBut [.sec, .regs, .evt] (s.revoke k) :=
  State.sameBut_within (by decide) (State.sameBut_ite ((State.fused_frame s _).andThen (State.sameBut_set _ _ _)) (State.sameBut_set s _ _))

theorem State.romDone_frame (s : State) (keys : List (List Byte × Nat)) : s.sameBut [.sec, .regs, .evt] (s.romDone keys) :=
  State.sameBut_within (by decide) (State.sameBut_ifSelfElse
    ((((State.sameBut_ifElseSelf (State.sameBut_sec s _)).andThen (State.showFuses_frame _)).andThen (State.extendM0_frame _)).andThen (State.sameBut_set _ _ _)))

/-! Images. -/

theorem State.unstage_frame (s : State) : s.sameBut [.img, .regs] s.unstage :=
  State.sameBut_within (by decide) ((((State.sameBut_img s _).andThen (State.sameBut_set _ _ _)).andThen (State.sameBut_set _ _ _)).andThen
    (State.sameBut_set _ _ _))

theorem State.markStale_frame (s : State) (i : Image) (p : Nat) : s.sameBut [.regs] (s.markStale i p) := by
  unfold State.markStale
  split <;> exact State.sameBut_setBit s _ _

theorem State.promoteImage_frame (s : State) (i : Image) : s.sameBut [.img, .sec, .regs, .evt] (s.promoteImage i) :=
  State.sameBut_within (by decide) (((((State.unstage_frame s).andThen (State.sameBut_img _ _)).andThen (State.sameBut_set _ _ _)).andThen
    (State.sameBut_foldl _ (fun t p => State.markStale_frame t i p) _ _)).andThen (State.extend_frame _ _ _ _ _) |>.andThen
    (State.sameBut_raise _ _ _ _))

theorem State.promote_frame (s : State) : s.sameBut [.img, .sec, .regs, .evt] s.promote := by
  unfold State.promote
  refine State.sameBut_within (by decide) (State.sameBut_ite (State.sameBut_set s _ _) (State.sameBut_ite (State.sameBut_set s _ _)
    (ys := [.img, .sec, .regs, .evt]) ?_))
  split
  · exact State.promoteImage_frame s _
  · exact State.sameBut_refl _ s

/-! Power. -/

theorem State.setBoot_frame (s : State) (b : BootSt) : s.sameBut [.ctl] (s.setBoot b) :=
  State.sameBut_ctl s _

theorem State.raiseLevel_frame (s : State) (n : Nat) (power therm : Bool) : s.sameBut [.ctl, .regs, .evt] (s.raiseLevel n power therm) :=
  State.sameBut_within (by decide) (State.sameBut_ifSelfElse (((((State.sameBut_set s _ _).andThen (State.sameBut_setBit _ _ _)).andThen
    (State.sameBut_setBit _ _ _)).andThen (State.sameBut_bump _ _ _)).andThen
    (State.sameBut_ifElseSelf ((State.setBoot_frame _ _).andThen (State.sameBut_raise _ _ _ _)))))

theorem State.lowerLevel_frame (s : State) : s.sameBut [.ctl, .regs] s.lowerLevel :=
  State.sameBut_within (by decide) (((State.sameBut_set s _ _).andThen (State.setBoot_frame _ _)).andThen
    (State.sameBut_ifElseSelf (State.setBoot_frame _ _)))

theorem State.showTemps_frame (s : State) (dies stks : List Nat) : s.sameBut [.regs] (s.showTemps dies stks) :=
  State.sameBut_within (by decide) (((State.setTwo_frame s _ _ _ _).andThen (State.setTwo_frame _ _ _ _ _)).andThen
    (State.sameBut_foldl _ (fun t _ => State.sameBut_set t _ _) _ _))

theorem State.thermalAlert_frame (s : State) (dies stks : List Nat) : s.sameBut [.ctl, .regs, .evt] (s.thermalAlert dies stks) :=
  State.sameBut_within (by decide) ((State.showTemps_frame s _ _).andThen (State.sameBut_ifSelfElse
    (((State.sameBut_setBit _ _ _).andThen (State.raiseLevel_frame _ _ _ _)).andThen (State.sameBut_raise _ _ _ _))))

theorem State.thermalRelease_frame (s : State) (dies stks : List Nat) : s.sameBut [.regs] (s.thermalRelease dies stks) :=
  State.sameBut_within (by decide) ((State.showTemps_frame s _ _).andThen (State.sameBut_ifElseSelf (State.sameBut_setBit _ _ _)))

theorem State.powerEval_frame (s : State) (watts : Nat) (dies stks : List Nat) : s.sameBut [.ctl, .regs, .evt] (s.powerEval watts dies stks) :=
  State.sameBut_within (by decide) (((State.sameBut_set s _ _).andThen (State.showTemps_frame _ _ _)).andThen
    (State.sameBut_ite (State.setBoot_frame _ _) (State.sameBut_ite ((State.setBoot_frame _ _).andThen (State.raiseLevel_frame _ _ _ _))
      (State.sameBut_ite ((State.setBoot_frame _ _).andThen (State.sameBut_ifElseSelf (State.lowerLevel_frame _)))
        (State.setBoot_frame _ _)))))

theorem State.shimClose_frame (s : State) : s.sameBut [.ctl, .stk, .regs] s.shimClose := by
  have hskip (t : State) (k : Nat) : t.sameBut [.stk, .regs] (t.trimSkip k) := by
    unfold State.trimSkip
    dsimp only
    split
    · exact State.sameBut_ifSelfElse ((State.setStk_frame t _ _).andThen (State.sameBut_bump _ _ _))
    · exact State.sameBut_refl _ t
  unfold State.shimClose
  split
  · exact State.sameBut_refl _ s
  · exact State.sameBut_within (by decide) ((State.sameBut_ctl s _).andThen (State.sameBut_foldl _ hskip _ _))

theorem changesOnly_shimClose : changesOnly [.stk, .ctl] .shimClose := by
  intro s t e
  refine State.sameBut_mono (State.live_frame (xs := [.ctl, .stk, .regs]) ?_ e) (by decide)
  split
  · exact State.sameBut_ifSelfElse (State.shimClose_frame s)
  · exact State.sameBut_refl _ s

theorem State.pollEntry_frame (s : State) (i : Nat) (ans : Bool) : s.sameBut [.ctl, .evt] (s.pollEntry i ans) := by
  unfold State.pollEntry
  split
  · exact State.sameBut_refl _ s
  · exact (State.setBoot_frame s _).andThen (State.sameBut_ifElseSelf (State.sameBut_raise _ _ _ _))

theorem State.railShow_frame (s : State) (r : Nat) (rs : List (Nat × Nat × Nat)) :
    s.sameBut [.freeCtr, .ctl, .regs, .evt] (s.railShow r rs) :=
  State.sameBut_within (by decide) ((((((State.sameBut_freeCtr s _).andThen (State.sameBut_set _ _ _)).andThen (State.sameBut_set _ _ _)).andThen
    (State.sameBut_set _ _ _)).andThen (State.setBoot_frame _ _)).andThen
    (State.sameBut_ifElseSelf ((State.sameBut_setBit _ _ _).andThen (State.sameBut_raise _ _ _ _))))

theorem State.pollRail_frame (s : State) (readings : List (Option (Nat × Nat × Nat))) (r : Nat) :
    s.sameBut [.freeCtr, .ctl, .regs, .evt] (s.pollRail readings r) :=
  State.sameBut_within (by decide) (State.sameBut_ifSelfElse (State.sameBut_ite (State.sameBut_setBit s _ _)
    ((State.sameBut_setBit s _ _).andThen (State.railShow_frame _ _ _))))

theorem State.pmbusPoll_frame (s : State) (readings : List (Option (Nat × Nat × Nat))) :
    s.sameBut [.freeCtr, .ctl, .regs, .evt] (s.pmbusPoll readings) :=
  State.sameBut_within (by decide) ((State.sameBut_foldl _ (fun t _ => State.pollEntry_frame t _ _) _ s).andThen
    (State.sameBut_foldl _ (fun t _ => State.pollRail_frame t _ _) _ _))

/-- Settles O56. -/
theorem controlCommandsChangeOnlyTheirUnit : Obligations.ControlCommandsChangeOnlyTheirUnit := by
  refine ⟨fun n => ⟨?_, ?_, ?_, ?_, ?_, ?_⟩, ?_, fun n v => ?_, fun n v k => ?_,
    List.forall_mem_cons.mpr ⟨?_, List.forall_mem_cons.mpr ⟨?_, List.forall_mem_cons.mpr ⟨?_, List.forall_mem_singleton.mpr ?_⟩⟩⟩,
    fun d => ?_, fun a => ⟨?_, ?_⟩, fun k => ?_, ?_, ?_, ?_, fun a b => ⟨?_, ?_⟩, fun a b c => ?_, changesOnly_shimClose, fun r => ⟨?_, ?_⟩⟩
  · exact changesOnly_of_unit (by decide) (fun _ => rfl) fun s => State.sameBut_ifSelfElse (State.request_frame s _ _)
  · exact changesOnly_of_unit (by decide) (fun _ => rfl) fun s => State.movStop_frame s n
  · exact changesOnly_of_unit (by decide) (fun _ => rfl) fun s => State.movKick_frame s n
  · exact changesOnly_of_unit (by decide) (fun _ => rfl) fun s => State.sameBut_ifElseSelf (State.sameBut_set s _ _)
  · exact changesOnly_of_unit (by decide) (fun _ => rfl) fun s => State.chkWrite_frame s n _ (State.setTwo_frame s _ _ _ _)
  · exact changesOnly_of_unit (by decide) (fun _ => rfl) fun s => State.chkCheck_frame s n
  · exact changesOnly_of (by decide) (fun _ => rfl) fun s => State.sameBut_ifElseSelf (State.sameBut_set s _ _)
  · exact changesOnly_of_unit (by decide) (fun _ => rfl) fun s => State.chkWrite_frame s n _ (State.setTwo_frame s _ _ _ _)
  · exact changesOnly_of_unit (by decide) (fun _ => rfl) fun s =>
      State.sameBut_ifSelfElse (State.chkWrite_frame s n _ (State.setTwo_frame s _ _ _ _))
  · exact changesOnly_of (by decide) (fun _ => rfl) fun s => State.secDo_frame s _ (State.beginQuote_frame s _ _)
  · exact changesOnly_of (by decide) (fun _ => rfl) fun s => State.secDo_frame s _ (State.beginQuote_frame s _ _)
  · exact changesOnly_of (by decide) (fun _ => rfl) fun s => State.secDo_frame s _ (State.raiseFloor_frame s)
  · exact changesOnly_of (by decide) (fun _ => rfl) State.floorRaised_frame
  · exact changesOnly_of (by decide) (fun _ => rfl) fun s => State.claimReadback_frame s d
  · exact changesOnly_of_unit (by decide) (fun _ => rfl) fun s => State.secDo_frame s _ (State.extendBy_frame s a)
  · exact changesOnly_of_unit (by decide) (fun _ => rfl) fun s => State.secDo_frame s _ (State.revoke_frame s a)
  · exact changesOnly_of (by decide) (fun _ => rfl) fun s => State.romDone_frame s k
  · exact changesOnly_of (by decide) (fun _ => rfl) fun s => State.sameBut_ite (State.sameBut_set s _ _)
      ((State.sameBut_img s _).andThen (State.sameBut_set _ _ _))
  · exact changesOnly_of (by decide) (fun _ => rfl) fun s => State.sameBut_ite (State.sameBut_set s _ _) (State.unstage_frame s)
  · exact changesOnly_of (by decide) (fun _ => rfl) State.promote_frame
  · exact changesOnly_of (by decide) (fun _ => rfl) fun s => State.thermalAlert_frame s a b
  · exact changesOnly_of (by decide) (fun _ => rfl) fun s => State.thermalRelease_frame s a b
  · exact changesOnly_of (by decide) (fun _ => rfl) fun s => State.powerEval_frame s a b c
  · exact changesOnly_of (by decide) (fun _ => rfl) fun s => State.pmbusPoll_frame s r
  · exact changesOnly_of (by decide) (fun _ => rfl) fun s => State.pmbusPoll_frame s r

end Sys2Proof.Machine
end

section
/-! What the commands of ring words store (R28 to R33, R430, R439, R448): the words they name, and beside memory the rings, the credits among the
registers and the events. -/

namespace Sys2Proof.Machine

/-- Between two states only `n` bytes of memory from `a` on, the rings and the parts of `reports` differ. -/
def State.storesAt (s : State) (a n : Nat) (t : State) : Prop :=
  s.sameBut ([.mem, .rings] ++ reports) t ∧ ∀ c, c < a ∨ a + n ≤ c → t.byte c = s.byte c

theorem State.storesAt_trans {s t u : State} {a n : Nat} (h : s.storesAt a n t) (g : t.storesAt a n u) : s.storesAt a n u :=
  ⟨State.sameBut_trans h.1 g.1, fun c hc => (g.2 c hc).trans (h.2 c hc)⟩

/-- A change that leaves memory stores nothing. -/
theorem State.storesAt_of_frame {xs : List Part} {s t : State} (hs : ∀ p, p ∈ xs → p ∈ [.rings] ++ reports) (a n : Nat)
    (h : s.sameBut xs t) : s.storesAt a n t := by
  have hmem : s.mem = t.mem := State.sameBut_mono h hs .mem (by decide)
  refine ⟨State.sameBut_mono (State.sameBut_mono h hs) (by decide), fun c _ => ?_⟩
  rw [State.byte, State.byte, hmem]

theorem State.storesAt_refl (s : State) (a n : Nat) : s.storesAt a n s :=
  State.storesAt_of_frame (by decide) a n (State.sameBut_refl [] s)

theorem State.putNum_frame (s : State) (a n v : Nat) : s.sameBut [.mem] (s.putNum a n v) := by
  intro p hp
  cases p with
  | mem => exact absurd (.head _) hp
  | _ => simp [State.agree]

/-- A store within the place. -/
theorem State.storesAt_putNum (s : State) {a n b k : Nat} (v : Nat) (hlo : a ≤ b) (hhi : b + k ≤ a + n) : s.storesAt a n (s.putNum b k v) :=
  ⟨State.sameBut_within (by decide) (State.putNum_frame s b k v), fun c hc => State.byte_putNum_other s b k v c (by omega)⟩

theorem State.storesAt_ite {s t u : State} {a n : Nat} {c : Prop} [Decidable c] (h : s.storesAt a n t) (g : s.storesAt a n u) :
    s.storesAt a n (if c then t else u) := by
  split
  · exact h
  · exact g

/-- The report of a command's events stores nothing. -/
theorem State.done_storesAt {s t : State} {a n : Nat} (h : s.storesAt a n t) : s.storesAt a n (s.done t) := by
  obtain ⟨hframe, hbytes⟩ := h
  have hmem : t.mem = (s.done t).mem := State.postAll_frame t .mem (by decide)
  refine ⟨State.sameBut_mono (State.done_frame hframe) (by decide), fun c hc => ?_⟩
  rw [← hbytes c hc, State.byte, State.byte, hmem]

theorem State.live_storesAt {s t u : State} {a n : Nat} (h : s.storesAt a n u) (e : s.live (.next u) = .next t) : s.storesAt a n t := by
  unfold State.live at e
  split at e
  · cases e; exact State.storesAt_refl s a n
  · cases e; exact State.done_storesAt h

theorem State.live_unit_storesAt {s t u : State} {a n : Nat} {b : Bool} (h : s.storesAt a n u) (e : s.live (onUnit b u) = .next t) :
    s.storesAt a n t := by
  cases b with
  | true => exact State.live_storesAt h e
  | false =>
    cases hdead : s.dead with
    | true => rw [State.live_dead _ _ hdead] at e; cases e; exact State.storesAt_refl s a n
    | false => rw [State.live, hdead] at e; cases e

/-! The words of a ring. -/

theorem State.tailWrite_storesAt (s : State) (r v : Nat) : s.storesAt (s.ring r).tailAddr 8 (s.tailWrite r v) :=
  State.storesAt_ite (State.storesAt_refl s _ _) (State.storesAt_ite
    (State.storesAt_trans (State.storesAt_putNum s v (Nat.le_refl _) (Nat.le_refl _))
      (State.storesAt_of_frame (by decide) _ _ (State.sameBut_setRing _ _ _)))
    (State.storesAt_of_frame (by decide) _ _ (State.sameBut_raise s _ _ _)))

theorem State.creditRing_frame (s : State) (r n : Nat) : s.sameBut [.evt, .regs] (s.creditRing r n) := by
  unfold State.creditRing
  refine State.sameBut_ifElseSelf ?_
  split
  · exact State.sameBut_ite (State.sameBut_raise s _ _ _) (State.sameBut_set s _ _)
  · exact State.sameBut_refl _ s

theorem State.headAdvance_storesAt (s : State) (r h : Nat) : s.storesAt (s.ring r).headAddr 8 (s.headAdvance r h) :=
  State.storesAt_ite (State.storesAt_trans (State.storesAt_putNum s h (Nat.le_refl _) (Nat.le_refl _))
    (State.storesAt_of_frame (by decide) _ _ ((State.sameBut_setRing _ _ _).andThen (State.creditRing_frame _ _ _)))) (State.storesAt_refl s _ _)

theorem State.movSkip_storesAt (s : State) (n : Nat) : s.storesAt (s.ring (movRing n)).headAddr 8 (s.movSkip n) :=
  State.storesAt_ite (State.storesAt_trans (State.headAdvance_storesAt s _ _) (State.storesAt_of_frame (by decide) _ _ (State.sameBut_set _ _ _)))
    (State.storesAt_refl s _ _)

/-- A ring that is opened gets its two words, both 0. -/
theorem State.openDescRing_storesAt (s : State) (id a lg : Nat) : s.storesAt (a + 2 ^ lg) 16 (s.openDescRing id a lg) :=
  State.storesAt_trans (State.storesAt_putNum s 0 (Nat.le_refl _) (by omega)) (State.storesAt_trans
    (State.storesAt_putNum _ 0 (by omega) (by omega)) (State.storesAt_of_frame (by decide) _ _ (State.sameBut_setRing _ _ _)))

theorem State.movEnable_storesAt (s : State) (n : Nat) :
    s.storesAt (s.get (F.MOV_CH_RING_ADDR n) + 2 ^ s.get (F.MOV_CH_RING_SIZE_LOG2 n)) 16 (s.movEnable n) :=
  State.storesAt_ite (State.storesAt_refl s _ _) (State.storesAt_trans (State.openDescRing_storesAt s _ _ _)
    (State.storesAt_of_frame (by decide) _ _ ((State.sameBut_setBit _ _ _).andThen (State.sameBut_set _ _ _))))

theorem State.parEnable_storesAt (s : State) :
    s.storesAt (s.get F.PAR_RING_ADDR + 2 ^ s.get F.PAR_RING_SIZE_LOG2) 16 s.parEnable :=
  State.storesAt_ite (State.storesAt_refl s _ _) (State.storesAt_trans (State.openDescRing_storesAt s _ _ _)
    (State.storesAt_of_frame (by decide) _ _ ((State.sameBut_setBit _ _ _).andThen (State.sameBut_set _ _ _))))

/-- Settles O57. -/
theorem ringCommandsStoreOnlyTheirWords : Obligations.RingCommandsStoreOnlyTheirWords := by
  refine fun s t => ⟨fun r v e => ?_, fun r v e => ?_, fun n e => ?_, fun n w hw e => ?_, fun w hw e => ?_⟩
  · exact State.live_unit_storesAt (State.storesAt_ite (State.tailWrite_storesAt s r _) (State.storesAt_refl s _ _)) e
  · exact State.live_unit_storesAt (State.storesAt_ite (State.headAdvance_storesAt s r v) (State.storesAt_refl s _ _)) e
  · exact State.live_unit_storesAt (State.movSkip_storesAt s n) e
  · subst hw
    exact State.live_unit_storesAt (State.movEnable_storesAt s n) e
  · subst hw
    exact State.live_storesAt (State.parEnable_storesAt s) e

end Sys2Proof.Machine
end

section
/-! The registers that the commands which act through registers change (R147, R199, R228, R275, R319, R439, R442, R449). -/

namespace Sys2Proof.Machine

/-- Between two states only some parts differ, and among the registers only some. -/
def State.touches (s : State) (xs : List Part) (offsets : List Nat) (t : State) : Prop :=
  s.sameBut xs t ∧ ∀ o, o ∉ offsets → t.reg o = s.reg o

theorem State.touches_refl (s : State) (xs : List Part) (offsets : List Nat) : s.touches xs offsets s :=
  ⟨State.sameBut_refl xs s, fun _ _ => rfl⟩

theorem State.touches_trans {s t u : State} {xs : List Part} {offsets : List Nat} (h : s.touches xs offsets t) (g : t.touches xs offsets u) :
    s.touches xs offsets u :=
  ⟨State.sameBut_trans h.1 g.1, fun o ho => (g.2 o ho).trans (h.2 o ho)⟩

theorem State.touches_ite {s t u : State} {xs : List Part} {offsets : List Nat} {c : Prop} [Decidable c] (h : s.touches xs offsets t)
    (g : s.touches xs offsets u) : s.touches xs offsets (if c then t else u) := by
  split
  · exact h
  · exact g

/-- A field of a register that is named. -/
theorem State.touches_set {xs : List Part} {offsets : List Nat} (hs : Part.regs ∈ xs) (s : State) (f : RegField) (v : Nat)
    (hf : f.off ∈ offsets) : s.touches xs offsets (s.set f v) :=
  ⟨State.sameBut_mono (State.sameBut_set s f v) fun _ hp => List.mem_singleton.mp hp ▸ hs,
    fun _ ho => State.reg_set_other s f v _ fun he => ho (he ▸ hf)⟩

/-- A change of parts that leaves the registers. -/
theorem State.touches_of_frame {xs ys : List Part} {s t : State} (hs : ∀ p, p ∈ ys → p ∈ xs ∧ p ≠ .regs) (offsets : List Nat)
    (h : s.sameBut ys t) : s.touches xs offsets t := by
  have hsame : s.regs = t.regs := h .regs fun hp => (hs _ hp).2 rfl
  refine ⟨State.sameBut_mono h fun p hp => (hs p hp).1, fun o _ => ?_⟩
  rw [State.reg, State.reg, hsame]

/-- A command that raises nothing, with nothing to report, ends in what its effect leaves. -/
theorem State.live_touches {xs : List Part} {offsets : List Nat} {s t u : State} (hxs : Part.evt ∉ xs ∧ Part.pending ∉ xs)
    (hquiet : s.evt.quiet = true) (h : s.touches xs offsets u) (e : s.live (.next u) = .next t) : s.touches xs offsets t := by
  obtain ⟨hevt, hqueue⟩ := hxs
  have hdone : s.done u = u := State.done_eq (s := s) (t := u) ((h.1 .evt hevt : s.evt = u.evt) ▸ hquiet) (h.1 .pending hqueue).symm
  unfold State.live at e
  split at e
  · cases e; exact State.touches_refl s xs offsets
  · cases e; rw [hdone]; exact h

theorem State.live_unit_touches {xs : List Part} {offsets : List Nat} {s t u : State} {b : Bool}
    (hxs : Part.evt ∉ xs ∧ Part.pending ∉ xs) (hquiet : s.evt.quiet = true) (h : s.touches xs offsets u)
    (e : s.live (onUnit b u) = .next t) : s.touches xs offsets t := by
  cases b with
  | true => exact State.live_touches hxs hquiet h e
  | false =>
    cases hdead : s.dead with
    | true => rw [State.live_dead _ _ hdead] at e; cases e; exact State.touches_refl s xs offsets
    | false => rw [State.live, hdead] at e; cases e

/-! The registers of check units. -/

/-- The registers that feeding a check unit changes. -/
def chkRegs (u : Nat) : List Nat := [Reg.CHK_STATE u, Reg.CHK_BYTES u, Reg.CHK_CTRL u]

/-- What a check unit is fed with, if no descriptor holds it. -/
theorem State.chkWrite_touches (s : State) (u : Nat) {f : State → State} (h : s.touches [.regs] (chkRegs u) (f s)) :
    s.touches [.regs] (chkRegs u) (s.chkWrite u f) :=
  State.touches_ite (State.touches_set (by decide) s (F.CHK_CTRL_IGNORED u) _ (.tail _ (.tail _ (.head _)))) h

/-- A new value of the check state with a new count of its bytes. -/
theorem State.setCheck_touches (s : State) (u v w : Nat) :
    s.touches [.regs] (chkRegs u) ((s.set (F.CHK_STATE_VALUE u) v).set (F.CHK_BYTES_BYTES u) w) :=
  State.touches_trans (State.touches_set (by decide) s _ _ (.head _)) (State.touches_set (by decide) _ _ _ (.tail _ (.head _)))

theorem State.chkFeed_touches (s : State) (u : Nat) (b : List Byte) : s.touches [.regs] (chkRegs u) (s.chkWrite u fun s => s.chkFeed u b) :=
  State.chkWrite_touches s u (State.setCheck_touches s u _ _)

theorem State.chkTail_touches (s : State) (u value count : Nat) : s.touches [.regs] (chkRegs u) (s.chkTail u value count) :=
  State.touches_ite (State.touches_refl s _ _) (State.chkFeed_touches s u _)

/-! Slots, tables and grammars that are disabled. -/

/-- The fields of one control register that a disabled slot, table or grammar shows. -/
theorem State.showOff_touches {xs : List Part} (hs : Part.regs ∈ xs) (s : State) {o : Nat} (en state reason : RegField) (hen : en.off = o)
    (hstate : state.off = o) (hreason : reason.off = o) : s.touches xs [o] (((s.setBit en false).set state 0).set reason 0) :=
  State.touches_trans (State.touches_trans (State.touches_set hs s en _ (List.mem_singleton.mpr hen))
    (State.touches_set hs _ _ _ (List.mem_singleton.mpr hstate))) (State.touches_set hs _ _ _ (List.mem_singleton.mpr hreason))

/-- From the frame of one register to the statement for every other. -/
theorem State.touches_one {xs : List Part} {s t : State} {o : Nat} (h : s.touches xs [o] t) :
    s.sameBut xs t ∧ ∀ p, p ≠ o → t.reg p = s.reg p :=
  ⟨h.1, fun p hp => h.2 p fun hm => hp (List.mem_singleton.mp hm)⟩

theorem State.disarm_touches (s : State) (n : Nat) :
    s.touches [.regs, .beat] [Reg.BEAT_EVT_CTL n, Reg.BEAT_STATUS] (s.disarm n) :=
  State.touches_ite (State.touches_trans (State.touches_of_frame (by decide) _ (State.sameBut_beat s _))
    (State.touches_trans (State.touches_set (by decide) _ _ _ (.head _)) (State.touches_set (by decide) _ _ _ (.tail _ (.head _)))))
    (State.touches_refl s _ _)

/-- Settles O58. -/
theorem registerCommandsChangeOnlyTheirRegisters : Obligations.RegisterCommandsChangeOnlyTheirRegisters := by
  refine fun s t hquiet => ⟨fun u c hc e => ?_, fun n e => ?_, fun n e => ?_, fun e => ?_, fun n e => ?_, fun n e => ?_, fun n e => ?_,
    fun n e => ?_, fun n e => ?_⟩
  · rcases hc with hc | ⟨v, rfl⟩ | ⟨v, n, rfl⟩
    · rw [List.mem_singleton.mp hc] at e
      exact State.live_unit_touches (by decide) hquiet (State.chkWrite_touches s u (State.setCheck_touches s u _ _)) e
    · exact State.live_unit_touches (by decide) hquiet (State.chkFeed_touches s u _) e
    · exact State.live_unit_touches (by decide) hquiet (State.chkTail_touches s u v n) e
  · exact State.live_unit_touches (by decide) hquiet (State.touches_set (by decide) s _ _ (.head _)) e
  · exact State.live_unit_touches (by decide) hquiet (State.touches_ite (State.touches_set (by decide) s _ _ (.head _)) (State.touches_refl s _ _)) e
  · exact State.live_touches (by decide) hquiet (State.touches_ite (State.touches_set (by decide) s _ _ (.head _)) (State.touches_refl s _ _)) e
  · exact State.touches_one (State.live_unit_touches (by decide) hquiet (State.touches_trans (State.showOff_touches (by decide) s _ _ _ rfl rfl rfl)
      (State.touches_of_frame (by decide) _ (State.sameBut_ls _ _))) e)
  · exact State.touches_one (State.live_unit_touches (by decide) hquiet (State.touches_trans (State.showOff_touches (by decide) s _ _ _ rfl rfl rfl)
      (State.touches_of_frame (by decide) _ (State.sameBut_gw _ _))) e)
  · exact State.touches_one (State.live_unit_touches (by decide) hquiet (State.touches_trans (State.showOff_touches (by decide) s _ _ _ rfl rfl rfl)
      (State.touches_of_frame (by decide) _ (State.sameBut_tbl _ _))) e)
  · exact State.touches_one (State.live_unit_touches (by decide) hquiet (State.touches_trans (State.showOff_touches (by decide) s _ _ _ rfl rfl rfl)
      (State.touches_of_frame (by decide) _ (State.sameBut_txt _ _))) e)
  · obtain ⟨hframe, hregs⟩ := State.live_unit_touches (by decide) hquiet (State.disarm_touches s n) e
    exact ⟨hframe, fun o hctl hstatus => hregs o (by simp [hctl, hstatus])⟩

end Sys2Proof.Machine
end
